-- ==== Sys2Proof/Word.lean ====
section
/-! DEFINITION. The word types of the LD2260 (spec/00 section 3.1, 3.2). Field arithmetic stands in
Machine/Operands.lean. -/

namespace Sys2Proof

/-- A byte: 8 bits. -/
abbrev Byte := BitVec 8

/-- A word: 16 bits (spec/00 section 3.1). -/
abbrev Word := BitVec 16

/-- A bus address: 20-bit byte address (spec/00 section 3.1). -/
abbrev Addr := BitVec 20

/-- A Tick Counter value: 32 bits, wrapping (spec/00 section 3.2, R78). -/
abbrev Tick := BitVec 32

end Sys2Proof
end

