-- ==== Sys2Proof/Syntax.lean ====
section
/-! DEFINITION. The commands of the LD2260: one constructor for each row of spec/opcode_table.json.

Every command that comes from outside the part (a processor cycle, a reset pin, a port message) carries
`dt`, the ticks that pass between the command before it and itself (log 1). Commands that are events of
the part's own clock or engine carry none: they happen when they are due. -/

namespace Sys2Proof

/-- A link port (spec/07, R117). -/
inductive Link where
  | a
  | b
deriving DecidableEq, Repr

/-- The byte-lane strobes of a processor cycle: PBLN selects the low byte, PBHN the high byte (R1). -/
structure Lanes where
  low : Bool
  high : Bool
deriving DecidableEq, Repr

/-- Both strobes: a word access. -/
def Lanes.word : Lanes := ⟨true, true⟩

/-- How a Command Word row's write puts its code into the Command Word (R4, R5, R183): a word write (the
high byte holds the tag in its low four bits), a write of the low byte alone (the row's code; the tag is the
copy's), or a write of the high byte alone (the code is the copy's, so the row is this one only while the
copy holds the row's code). -/
inductive CmdWrite where
  | word (high : Byte)
  | lowByte
  | highByte (high : Byte)
deriving DecidableEq, Repr

/-- The commands, one for each row of spec/opcode_table.json, in the table's order. -/
inductive Instr where
  /-- START_UP (R181): PORN rises with the straps CARID and CPSEL. -/
  | startUp (carid : BitVec 10) (cpsel : BitVec 3)
  /-- VRST_ASSERTED (R168). -/
  | vrstAsserted (dt : Tick)
  /-- VRST_RELEASED (R169). -/
  | vrstReleased (dt : Tick)
  /-- PROCESSOR_WRITE (R2): a write cycle at any address; `bothStrobes` is the malformed cycle of R1. -/
  | processorWrite (dt : Tick) (addr : Addr) (data : Word) (lanes : Lanes) (bothStrobes : Bool)
  /-- CAPTURE_WRITE (R45): a write cycle at an address of a capture window. -/
  | captureWrite (dt : Tick) (addr : Addr) (data : Word) (lanes : Lanes)
  /-- PERMISSION_WORD (R172): a write of Control Page word 24. -/
  | permissionWord (dt : Tick) (data : Word) (lanes : Lanes)
  /-- ATTENTION_ENABLE (R172): a write of Control Page word 25. -/
  | attentionEnable (dt : Tick) (data : Word) (lanes : Lanes)
  /-- REQUEST_CLEAR (R175): a write of Control Page word 26. -/
  | requestClear (dt : Tick) (data : Word) (lanes : Lanes)
  /-- FAULT_CLEAR (R176): a write of Control Page word 27. -/
  | faultClear (dt : Tick) (data : Word) (lanes : Lanes)
  /-- RING_READ_INDEX (R164): a write of Control Page word 28. -/
  | ringReadIndex (dt : Tick) (data : Word) (lanes : Lanes)
  /-- ACCEPTANCE (R174): a read of the Attention Word. -/
  | acceptance (dt : Tick) (lanes : Lanes)
  /-- SYNC_ERROR_COUNT_READ (R9): a read of the Sync Error Count word. -/
  | syncErrorCountRead (dt : Tick) (lanes : Lanes)
  /-- LOAD_WINDOW (R18). -/
  | loadWindow (dt : Tick) (w : CmdWrite)
  /-- CLEAR_WINDOW (R23). -/
  | clearWindow (dt : Tick) (w : CmdWrite)
  /-- QUERY_WINDOW (R187). -/
  | queryWindow (dt : Tick) (w : CmdWrite)
  /-- LOAD_COMPARE (R39). -/
  | loadCompare (dt : Tick) (w : CmdWrite)
  /-- CLEAR_COMPARE (R41). -/
  | clearCompare (dt : Tick) (w : CmdWrite)
  /-- LOAD_ALIAS (R144). -/
  | loadAlias (dt : Tick) (w : CmdWrite)
  /-- CLEAR_ALIAS (R145). -/
  | clearAlias (dt : Tick) (w : CmdWrite)
  /-- SET_RING (R161). -/
  | setRing (dt : Tick) (w : CmdWrite)
  /-- SET_RING_WAIT_END (R161): the waiting SET RING's wait is over. -/
  | setRingWaitEnd
  /-- SET_TIMING (R82). -/
  | setTiming (dt : Tick) (w : CmdWrite)
  /-- SET_MARGIN (R134). -/
  | setMargin (dt : Tick) (w : CmdWrite)
  /-- SET_LINK_ENABLE (R135, R136). -/
  | setLinkEnable (dt : Tick) (w : CmdWrite)
  /-- FORCE_CROSSOVER (R131). -/
  | forceCrossover (dt : Tick) (w : CmdWrite)
  /-- SNAPSHOT_NOW (R53). -/
  | snapshotNow (dt : Tick) (w : CmdWrite)
  /-- CLEAR_COUNTERS (R187). -/
  | clearCounters (dt : Tick) (w : CmdWrite)
  /-- RESTART_LINK (R187, R137). -/
  | restartLink (dt : Tick) (w : CmdWrite)
  /-- UNKNOWN_COMMAND (R184): a Command Word write with a code Table 11-1 does not list. -/
  | unknownCommand (dt : Tick) (code : Byte) (w : CmdWrite)
  /-- JOB_START (R158): the Memory Access Engine chooses its next job. -/
  | jobStart
  /-- MAE_WORD_CYCLE_COMPLETE (R157): an MAE write word completes on the RAM bus. -/
  | maeWordCycleComplete
  /-- PRIME_READ (R30): a PRIME job's RAM read completes. -/
  | primeRead
  /-- FRAME_START (R81): the Tick Counter reaches Fn. -/
  | frameStart
  /-- SLOT_START (R104): the Tick Counter reaches the start of slot `k`. -/
  | slotStart (k : BitVec 6)
  /-- KEY_ASSERTION (R110): the Tick Counter reaches the PREPARED burst's key tick. -/
  | keyAssertion
  /-- KEY_GUARD_EXPIRY (R112): the Tick Counter reaches the KEYED burst's expiry tick. -/
  | keyGuardExpiry
  /-- BEACON_WINDOW_OPEN (R83). -/
  | beaconWindowOpen
  /-- BEACON_WINDOW_CLOSE (R84). -/
  | beaconWindowClose
  /-- CLOSE_WAIT_TIMEOUT (R84). -/
  | closeWaitTimeout
  /-- TUNE_EXPIRY (R121). -/
  | tuneExpiry (link : Link)
  /-- SCAN_EXPIRY (R124). -/
  | scanExpiry (link : Link)
  /-- WATCH_WINDOW_CLOSE (R129). -/
  | watchWindowClose
  /-- WATCH_CLOSE_WAIT_TIMEOUT (R129). -/
  | watchCloseWaitTimeout
  /-- BST_RISE (R118). -/
  | bstRise (dt : Tick) (link : Link)
  /-- TUNED (R121). -/
  | tuned (dt : Tick) (link : Link)
  /-- SENT (R111). -/
  | sent (dt : Tick) (link : Link)
  /-- FAULT (R122): a FAULT report or a malformed message, given as the message's bytes. -/
  | fault (dt : Tick) (link : Link) (message : List Byte)
  /-- RECEIVED (R119): the report's status byte (integrity in bit 7, q in bits 5 to 0) and its burst. -/
  | received (dt : Tick) (link : Link) (status : Byte) (burst : List Byte)
  /-- POWER_ON_RESET (R13): PORN falls. -/
  | powerOnReset
  /-- PROCESSOR_READ (R12): a read cycle at any address; `bothStrobes` is the malformed cycle of R1. -/
  | processorRead (dt : Tick) (addr : Addr) (lanes : Lanes) (bothStrobes : Bool)
deriving DecidableEq, Repr

end Sys2Proof
end

