-- ==== Sys2Proof/Decode.lean ====
section
/-! DEFINITION. The command a word spells. No row of spec/opcode_table.json has bits (every row's fields are
empty), so no word spells a command (log 32). -/

namespace Sys2Proof

/-- The command that `nbits` bits `w` spell by the table: none, whatever the word. -/
def decodeTableWord (_nbits _w : Nat) : Option Instr := none

end Sys2Proof
end

