-- ==== Sys2Proof/Config.lean ====
section
/-! DEFINITION. The numbers the manual fixes for every LD2260, named once, and the one value the model
chooses for the machine around the part (the RAM's contents before anything is written). -/

namespace Sys2Proof.Config

/-- What a RAM byte that nothing has written reads as. DESIGN CHOICE (log 4, unsafe): the manual says
only "whatever RAM held" (R8, R181). -/
def ramPowerOn : Byte := 0#8

/-- The number of bytes of the address space (spec/00 section 3.1). -/
def ramBytes : Nat := 1048576

/-- Where a 16-bit counter stops (spec/00 section 3.3). -/
def counterMax : Nat := 65535

/-- The Pass-Over Count's limit (R12). -/
def passOverMax : Nat := 64

/-- The Uplink Queue's places (R55). -/
def recordsMax : Nat := 24

/-- The Capture Store, in words (R28). -/
def captureStoreWords : Nat := 1024

/-- The Staging Queue's places (R160). -/
def stagingMax : Nat := 8

/-- The MIRROR list's places (R165). -/
def mirrorListMax : Nat := 8

/-- The Suspension Stack's depth (R158). -/
def stackMax : Nat := 2

/-- The Recent Message List's places (R146). -/
def recentMax : Nat := 16

/-- The Neighbour Table's places (R126). -/
def neighboursMax : Nat := 4

/-- The Grant List's and the Contention List's places (R101). -/
def grantsMax : Nat := 8
def contentionMax : Nat := 4

/-- The selections an URGENT record is given before it is undelivered (R70). -/
def attemptsMax : Nat := 4

/-- Ticks from TUNE to its expiry (R121). -/
def tuneTicks : Nat := 20000

/-- Ticks a scanning link listens on one channel (R124). -/
def scanTicks : Nat := 1000000

/-- Ticks a waiting close or watch close waits at most (R84, R129). -/
def closeWaitTicks : Nat := 20000

/-- Half-width of the watch window, of ACQUIRE's beacon window, and the widest of HOLDOVER's
(R128, Table 5-4). -/
def wideHalf : Nat := 2000

/-- Half-width of LOCKED's beacon window (Table 5-4). -/
def lockedHalf : Nat := 500

/-- The frame starts of one dwell (R127). -/
def dwellFrames : Nat := 8

/-- The limit of one correction step, in ticks (R88). -/
def correctionMax : Int := 64

end Sys2Proof.Config
end

