-- ==== Sys2Proof/Machine/State.lean ====
section
/-! DEFINITION. The state of the LD2260: plain data, one structure for each block of the manual, holding
every item of the blocks' state tables (Tables 1-1, 2-1 to 2-3, 3-1, 4-1, 5-1, 6-1, 6-2, 7-1, 7-2, 8-1, 9-1,
10-1 and section 11.2), and its value while PORN is low. -/

namespace Sys2Proof.Machine

/-- Why a step stops with a fault: never. No command of the LD2260 stops the part; what the manual calls
faults are Fault Causes (R176) and link conditions (R122), and both are next states. -/
inductive Fault
deriving DecidableEq, Repr

/-- Why a step is refused. -/
inductive Refusal where
  /-- Raised by `exec` alone, for a command with no meaning yet; safe. No arm of `exec` raises it. -/
  | notModelled (mnemonic : String)
deriving DecidableEq, Repr

/-! ### The RAM and the bus path (spec/01) -/

/-- The RAM as a list of address and byte, addresses strictly rising, no entry equal to what an unlisted
address reads as (`Config.ramPowerOn`). -/
abbrev Memory := List Host.Cell

/-- One processor cycle as it stands on the processor-side pins (R1). -/
structure Cycle where
  read : Bool
  write : Bool
  addr : Addr
  data : Word
  lanes : Lanes
deriving DecidableEq, Repr

/-- The job kinds of Table 9-2. -/
inductive JobKind where
  | attention
  | stop
  | result
  | command
  | mirror
  | info
  | status
  | prime
deriving DecidableEq, Repr

/-- One MAE word cycle (R10, R157): the job kind it belongs to, its byte address, and the word it writes,
or `none` for the read of a PRIME job, whose image offset is `offset`. -/
structure BusWord where
  kind : JobKind
  addr : Nat
  value : Option Word
  offset : Nat
deriving DecidableEq, Repr

/-- Bus Path Unit state (Table 1-1). -/
structure BusPath where
  /-- Control Page base, a byte address (R2). -/
  base : Nat
  /-- Control Write Copy: words 0 to 15, then 24, 25 and 28 (R5). -/
  copy : List Word
  guardViolations : Nat
  /-- Pass-Over Count (R12). -/
  passOver : Nat
  /-- Hold: the processor cycle BWAIT stretches (R10 to R12). -/
  hold : Option Cycle
  /-- The MAE word cycle on the RAM bus (R10). -/
  onBus : Option BusWord
  /-- The word the last read returned on PD (R1); the model's own record of that output. -/
  pd : Word
deriving DecidableEq, Repr

/-! ### The Window Table (spec/02) -/

/-- LOCAL or RADIO (spec/00 section 2.2). -/
inductive Origin where
  | localLoad
  | radioLoad
deriving DecidableEq, Repr

/-- The record and entry classes (Table 2-2, Table 4-2). -/
inductive RecordClass where
  | urgent
  | routine
  | bulk
deriving DecidableEq, Repr

/-- LAST; WORD k; AFTER k; PERIOD n; RISE f (Table 2-2). -/
inductive TriggerMode where
  | last
  | word (k : Nat)
  | after (k : Nat)
  | period (n : Nat)
  | rise (f : Nat)
deriving DecidableEq, Repr

/-- LOADING or ACTIVE (R16). -/
inductive EntryState where
  | loading
  | active
deriving DecidableEq, Repr

/-- A gate: a flag with a sense (R50). -/
structure Gate where
  flag : Nat
  sense : Bool
deriving DecidableEq, Repr

/-- The further fields of a CAPTURE entry (Table 2-2). The image holds two bytes a word, low byte first; a
byte whose primed mark is clear is `none`. -/
structure Capture where
  state : EntryState
  mode : TriggerMode
  changedOnly : Bool
  gate : Option Gate
  escalate : Option Nat
  cls : RecordClass
  seq : Byte
  dirty : Bool
  armed : Bool
  triggerPending : Bool
  periodCount : Nat
  image : List (Option Byte)
deriving DecidableEq, Repr

/-- The further fields of a MIRROR entry (Table 2-3). -/
structure Mirror where
  guarded : Bool
  ageWord : Bool
  staleLimit : Nat
  age : Nat
  staleReported : Bool
deriving DecidableEq, Repr

/-- An entry is of kind CAPTURE or MIRROR. -/
inductive EntryBody where
  | capture (c : Capture)
  | mirror (m : Mirror)
deriving DecidableEq, Repr

/-- A Window Table entry (Table 2-1). -/
structure Entry where
  origin : Origin
  base : Nat
  length : Nat
  tag : Byte
  body : EntryBody
deriving DecidableEq, Repr

/-! ### The Field Test Unit (spec/03) -/

inductive Width where
  | low8
  | high8
  | word16
deriving DecidableEq, Repr

inductive Test where
  | eq
  | ne
  | gez
  | gtz
  | ltz
  | lez
deriving DecidableEq, Repr

/-- A loaded Compare Rule (Table 3-2). -/
structure Rule where
  origin : Origin
  window : Nat
  offset : Nat
  width : Width
  signed : Bool
  test : Test
  const : Word
  target : Nat
deriving DecidableEq, Repr

/-- Field Test Unit state (Table 3-1). Bit n of `flags` is CFn. -/
structure FieldTest where
  rules : List (Option Rule)
  flags : BitVec 8
  gatedTriggers : Nat
deriving DecidableEq, Repr

/-! ### The Uplink Queue (spec/04) -/

inductive RecordKind where
  | window
  | join
  | stopAck
  | provisionReply
deriving DecidableEq, Repr

/-- QUEUED; ON_AIR; AWAIT_ACK with its ack-due frame, which exists in that state only (R56). -/
inductive RecordState where
  | queued
  | onAir
  | awaitAck (due : BitVec 6)
deriving DecidableEq, Repr

/-- An uplink record (Table 4-2) with its oversize mark (R107). -/
structure Record where
  kind : RecordKind
  window : Option Nat
  tag : Byte
  seq : Byte
  cls : RecordClass
  flags : BitVec 8
  created : BitVec 6
  attempts : Nat
  ackedOnAir : Bool
  detached : Bool
  state : RecordState
  payload : List Byte
  oversize : Bool
deriving DecidableEq, Repr

/-- Uplink Queue state (Table 4-1). -/
structure UplinkQueue where
  records : List Record
  joinSeq : Byte
  superseded : Nat
  queueDrops : Nat
  strayAcks : Nat
  undelivered : Nat
deriving DecidableEq, Repr

/-! ### The Frame Timer (spec/05) -/

inductive LockState where
  | search
  | acquire
  | locked
  | holdover
deriving DecidableEq, Repr

/-- A Pending Layout: P and S for the frame start that follows `skip` more frame starts (R87 step 3). -/
structure PendingLayout where
  period : Nat
  slots : Nat
  skip : Nat
deriving DecidableEq, Repr

/-- How a close stands (R84, R129): not waiting, waiting for a report, or its wait has ended. -/
inductive CloseWait where
  | notWaiting
  | waiting
  | ended
deriving DecidableEq, Repr

/-- An open beacon window (R83): E, W, the compensation C it opened with, the taken mark, the quality of
the beacon taken, whether its frame has begun, and its close. -/
structure BeaconWindow where
  expected : Tick
  half : Nat
  comp : Nat
  taken : Bool
  quality : Nat
  begun : Bool
  wait : CloseWait
deriving DecidableEq, Repr

/-- The timing constants C, Tl, Tg, O and B (Table 5-3). -/
structure Timing where
  comp : Nat
  lead : Nat
  keyGuard : Nat
  overhead : Nat
  byteTime : Nat
deriving DecidableEq, Repr

/-- Frame Timer state (Table 5-1). -/
structure FrameTimer where
  tick : Tick
  /-- Frame Start F. -/
  start : Tick
  /-- Next Frame Start Fn. -/
  next : Option Tick
  /-- Frame Period P. -/
  period : Nat
  /-- Slot Count S. -/
  slots : Nat
  /-- Slot Length L. -/
  slotLength : Nat
  layout : Option PendingLayout
  pendingFrame : Option (BitVec 6)
  /-- Current Frame Number. -/
  frame : BitVec 6
  /-- Current Zone. -/
  zone : Byte
  lock : LockState
  good : Nat
  miss : Nat
  window : Option BeaconWindow
  /-- The current frame's window has opened, or the frame was seeded (R83, R90); the model's own note. -/
  windowOpened : Bool
  /-- The slots of the current frame whose start is past (R80); the model's own note. -/
  nextSlot : Nat
  syncErrors : Nat
  timing : Timing
  coChannel : Nat
  renumbers : Nat
deriving DecidableEq, Repr

/-! ### The Slot Service Unit and the Airtime Budget (spec/06) -/

/-- A grant: a run of consecutive slots (spec/06 section 6.1). -/
structure Grant where
  first : Nat
  count : Nat
deriving DecidableEq, Repr

inductive BurstPhase where
  | prepared
  | keyed
deriving DecidableEq, Repr

/-- The burst in hand (R108). Its records are the ON_AIR records of the Uplink Queue. -/
structure Burst where
  phase : BurstPhase
  link : Link
  slotStart : Tick
  keyTick : Tick
  expiryTick : Tick
  length : Nat
deriving DecidableEq, Repr

/-- Slot Service Unit state (Table 6-1); the oversize marks stand in the records. -/
structure SlotService where
  grants : List Grant
  contention : List Grant
  burst : Option Burst
  unusedGrants : Nat
  oversizeWaits : Nat
deriving DecidableEq, Repr

/-- Airtime Budget state (Table 6-2). -/
structure Airtime where
  /-- Allowance K. -/
  allowance : Nat
  /-- Credit Q. -/
  credit : Int
  restart : Bool
  spent : Nat
  earnedLatch : Nat
  spentLatch : Nat
  overrun : Nat
deriving DecidableEq, Repr

/-! ### The links and the Crossover Unit (spec/07) -/

inductive Role where
  | primary
  | standby
  | off
deriving DecidableEq, Repr

inductive Condition where
  | ready
  | tuning
  | txFault
  | portFault
deriving DecidableEq, Repr

/-- A link (Table 7-1). `a8` holds a PRIMARY link's average; a STANDBY link's figure follows its dwelt entry
(R123, `linkA8`). `txd` is the model's own record of the messages sent on TXD, oldest first. -/
structure LinkState where
  enabled : Bool
  role : Role
  condition : Condition
  channel : BitVec 4
  held : Option Tick
  nextChannel : Option (BitVec 4)
  tuneExpiry : Option Tick
  scanExpiry : Option Tick
  a8 : Nat
  txFaults : Nat
  txd : List (List Byte)
deriving DecidableEq, Repr

/-- A Neighbour Table entry (Table 7-5). -/
structure Neighbour where
  zone : Byte
  channel : BitVec 4
  a8 : Nat
  good : Nat
  lastArrival : Option Tick
  predicted : Option Tick
deriving DecidableEq, Repr

/-- The dwell: the dwelt entry by its zone, the dwell frame count and the heard mark (R127). -/
structure Dwell where
  zone : Byte
  frames : Nat
  heard : Bool
deriving DecidableEq, Repr

/-- The open watch window (R128, R129). -/
structure WatchWindow where
  taken : Bool
  quality : Nat
  wait : CloseWait
deriving DecidableEq, Repr

/-- The Dwell Beacon (Table 7-2). -/
structure DwellBeacon where
  frame : BitVec 6
  period : Nat
  slots : Nat
deriving DecidableEq, Repr

/-- The two links and the Crossover Unit's state (Tables 7-1, 7-2). -/
structure Crossover where
  linkA : LinkState
  linkB : LinkState
  neighbours : List Neighbour
  margin : Nat
  dwell : Option Dwell
  watch : Option WatchWindow
  dwellBeacon : Option DwellBeacon
  forcedCommand : Bool
  forcedProvision : Option Byte
  crossovers : Nat
deriving DecidableEq, Repr

/-! ### The Downlink Filter (spec/08) -/

inductive MessageKind where
  | stopHold
  | stopRelease
  | command
  | info
  | mirror
  | provision
  | reset
deriving DecidableEq, Repr

/-- An Alias Table entry (Table 8-4); bit n of `mask` is the kind of code n. -/
structure GroupEntry where
  origin : Origin
  address : Nat
  mask : BitVec 7
deriving DecidableEq, Repr

/-- A Recent Message List entry (Table 8-5). -/
structure Recent where
  zone : Byte
  destination : BitVec 11
  seq : Byte
  kind : MessageKind
deriving DecidableEq, Repr

/-- Downlink Filter state (Table 8-1). -/
structure DownlinkFilter where
  groups : List (Option GroupEntry)
  recent : List Recent
  downlinkErrors : Nat
  foreignDownlinks : Nat
  truncations : Nat
  duplicates : Nat
  mirrorMisses : Nat
deriving DecidableEq, Repr

/-! ### The Memory Access Engine (spec/09) -/

/-- The two classes of inbound record (Table 9-3). -/
inductive RingClass where
  | command
  | info
deriving DecidableEq, Repr

/-- A Staging Queue message (Table 9-3). -/
structure Staged where
  cls : RingClass
  source : BitVec 11
  seq : Byte
  zone : Byte
  frame : BitVec 6
  payload : List Byte
deriving DecidableEq, Repr

/-- The Ring settings: base, N, Write Index W, Read Index Rd, Reservation Index V (R161 to R164). -/
structure Ring where
  base : Nat
  slots : Nat
  w : Nat
  rd : Nat
  v : Nat
deriving DecidableEq, Repr

/-- A RESULT job's values (R155, R161): whether it writes the Ring Write Index word first, and the Result
Area's eight words in the order written, 17 to 23 and then 16. -/
structure ResultJob where
  publish : Bool
  words : List Word
deriving DecidableEq, Repr

/-- A job of the MIRROR list (R165, R166): a data job or a one-word age job. -/
inductive MirrorJob where
  | data (index : Nat) (offset : Nat) (words : List Word)
  | age (index : Nat)
deriving DecidableEq, Repr

/-- What a started job does, with its own fields (R155). -/
inductive Work where
  | attention
  | stop (words : List Word)
  | result (job : ResultJob)
  | ring (cls : RingClass) (slot : Nat) (words : List Word)
  | mirror (index : Nat) (offset : Nat) (words : List Word)
  | age (index : Nat)
  | status (restart : Bool)
  | prime (index : Nat)
deriving DecidableEq, Repr

/-- A started job: its work and its word offset (R157, R158). -/
structure Job where
  work : Work
  done : Nat
deriving DecidableEq, Repr

/-- Memory Access Engine state (Table 9-1). The stack's head is its top. -/
structure Engine where
  running : Option Job
  stack : List Job
  /-- The kinds but MIRROR whose pending job found the stack full and waits for the running job's end (R158); the model's
  own note. -/
  waits : List JobKind
  /-- How many jobs at the head of the MIRROR list wait so (R158); the model's own note. -/
  mirrorWaits : Nat
  attention : Bool
  stop : Bool
  result : Option ResultJob
  status : Bool
  mirrorList : List MirrorJob
  primeList : List Nat
  staging : List Staged
  ring : Option Ring
  /-- The finished record beyond W that waits to be published: its slot and class (R163). -/
  unpublished : Option (Nat × RingClass)
  publication : Bool
  refresh : Word
  stagingDrops : Nat
  ringOverflows : Nat
  indexFaults : Nat
  mirrorClamps : Nat
  mirrorDrops : Nat
deriving DecidableEq, Repr

/-! ### The Attention Unit (spec/10) -/

inductive StopKind where
  | hold
  | release
deriving DecidableEq, Repr

/-- The Stop State (Table 10-1). -/
structure StopState where
  held : Bool
  recorded : Bool
  kind : StopKind
  source : BitVec 11
  seq : Byte
  zone : Byte
  frame : BitVec 6
  reason : Byte
  text : List Byte
deriving DecidableEq, Repr

/-- Attention Unit state (Table 10-1). The flags stand at the bit positions of Table 11-4. -/
structure Attention where
  requests : BitVec 6
  permissions : BitVec 6
  enable : Bool
  deposited : Word
  causes : BitVec 8
  stop : StopState
  accepted : Bool
deriving DecidableEq, Repr

/-! ### The Command Unit (spec/11) -/

/-- What a WAITING command waits for (R185). `linkTune` says whether the enable's TUNE is still held. -/
inductive Awaited where
  | crossover
  | linkTune (link : Link) (held : Bool)
  | ringIdle (base : Nat) (slots : Nat)
deriving DecidableEq, Repr

/-- IDLE, EXECUTING or WAITING, with the code and tag of the command in progress (section 11.2). -/
inductive CommandState where
  | idle
  | executing (code : Byte) (tag : BitVec 4)
  | waiting (code : Byte) (tag : BitVec 4) (awaited : Awaited)
deriving DecidableEq, Repr

structure CommandUnit where
  state : CommandState
  overruns : Nat
deriving DecidableEq, Repr

/-! ### The whole part -/

/-- The LD2260 with the RAM it stands before and the queue of waiting commands. -/
structure State where
  /-- PORN is high: the part is out of power-on reset. -/
  porn : Bool
  /-- VRST is asserted. -/
  vrst : Bool
  /-- The car identity sampled from the straps (R180). -/
  carid : BitVec 10
  /-- The part is in PASS-ONLY mode (R180). -/
  passOnly : Bool
  ram : Memory
  bpu : BusPath
  wt : List (Option Entry)
  ftu : FieldTest
  uq : UplinkQueue
  ft : FrameTimer
  ssu : SlotService
  ab : Airtime
  xu : Crossover
  dlf : DownlinkFilter
  mae : Engine
  au : Attention
  cu : CommandUnit
  /-- The commands that are waiting, first in, first out. -/
  pending : List Instr
deriving DecidableEq, Repr

/-! ### Power-on values -/

def BusPath.reset : BusPath :=
  { base := 0xF0000, copy := List.replicate 19 0#16, guardViolations := 0, passOver := 0,
    hold := none, onBus := none, pd := 0#16 }

def FieldTest.reset : FieldTest :=
  { rules := List.replicate 8 none, flags := 0#8, gatedTriggers := 0 }

def UplinkQueue.reset : UplinkQueue :=
  { records := [], joinSeq := 0#8, superseded := 0, queueDrops := 0, strayAcks := 0, undelivered := 0 }

/-- The defaults of Table 5-3. -/
def Timing.reset : Timing :=
  { comp := 150, lead := 200, keyGuard := 300, overhead := 1000, byteTime := 64 }

def FrameTimer.reset : FrameTimer :=
  { tick := 0#32, start := 0#32, next := none, period := 0, slots := 0, slotLength := 0, layout := none,
    pendingFrame := none, frame := 0#6, zone := 0#8, lock := .search, good := 0, miss := 0, window := none,
    windowOpened := true, nextSlot := 0, syncErrors := 0, timing := Timing.reset, coChannel := 0,
    renumbers := 0 }

def SlotService.reset : SlotService :=
  { grants := [], contention := [], burst := none, unusedGrants := 0, oversizeWaits := 0 }

def Airtime.reset : Airtime :=
  { allowance := 0, credit := 0, restart := true, spent := 0, earnedLatch := 0, spentLatch := 0,
    overrun := 0 }

/-- Table 7-1 for a link of the given role and channel. -/
def LinkState.reset (role : Role) (channel : BitVec 4) : LinkState :=
  { enabled := true, role := role, condition := .ready, channel := channel, held := none,
    nextChannel := none, tuneExpiry := none, scanExpiry := none, a8 := 0, txFaults := 0, txd := [] }

def Crossover.reset : Crossover :=
  { linkA := LinkState.reset .primary 0#4, linkB := LinkState.reset .standby 8#4, neighbours := [],
    margin := 6, dwell := none, watch := none, dwellBeacon := none, forcedCommand := false,
    forcedProvision := none, crossovers := 0 }

def DownlinkFilter.reset : DownlinkFilter :=
  { groups := List.replicate 6 none, recent := [], downlinkErrors := 0, foreignDownlinks := 0,
    truncations := 0, duplicates := 0, mirrorMisses := 0 }

def Engine.reset : Engine :=
  { running := none, stack := [], waits := [], mirrorWaits := 0, attention := false, stop := false, result := none, status := false,
    mirrorList := [], primeList := [], staging := [], ring := none, unpublished := none,
    publication := false, refresh := 0#16, stagingDrops := 0, ringOverflows := 0, indexFaults := 0,
    mirrorClamps := 0, mirrorDrops := 0 }

/-- RELEASED, recorded mark clear, fields 0, text empty (Table 10-1). -/
def StopState.reset : StopState :=
  { held := false, recorded := false, kind := .hold, source := 0#11, seq := 0#8, zone := 0#8, frame := 0#6,
    reason := 0#8, text := [] }

def Attention.reset : Attention :=
  { requests := 0#6, permissions := 0#6, enable := false, deposited := 0x00FF#16, causes := 0#8,
    stop := StopState.reset, accepted := false }

def CommandUnit.reset : CommandUnit :=
  { state := .idle, overruns := 0 }

/-- The part while PORN is low (R13): every block at its power-on values, the RAM with nothing listed and no
command waiting (logs 3 and 4). -/
def State.reset : State :=
  { porn := false, vrst := false, carid := 0#10, passOnly := false, ram := [], bpu := BusPath.reset,
    wt := List.replicate 16 none, ftu := FieldTest.reset, uq := UplinkQueue.reset, ft := FrameTimer.reset,
    ssu := SlotService.reset, ab := Airtime.reset, xu := Crossover.reset, dlf := DownlinkFilter.reset,
    mae := Engine.reset, au := Attention.reset, cu := CommandUnit.reset, pending := [] }

end Sys2Proof.Machine
end

