-- ==== Sys2Proof/Machine/Memory.lean ====
section
/-! DEFINITION. The RAM as a list in one canonical form: reading and writing bytes and little-endian words
(spec/00 section 3.1). -/

namespace Sys2Proof.Machine

/-- The canonical form: addresses strictly rising, and no entry equal to what an unlisted address reads
as, so that equal memories are equal lists. -/
abbrev Memory.wf (m : Memory) : Prop :=
  m.Pairwise (fun x y => x.1 < y.1) ∧ ∀ c ∈ m, c.2 ≠ Config.ramPowerOn

/-- The byte at an address. -/
def readByte : Memory → Nat → Byte
  | [], _ => Config.ramPowerOn
  | (b, v) :: rest, a => if b = a then v else readByte rest a

/-- `m` with `v` put before it at `a`, unless `v` is what an unlisted address reads as. -/
def consByte (a : Nat) (v : Byte) (m : Memory) : Memory :=
  if v = Config.ramPowerOn then m else (a, v) :: m

/-- The byte at `a` becomes `v`. -/
def writeByte : Memory → Nat → Byte → Memory
  | [], a, v => consByte a v []
  | (b, w) :: rest, a, v =>
    if a < b then consByte a v ((b, w) :: rest)
    else if a = b then consByte a v rest
    else (b, w) :: writeByte rest a v

/-- The word at the even byte address `a`: low byte at `a`, high byte at `a + 1`. -/
def readWord (m : Memory) (a : Nat) : Word := readByte m (a + 1) ++ readByte m a

/-- The strobed bytes of `v` reach the word at `a` (R4). -/
def writeLanes (m : Memory) (a : Nat) (v : Word) (lanes : Lanes) : Memory :=
  let m := if lanes.low then writeByte m a (v.setWidth 8) else m
  if lanes.high then writeByte m (a + 1) ((v >>> 8).setWidth 8) else m

/-- Both bytes of `v` reach the word at `a`. -/
def writeWord (m : Memory) (a : Nat) (v : Word) : Memory := writeLanes m a v Lanes.word

end Sys2Proof.Machine
end

