-- ==== Sys2Proof/Machine/Operands.lean ====
section
/-! DEFINITION. The operand forms of the manual: byte and bit fields, tick differences, the argument words
of Table 11-1 with the codes of Table 11-2, the port messages of Table 11-9, and the beacon and downlink
bursts of Table 11-8. Everything here reads a format; nothing changes the state. -/

namespace Sys2Proof.Machine

/-! ### Bytes, words and ticks -/

def loByte (w : Word) : Byte := w.setWidth 8

def hiByte (w : Word) : Byte := (w >>> 8).setWidth 8

def mkWord (hi lo : Byte) : Word := hi ++ lo

/-- The strobed bytes of `new` merged into `old` (R4, R5). -/
def mergeLanes (old new : Word) (lanes : Lanes) : Word :=
  mkWord (if lanes.high then hiByte new else hiByte old) (if lanes.low then loByte new else loByte old)

/-- The written bytes, and zero in any byte not strobed (R5, words 26 and 27). -/
def strobedOnly (new : Word) (lanes : Lanes) : Word := mergeLanes 0#16 new lanes

/-- A Nat as a word; the fields that use it fit. -/
def word (n : Nat) : Word := BitVec.ofNat 16 n

/-- The signed difference of two tick values (spec/00 section 3.2). -/
def tickDiff (a b : Tick) : Int := (a - b).toInt

/-- `a` is before `b` (spec/00 section 3.2). -/
def tickBefore (a b : Tick) : Bool := decide (tickDiff a b < 0)

/-- `a` lies within `half` ticks either side of `center`, both ends included (R83, R128). -/
def withinTicks (a center : Tick) (half : Nat) : Bool :=
  decide (-(half : Int) ≤ tickDiff a center ∧ tickDiff a center ≤ half)

/-- A tick value and a duration, modulo 2^32. -/
def tickAdd (t : Tick) (n : Nat) : Tick := t + BitVec.ofNat 32 n

def tickSub (t : Tick) (n : Nat) : Tick := t - BitVec.ofNat 32 n

/-- A tick value moved by a signed step. -/
def tickMove (t : Tick) (n : Int) : Tick := t + BitVec.ofInt 32 n

/-! ### Codes of Table 11-2 -/

/-- The result codes. -/
inductive ResultCode where
  | done
  | doneClamped
  | badCode
  | badIndex
  | badField
  | owned
  | dupTag
  | overlap
  | noSpace
  | notActive
  | noCandidate
  | passOnly
deriving DecidableEq, Repr

def resultByte : ResultCode → Byte
  | .done => 0#8
  | .doneClamped => 1#8
  | .badCode => 2#8
  | .badIndex => 3#8
  | .badField => 4#8
  | .owned => 5#8
  | .dupTag => 6#8
  | .overlap => 7#8
  | .noSpace => 8#8
  | .notActive => 9#8
  | .noCandidate => 10#8
  | .passOnly => 11#8

def classOfCode (b : Byte) : Option RecordClass :=
  if b = 0#8 then some .urgent else if b = 1#8 then some .routine else if b = 2#8 then some .bulk else none

def classCode : RecordClass → BitVec 2
  | .urgent => 0#2
  | .routine => 1#2
  | .bulk => 2#2

def widthOfCode (b : Byte) : Option Width :=
  if b = 0#8 then some .low8 else if b = 1#8 then some .high8 else if b = 2#8 then some .word16 else none

def testOfCode (b : Byte) : Option Test :=
  if b = 0#8 then some .eq else if b = 1#8 then some .ne else if b = 2#8 then some .gez
  else if b = 3#8 then some .gtz else if b = 4#8 then some .ltz else if b = 5#8 then some .lez else none

def boolOfCode (b : Byte) : Option Bool :=
  if b = 0#8 then some false else if b = 1#8 then some true else none

/-- The message kinds; code 7 names no kind (R189). -/
def kindOfCode (k : BitVec 3) : Option MessageKind :=
  if k = 0#3 then some .stopHold else if k = 1#3 then some .stopRelease else if k = 2#3 then some .command
  else if k = 3#3 then some .info else if k = 4#3 then some .mirror else if k = 5#3 then some .provision
  else if k = 6#3 then some .reset else none

def kindCode : MessageKind → Nat
  | .stopHold => 0
  | .stopRelease => 1
  | .command => 2
  | .info => 3
  | .mirror => 4
  | .provision => 5
  | .reset => 6

def lockCode : LockState → Byte
  | .search => 0#8
  | .acquire => 1#8
  | .locked => 2#8
  | .holdover => 3#8

def conditionCode : Condition → Nat
  | .ready => 0
  | .tuning => 1
  | .txFault => 2
  | .portFault => 3

def roleCode : Role → Nat
  | .primary => 0
  | .standby => 1
  | .off => 2

/-- The Stop Slot's kind codes (Table 11-6). -/
def stopSlotKind (st : StopState) : Byte :=
  if !st.recorded then 0#8 else match st.kind with
    | .hold => 1#8
    | .release => 2#8

/-- A stop's message kind code (Table 11-7). -/
def stopKindCode : StopKind → Byte
  | .hold => 0#8
  | .release => 1#8

/-! ### The command codes (Table 11-1) -/

def codeLoadWindow : Byte := 0x01#8
def codeClearWindow : Byte := 0x02#8
def codeQueryWindow : Byte := 0x03#8
def codeLoadCompare : Byte := 0x04#8
def codeClearCompare : Byte := 0x05#8
def codeLoadAlias : Byte := 0x06#8
def codeClearAlias : Byte := 0x07#8
def codeSetRing : Byte := 0x08#8
def codeSetTiming : Byte := 0x09#8
def codeSetMargin : Byte := 0x0A#8
def codeSetLinkEnable : Byte := 0x0B#8
def codeForceCrossover : Byte := 0x0C#8
def codeSnapshotNow : Byte := 0x0D#8
def codeClearCounters : Byte := 0x0E#8
def codeRestartLink : Byte := 0x0F#8

/-- Argument word `n` of a command, 1 to 15, of the list that starts with word 1. -/
def argWord (args : List Word) (n : Nat) : Word := args.getD (n - 1) 0#16

def argNat (args : List Word) (n : Nat) : Nat := (argWord args n).toNat

/-- An address in two words: the low 16 bits, then bits 16 to 19 in the low four bits of the next (R188). -/
def argAddr (args : List Word) (n : Nat) : Nat :=
  argNat args n + 65536 * (argNat args (n + 1) % 16)

/-- The two bytes of a word sent high byte first, as the argument words of a provisioning operation
(R188). A trailing single byte is left out. -/
def wordsOfBytes : List Byte → List Word
  | hi :: lo :: rest => mkWord hi lo :: wordsOfBytes rest
  | _ => []

/-! ### LOAD WINDOW's fields (R19, Table 11-1) -/

/-- The trigger mode the fields name, if they name one for a window of this length. -/
def modeOfFields (length : Nat) (mode param : Byte) : Option TriggerMode :=
  let k := param.toNat
  if mode = 0#8 then some .last
  else if mode = 1#8 then (if k < length then some (.word k) else none)
  else if mode = 2#8 then (if k < length then some (.after k) else none)
  else if mode = 3#8 then (if 1 ≤ k ∧ k ≤ 64 then some (.period k) else none)
  else if mode = 4#8 then (if k ≤ 7 then some (.rise k) else none)
  else none

def TriggerMode.isPeriod : TriggerMode → Bool
  | .period _ => true
  | .last | .word _ | .after _ | .rise _ => false

/-- The gate field: sense 0 is none, and its flag is then not named (log 15). -/
def gateOfFields (flag sense : Byte) : Option (Option Gate) :=
  if sense = 0#8 then some none
  else if sense = 1#8 then (if flag.toNat ≤ 7 then some (some ⟨flag.toNat, true⟩) else none)
  else if sense = 2#8 then (if flag.toNat ≤ 7 then some (some ⟨flag.toNat, false⟩) else none)
  else none

/-- The escalate field: 0 is none, and its flag is then not named (log 15). -/
def escalateOfFields (flag on : Byte) : Option (Option Nat) :=
  if on = 0#8 then some none
  else if on = 1#8 then (if flag.toNat ≤ 7 then some (some flag.toNat) else none)
  else none

/-- The CAPTURE fields of a load of this length, with the values Table 2-2 gives at load. -/
def captureOfArgs (length : Nat) (args : List Word) : Option Capture := do
  let mode ← modeOfFields length (loByte (argWord args 5)) (hiByte (argWord args 5))
  let gate ← gateOfFields (loByte (argWord args 6)) (hiByte (argWord args 6))
  let escalate ← escalateOfFields (loByte (argWord args 7)) (hiByte (argWord args 7))
  let cls ← classOfCode (loByte (argWord args 8))
  let changedOnly ← boolOfCode (hiByte (argWord args 8))
  let capture : Capture :=
    { state := .loading, mode := mode, changedOnly := changedOnly, gate := gate, escalate := escalate,
      cls := cls, seq := 0#8, dirty := true, armed := false, triggerPending := false, periodCount := 0,
      image := List.replicate (2 * length) none }
  bif changedOnly && !mode.isPeriod then none else some capture

/-- The MIRROR fields of a load of this length, with the values Table 2-3 gives at load. -/
def mirrorOfArgs (length : Nat) (args : List Word) : Option Mirror :=
  let guarded := (argWord args 5).getLsbD 0
  let ageWord := (argWord args 5).getLsbD 1
  let limit := argNat args 6
  if 255 < limit then none
  else if ageWord && decide (length = 1) then none
  else some ⟨guarded, ageWord, limit, 0, false⟩

/-- The kind's own fields. -/
def bodyOfArgs (kind : Byte) (length : Nat) (args : List Word) : Option EntryBody :=
  if kind = 0#8 then (captureOfArgs length args).map .capture
  else if kind = 1#8 then (mirrorOfArgs length args).map .mirror
  else none

/-- Check 2 of Table 2-4 (R19): the entry a load gives, or none where a field is bad. -/
def entryOfArgs (origin : Origin) (args : List Word) : Option Entry :=
  let base := argAddr args 2
  let length := (loByte (argWord args 4)).toNat
  let tag := hiByte (argWord args 4)
  if base % 2 = 1 then none
  else if length = 0 ∨ 64 < length then none
  else if Config.ramBytes < base + 2 * length then none
  else if 0xF0#8 ≤ tag then none
  else (bodyOfArgs (hiByte (argWord args 1)) length args).map (⟨origin, base, length, tag, ·⟩)

/-! ### Port messages (Table 11-9) -/

/-- What a message from the transceiver is (R117). -/
inductive PortReport where
  | nothing
  | tuned
  | sent
  | received (status : Byte) (burst : List Byte)
  | fault
  | malformed
deriving DecidableEq, Repr

/-- A message's type and length fields decide (R117, R189). -/
def parseReport : List Byte → PortReport
  | [] => .nothing
  | t :: rest =>
    if t = 0x81#8 then (if rest.isEmpty then .tuned else .malformed)
    else if t = 0x82#8 then (if rest.isEmpty then .sent else .malformed)
    else if t = 0x84#8 then (if rest.isEmpty then .fault else .malformed)
    else if t = 0x83#8 then
      match rest with
      | len :: status :: burst => if burst.length = len.toNat then .received status burst else .malformed
      | _ => .malformed
    else .malformed

/-- The RECEIVED message that carries a burst. -/
def receivedMessage (status : Byte) (burst : List Byte) : List Byte :=
  0x83#8 :: BitVec.ofNat 8 burst.length :: status :: burst

def tuneMessage (channel : BitVec 4) : List Byte := [0x01#8, channel.setWidth 8]

def sendMessage (burst : List Byte) : List Byte := 0x02#8 :: BitVec.ofNat 8 burst.length :: burst

/-- Integrity good (bit 7) and q (bits 5 to 0) of a RECEIVED message. -/
def reportGood (status : Byte) : Bool := status.getLsbD 7

def reportQuality (status : Byte) : Nat := (status.setWidth 6).toNat

/-! ### Bursts (Table 11-8) -/

/-- A grant of a beacon: identity, first slot, slot count. -/
structure BeaconGrant where
  identity : BitVec 10
  first : Nat
  count : Nat
deriving DecidableEq, Repr

/-- An ack entry: identity (two whole bytes, log 16), tag, sequence. -/
structure AckEntry where
  identity : Word
  tag : Byte
  seq : Byte
deriving DecidableEq, Repr

/-- A neighbour entry: zone and channel. -/
structure NeighbourEntry where
  zone : Byte
  channel : BitVec 4
deriving DecidableEq, Repr

/-- A beacon's fields. -/
structure Beacon where
  frame : BitVec 6
  zone : Byte
  period : Nat
  slots : Nat
  allowance : Nat
  grants : List BeaconGrant
  acks : List AckEntry
  neighbours : List NeighbourEntry
deriving DecidableEq, Repr

def takeGrants : Nat → List Byte → Option (List BeaconGrant × List Byte)
  | 0, bs => some ([], bs)
  | n + 1, b1 :: b2 :: b3 :: rest =>
    let w := mkWord b1 b2
    (takeGrants n rest).map fun r =>
      (⟨(w >>> 6).setWidth 10, (w.setWidth 6).toNat, b3.toNat⟩ :: r.1, r.2)
  | _ + 1, _ => none

def takeAcks : Nat → List Byte → Option (List AckEntry × List Byte)
  | 0, bs => some ([], bs)
  | n + 1, b1 :: b2 :: tag :: seq :: rest =>
    (takeAcks n rest).map fun r => (⟨mkWord b1 b2, tag, seq⟩ :: r.1, r.2)
  | _ + 1, _ => none

def takeNeighbours : Nat → List Byte → Option (List NeighbourEntry × List Byte)
  | 0, bs => some ([], bs)
  | n + 1, zone :: ch :: rest =>
    (takeNeighbours n rest).map fun r => (⟨zone, ch.setWidth 4⟩ :: r.1, r.2)
  | _ + 1, _ => none

/-- A counted list: its count byte, then the entries. -/
def takeCounted {α : Type} (take : Nat → List Byte → Option (List α × List Byte)) :
    List Byte → Option (List α × List Byte)
  | [] => none
  | n :: rest => take n.toNat rest

/-- A beacon burst's content, or none where its structure is broken (R138). Bytes after the last neighbour
entry are ignored (R189). A burst that ends before its fixed fields or before a list's count byte is broken too
(DEDUCED, log 36). -/
def parseBeacon : List Byte → Option Beacon
  | b0 :: zone :: p2 :: p1 :: p0 :: s :: k1 :: k0 :: rest => do
    let (grants, rest) ← takeCounted takeGrants rest
    let (acks, rest) ← takeCounted takeAcks rest
    let (neighbours, _) ← takeCounted takeNeighbours rest
    some
      { frame := b0.setWidth 6, zone := zone, period := (p2 ++ p1 ++ p0 : BitVec 24).toNat, slots := s.toNat,
        allowance := ((mkWord k1 k0).setWidth 12).toNat, grants := grants, acks := acks,
        neighbours := neighbours }
  | _ => none

/-- A car message as the burst holds it (Table 8-2), its payload as long as its length field says. -/
structure CarMessage where
  destination : BitVec 11
  kind : BitVec 3
  seq : Byte
  payload : List Byte
deriving DecidableEq, Repr

/-- The declared messages, or none where the structure is broken (R141). -/
def takeMessages : Nat → List Byte → Option (List CarMessage)
  | 0, [] => some []
  | 0, _ :: _ => none
  | n + 1, b1 :: b2 :: seq :: len :: rest =>
    let w := mkWord b1 b2
    let length := (len.setWidth 6).toNat
    if rest.length < length then none
    else (takeMessages n (rest.drop length)).map
      (⟨(w >>> 5).setWidth 11, (w >>> 2).setWidth 3, seq, rest.take length⟩ :: ·)
  | _ + 1, _ => none

/-- A downlink burst's zone and messages, or none where its structure is broken (R141). A burst of fewer than 3 bytes is
broken too (DEDUCED, log 36). -/
def parseDownlink : List Byte → Option (Byte × List CarMessage)
  | _ :: zone :: count :: rest =>
    if count.toNat = 0 ∨ 8 < count.toNat then none
    else (takeMessages count.toNat rest).map (zone, ·)
  | _ => none

/-- What a received burst is, by its burst type (bits 7 to 6 of its first byte; Table 11-2). -/
inductive BurstContent where
  | beacon (b : Beacon)
  | downlink (zone : Byte) (messages : List CarMessage)
  | uplink
  | broken
deriving DecidableEq, Repr

/-- Tests 2 and 3 of R138. -/
def parseBurst (bytes : List Byte) : BurstContent :=
  match bytes with
  | [] => .broken
  | b0 :: _ =>
    let t := (b0 >>> 6).setWidth 2
    if t = 3#2 then .uplink
    else if t = 1#2 then
      match parseBeacon bytes with
      | some b => .beacon b
      | none => .broken
    else if t = 2#2 then
      match parseDownlink bytes with
      | some (zone, ms) => .downlink zone ms
      | none => .broken
    else .broken

end Sys2Proof.Machine
end

