-- ==== Sys2Proof/Machine/Flags.lean ====
section
/-! DEFINITION. Every flag computation of the manual: the saturating counters, the request flags, fault
causes and the Attention Word (spec/10), and the Condition Flags with the compare tests (R42). -/

namespace Sys2Proof.Machine

/-- A 16-bit counter increased by `k`, stopping at 65,535 (spec/00 section 3.3). -/
def counterAdd (n k : Nat) : Nat := min (n + k) Config.counterMax

/-- A 16-bit counter increased by 1. -/
def bump (n : Nat) : Nat := counterAdd n 1

/-! ### Request classes and fault causes (Tables 10-2, 10-3, 11-4) -/

inductive RequestClass where
  | stop
  | fault
  | command
  | link
  | result
  | info
deriving DecidableEq, Repr

/-- The class's bit in the Permission Word, Request Flags and Request Clear. -/
def requestBit : RequestClass → BitVec 6
  | .stop => 1#6
  | .fault => 2#6
  | .command => 4#6
  | .link => 8#6
  | .result => 16#6
  | .info => 32#6

inductive FaultCause where
  | guardWrite
  | queueDrop
  | undelivered
  | linkFault
  | ringOverflow
  | oversize
  | cmdOverrun
  | mirrorStale
deriving DecidableEq, Repr

/-- The cause's bit in Fault Clear and Fault Causes. -/
def causeBit : FaultCause → BitVec 8
  | .guardWrite => 1#8
  | .queueDrop => 2#8
  | .undelivered => 4#8
  | .linkFault => 8#8
  | .ringOverflow => 16#8
  | .oversize => 32#8
  | .cmdOverrun => 64#8
  | .mirrorStale => 128#8

/-- The Attention Word's value (R173): the highest-priority class with both flags set, or 0x00FF. -/
def attentionValue (au : Attention) : Word :=
  let q := au.requests &&& au.permissions
  if q.getLsbD 0 then 1#16
  else if q.getLsbD 1 then 2#16
  else if q.getLsbD 2 then 3#16
  else if q.getLsbD 3 then 4#16
  else if q.getLsbD 4 then 5#16
  else if q.getLsbD 5 then 6#16
  else 0x00FF#16

/-- The class an Attention Word value names (Table 10-2). -/
def classOfValue (w : Word) : Option RequestClass :=
  if w = 1#16 then some .stop
  else if w = 2#16 then some .fault
  else if w = 3#16 then some .command
  else if w = 4#16 then some .link
  else if w = 5#16 then some .result
  else if w = 6#16 then some .info
  else none

/-- The class of an inbound record's request (R171). -/
def ringRequest : RingClass → RequestClass
  | .command => .command
  | .info => .info

/-! ### The output lines -/

/-- ATTN (R172): asserted exactly when Attention Enable is set and some class has both flags. -/
def State.attn (s : State) : Bool := s.au.enable && (s.au.requests &&& s.au.permissions) != 0#6

/-- BWAIT (R10 to R12): asserted while a processor cycle is held. -/
def State.bwait (s : State) : Bool := s.bpu.hold.isSome

/-- KEYA, KEYB (R110): asserted on the link of a KEYED burst. -/
def State.key (s : State) (l : Link) : Bool :=
  match s.ssu.burst with
  | some b => decide (b.phase = .keyed) && decide (b.link = l)
  | none => false

/-! ### Condition Flags and compare rules (R42, Table 3-3) -/

/-- The value of flag `f`. -/
def conditionFlag (flags : BitVec 8) (f : Nat) : Bool := flags.getLsbD f

/-- The flags with flag `f` written. -/
def setConditionFlag (flags : BitVec 8) (f : Nat) (v : Bool) : BitVec 8 :=
  let bit := 1#8 <<< f
  if v then flags ||| bit else flags &&& ~~~bit

/-- The zero tests on the value's number. -/
def zeroTest (t : Test) (x : Int) : Bool :=
  match t with
  | .gez => decide (0 ≤ x)
  | .gtz => decide (0 < x)
  | .ltz => decide (x < 0)
  | .lez => decide (x ≤ 0)
  | .eq => false
  | .ne => false

/-- A test on a value of `n` bits (Table 3-3). -/
def testValue {n : Nat} (t : Test) (signed : Bool) (v c : BitVec n) : Bool :=
  match t with
  | .eq => decide (v = c)
  | .ne => decide (v ≠ c)
  | .gez | .gtz | .ltz | .lez => zeroTest t (if signed then v.toInt else (v.toNat : Int))

/-- A rule's result on its image word (R42). -/
def evalRule (r : Rule) (w : Word) : Bool :=
  match r.width with
  | .low8 => testValue r.test r.signed (loByte w) (loByte r.const)
  | .high8 => testValue r.test r.signed (hiByte w) (loByte r.const)
  | .word16 => testValue r.test r.signed w r.const

end Sys2Proof.Machine
end

