-- ==== Sys2Proof/Machine/Ops.lean ====
section
/-! DEFINITION. Operations several blocks share: time, the places of the tables, the requests one block makes
of another (attention, fault causes, deposits), and a command's reply. -/

namespace Sys2Proof.Machine

/-! ### Time (R78) -/

/-- The Tick Counter counts `n` ticks (R78). What falls due meanwhile is the business of Machine/Clock.lean. -/
def countTicks (n : Nat) (s : State) : State := { s with ft.tick := tickAdd s.ft.tick n }

/-! ### Places -/

def entryAt (s : State) (i : Nat) : Option Entry := s.wt.getD i none

def putEntry (i : Nat) (e : Option Entry) (s : State) : State := { s with wt := s.wt.set i e }

/-- The CAPTURE fields at index `i`. -/
def captureAt (s : State) (i : Nat) : Option Capture :=
  match entryAt s i with
  | some e =>
    match e.body with
    | .capture c => some c
    | .mirror _ => none
  | none => none

/-- The MIRROR fields at index `i`. -/
def mirrorAt (s : State) (i : Nat) : Option Mirror :=
  match entryAt s i with
  | some e =>
    match e.body with
    | .capture _ => none
    | .mirror m => some m
  | none => none

/-- The CAPTURE fields at index `i` changed by `f`; nothing where there are none. -/
def mapCapture (i : Nat) (f : Capture → Capture) (s : State) : State :=
  match entryAt s i with
  | some e =>
    match e.body with
    | .capture c => putEntry i (some { e with body := .capture (f c) }) s
    | .mirror _ => s
  | none => s

/-- The MIRROR fields at index `i` changed by `f`; nothing where there are none. -/
def mapMirror (i : Nat) (f : Mirror → Mirror) (s : State) : State :=
  match entryAt s i with
  | some e =>
    match e.body with
    | .capture _ => s
    | .mirror m => putEntry i (some { e with body := .mirror (f m) }) s
  | none => s

def linkOf (s : State) (l : Link) : LinkState :=
  match l with
  | .a => s.xu.linkA
  | .b => s.xu.linkB

def putLink (l : Link) (k : LinkState) (s : State) : State :=
  match l with
  | .a => { s with xu.linkA := k }
  | .b => { s with xu.linkB := k }

def mapLink (l : Link) (f : LinkState → LinkState) (s : State) : State := putLink l (f (linkOf s l)) s

def otherLink : Link → Link
  | .a => .b
  | .b => .a

/-- The link that holds a role, A tested first (R120: at most one link is PRIMARY). -/
def linkWithRole (s : State) (r : Role) : Option Link :=
  if s.xu.linkA.role = r then some .a else if s.xu.linkB.role = r then some .b else none

def primaryLink (s : State) : Option Link := linkWithRole s .primary

def standbyLink (s : State) : Option Link := linkWithRole s .standby

/-- The words the CAPTURE entries hold of the Capture Store (R28). -/
def entryStore : Option Entry → Nat
  | some e =>
    match e.body with
    | .capture _ => e.length
    | .mirror _ => 0
  | none => 0

def freeStore (s : State) : Nat := Config.captureStoreWords - (s.wt.map entryStore).sum

/-! ### Requests of the Memory Access Engine (R156, R167) -/

def requestAttention (s : State) : State := { s with mae.attention := true }

def requestStop (s : State) : State := { s with mae.stop := true }

def Work.isStatus : Work → Bool
  | .status _ => true
  | .attention | .stop _ | .result _ | .ring _ _ _ | .mirror _ _ _ | .age _ | .prime _ => false

/-- A suspended STATUS job takes its restart mark (R167). -/
def markRestart (j : Job) : Job :=
  match j.work with
  | .status _ => { j with work := .status true }
  | .attention | .stop _ | .result _ | .ring _ _ _ | .mirror _ _ _ | .age _ | .prime _ => j

/-- A STATUS request: merged into a suspended STATUS job, which will restart, or else pending (R156, R167). -/
def requestStatus (s : State) : State :=
  if s.mae.stack.any (fun j => j.work.isStatus) then { s with mae.stack := s.mae.stack.map markRestart }
  else { s with mae.status := true }

/-! ### The Attention Unit's flags (R171, R176) -/

/-- The request flags, permission flags and Attention Enable take new values; a change requests an
ATTENTION job (R171). -/
def setAttention (requests permissions : BitVec 6) (enable : Bool) (s : State) : State :=
  let t := { s with au.requests := requests, au.permissions := permissions, au.enable := enable }
  if s.au.requests = requests ∧ s.au.permissions = permissions ∧ s.au.enable = enable then t
  else requestAttention t

/-- A request flag is raised (R171). -/
def raiseRequest (c : RequestClass) (s : State) : State :=
  setAttention (s.au.requests ||| requestBit c) s.au.permissions s.au.enable s

/-- Request flags are cleared (R174, R175, R177). -/
def clearRequests (mask : BitVec 6) (s : State) : State :=
  setAttention (s.au.requests &&& ~~~mask) s.au.permissions s.au.enable s

/-- A fault cause is added and FAULT raised (R176). -/
def raiseCause (c : FaultCause) (s : State) : State :=
  raiseRequest .fault { s with au.causes := s.au.causes ||| causeBit c }

/-! ### The Command Unit's reply (R184, Table 11-3) -/

/-- The code and tag of the command in progress; zero while IDLE. -/
def commandInProgress (s : State) : Byte × BitVec 4 :=
  match s.cu.state with
  | .idle => (0#8, 0#4)
  | .executing code tag => (code, tag)
  | .waiting code tag _ => (code, tag)

/-- The eight Result Area words in the order a RESULT job writes them: 17 to 23, then 16. -/
def resultWords (result : ResultCode) (code : Byte) (tag : BitVec 4) (data : List Word) : List Word :=
  let d := fun n => data.getD n 0#16
  [mkWord 0#8 code, d 0, d 1, d 2, d 3, d 4, d 5, mkWord (tag.setWidth 8) (resultByte result)]

/-- The command in progress gets its result: the RESULT job is requested with its values fixed, and the
Command Unit is EXECUTING until the job completes. -/
def replyCommand (result : ResultCode) (data : List Word) (s : State) : State :=
  let (code, tag) := commandInProgress s
  { s with
    mae.result := some ⟨s.mae.publication, resultWords result code tag data⟩
    cu.state := .executing code tag }

end Sys2Proof.Machine
end

