-- ==== Sys2Proof/Machine/Uplink.lean ====
section
/-! DEFINITION. The Uplink Queue (spec/04): admission, the fates of records at a burst's end, a timeout, a
crossover or an entry into SEARCH, acknowledgements, clears and resets. -/

namespace Sys2Proof.Machine

def Record.isQueued (r : Record) : Bool := decide (r.state = .queued)

def Record.isOnAir (r : Record) : Bool := decide (r.state = .onAir)

/-- ON_AIR or AWAIT_ACK (R60). -/
def Record.inFlight (r : Record) : Bool :=
  match r.state with
  | .queued => false
  | .onAir | .awaitAck _ => true

def tagJoin : Byte := 0xF0#8
def tagStopAck : Byte := 0xF1#8
def tagProvisionReply : Byte := 0xF2#8

/-- The first element that meets `p` is replaced by `f` of it; none where no element does. -/
def updateFirst {α : Type} (p : α → Bool) (f : α → α) : List α → Option (List α)
  | [] => none
  | x :: rest => if p x then some (f x :: rest) else (updateFirst p f rest).map (x :: ·)

/-- The first element that meets `p` is removed; none where no element does. -/
def removeFirst {α : Type} (p : α → Bool) : List α → Option (List α)
  | [] => none
  | x :: rest => if p x then some rest else (removeFirst p rest).map (x :: ·)

/-! ### Admission (R61 to R64) -/

/-- The oldest QUEUED record of a class leaves the list. -/
def evictOldest (cls : RecordClass) (rs : List Record) : Option (List Record) :=
  removeFirst (fun r => r.isQueued && decide (r.cls = cls)) rs

/-- The eviction that makes room for a record of a class, if there is one (R62). -/
def makeRoom (cls : RecordClass) (rs : List Record) : Option (List Record) :=
  match cls with
  | .bulk => none
  | .routine => evictOldest .bulk rs
  | .urgent =>
    match evictOldest .bulk rs with
    | some t => some t
    | none => evictOldest .routine rs

/-- A record joins at the tail, by eviction where the list is full, or is dropped; the flag says that a drop
or an eviction was counted (R62). -/
def joinTail (q : UplinkQueue) (r : Record) : UplinkQueue × Bool :=
  if q.records.length < Config.recordsMax then ({ q with records := q.records ++ [r] }, false)
  else
    match makeRoom r.cls q.records with
    | some rs => ({ q with records := rs ++ [r], queueDrops := bump q.queueDrops }, true)
    | none => ({ q with queueDrops := bump q.queueDrops }, true)

/-- A waiting record takes a newer record's contents in its place (R61, R64, R107). -/
def supersedeBy (r w : Record) : Record :=
  { w with
    seq := r.seq, cls := r.cls, flags := r.flags, created := r.created, payload := r.payload,
    attempts := 0, oversize := false }

/-- A waiting JOIN takes a new JOIN's sequence and created frame (R63, R107). -/
def renewJoin (r w : Record) : Record :=
  { w with seq := r.seq, created := r.created, attempts := 0, oversize := false }

/-- The QUEUED record an offered record merges into (R61, R63, R64). -/
def mergesWith (r w : Record) : Bool :=
  w.isQueued && match r.kind with
    | .window => decide (w.kind = .window) && decide (w.window = r.window)
    | .join => decide (w.kind = .join)
    | .stopAck => decide (w.kind = .stopAck)
    | .provisionReply => false

/-- An offered record is merged, admitted or dropped (R61 to R64). -/
def offerTo (q : UplinkQueue) (r : Record) : UplinkQueue × Bool :=
  match r.kind with
  | .window | .stopAck =>
    match updateFirst (mergesWith r) (supersedeBy r) q.records with
    | some rs => ({ q with records := rs, superseded := bump q.superseded }, false)
    | none => joinTail q r
  | .join =>
    match updateFirst (mergesWith r) (renewJoin r) q.records with
    | some rs => ({ q with records := rs }, false)
    | none => joinTail q r
  | .provisionReply => joinTail q r

/-- A record is offered; a drop or an eviction raises QUEUE_DROP (R62, R77). -/
def offer (r : Record) (s : State) : State :=
  let (q, dropped) := offerTo s.uq r
  let t := { s with uq := q }
  if dropped then raiseCause .queueDrop t else t

/-! ### Internal records (R58, R59) -/

/-- An internal record, QUEUED, with no flags. -/
def internalRecord (kind : RecordKind) (tag seq : Byte) (cls : RecordClass) (frame : BitVec 6)
    (payload : List Byte) : Record :=
  { kind := kind, window := none, tag := tag, seq := seq, cls := cls, flags := 0#8, created := frame,
    attempts := 0, ackedOnAir := false, detached := false, state := .queued, payload := payload,
    oversize := false }

/-- A JOIN is created and offered; its payload is filled at selection (R58, R63, log 30). -/
def createJoin (s : State) : State :=
  let seq := s.uq.joinSeq + 1#8
  offer (internalRecord .join tagJoin seq .urgent s.ft.frame []) { s with uq.joinSeq := seq }

/-- The tags of the ACTIVE CAPTURE entries, in ascending index. -/
def activeTag : Option Entry → Option Byte
  | some e =>
    match e.body with
    | .capture c => if c.state = .active then some e.tag else none
    | .mirror _ => none
  | none => none

/-- A JOIN's payload at a selection (R58, Table 11-7). -/
def joinPayload (s : State) : List Byte :=
  let id : Word := s.carid.setWidth 16
  s.ft.zone :: hiByte id :: loByte id :: s.wt.filterMap activeTag

/-- A STOP_ACK for a stop (R59, Table 11-7). -/
def stopAckRecord (seq : Byte) (source : BitVec 11) (kind : StopKind) (frame : BitVec 6) : Record :=
  let src : Word := source.setWidth 16
  internalRecord .stopAck tagStopAck seq .urgent frame [hiByte src, loByte src, stopKindCode kind]

/-- A STOP_ACK built from the Stop State is offered (R59, R147, R174). -/
def offerStopAck (s : State) : State :=
  offer (stopAckRecord s.au.stop.seq s.au.stop.source s.au.stop.kind s.ft.frame) s

/-- A PROVISION_REPLY is offered (R59, R151). -/
def offerProvisionReply (seq : Byte) (result : ResultCode) (s : State) : State :=
  offer (internalRecord .provisionReply tagProvisionReply seq .routine s.ft.frame [resultByte result]) s

/-! ### Fates (R66, R67, R70, R74) -/

/-- What becomes of one record at an event. -/
inductive Fate where
  | keep (r : Record)
  | drop
  | superseded
  | undelivered
deriving DecidableEq, Repr

/-- The outcome of an event that deals with the records in list order. -/
structure Settled where
  records : List Record
  superseded : Nat
  undelivered : Nat
deriving DecidableEq, Repr

/-- Each record in list order, judged beside the others as the earlier ones have been left. -/
def settleRecords (fate : List Record → Record → Fate) : List Record → List Record → Settled
  | before, [] => ⟨before, 0, 0⟩
  | before, r :: rest =>
    match fate (before ++ rest) r with
    | .keep t => settleRecords fate (before ++ [t]) rest
    | .drop => settleRecords fate before rest
    | .superseded =>
      let w := settleRecords fate before rest
      { w with superseded := w.superseded + 1 }
    | .undelivered =>
      let w := settleRecords fate before rest
      { w with undelivered := w.undelivered + 1 }

/-- A QUEUED record the returning record would share its place with (R67). -/
def hasNewer (others : List Record) (r : Record) : Bool :=
  match r.kind with
  | .window => others.any fun w => w.isQueued && decide (w.kind = .window) && decide (w.window = r.window)
  | .stopAck => others.any fun w => w.isQueued && decide (w.kind = .stopAck)
  | .join | .provisionReply => false

/-- A record returns toward QUEUED with its place, attempts and created frame (R67, R70, R74). -/
def returnFate (others : List Record) (r : Record) : Fate :=
  if hasNewer others r then .superseded else .keep { r with state := .queued, ackedOnAir := false }

/-- The burst completes (R66). -/
def completionFate (frame : BitVec 6) (_ : List Record) (r : Record) : Fate :=
  if !r.isOnAir then .keep r
  else if r.detached || r.ackedOnAir || decide (r.kind = .join) || decide (r.cls ≠ .urgent) then .drop
  else .keep { r with state := .awaitAck (frame + 2#6) }

/-- The burst is abandoned (R67). -/
def abandonFate (others : List Record) (r : Record) : Fate :=
  if !r.isOnAir then .keep r
  else if r.detached || r.ackedOnAir then .drop
  else returnFate others r

/-- A beacon-window close: the timeouts of R69 and R70. -/
def timeoutFate (frame : BitVec 6) (others : List Record) (r : Record) : Fate :=
  match r.state with
  | .queued | .onAir => .keep r
  | .awaitAck due =>
    if 31 < (frame - due).toNat then .keep r
    else if hasNewer others r then .superseded
    else if r.attempts < Config.attemptsMax then .keep { r with state := .queued }
    else .undelivered

/-- A crossover or an entry into SEARCH: every AWAIT_ACK record returns (R74). -/
def returnAwaiting (others : List Record) (r : Record) : Fate :=
  match r.state with
  | .queued | .onAir => .keep r
  | .awaitAck _ => returnFate others r

/-- An event deals with every record; losses are counted and raise UNDELIVERED (R77). -/
def settleQueue (fate : List Record → Record → Fate) (s : State) : State :=
  let w := settleRecords fate [] s.uq.records
  let t := { s with
    uq.records := w.records
    uq.superseded := counterAdd s.uq.superseded w.superseded
    uq.undelivered := counterAdd s.uq.undelivered w.undelivered }
  if w.undelivered = 0 then t else raiseCause .undelivered t

/-! ### Acknowledgements (R68) -/

def ackMatches (e : AckEntry) (r : Record) : Bool := decide (r.tag = e.tag) && decide (r.seq = e.seq)

/-- A matching record is removed, or marked while ON_AIR. -/
def ackRecord (e : AckEntry) (r : Record) : Option Record :=
  if !ackMatches e r then some r
  else if r.isOnAir then some { r with ackedOnAir := true }
  else none

/-- One ack entry. -/
def ackEntry (carid : BitVec 10) (q : UplinkQueue) (e : AckEntry) : UplinkQueue :=
  if e.identity ≠ carid.setWidth 16 then q
  else if q.records.any (ackMatches e) then { q with records := q.records.filterMap (ackRecord e) }
  else { q with strayAcks := bump q.strayAcks }

/-- A taken beacon's ack list, in its order. -/
def takeAckList (acks : List AckEntry) (s : State) : State :=
  { s with uq := acks.foldl (ackEntry s.carid) s.uq }

/-! ### Withdrawals (R57, R72, R73, R75) -/

/-- An ON_AIR record is detached (R57). -/
def detach (r : Record) : Record := { r with detached := true, window := none }

/-- A window's clear: its record is removed, or detached while ON_AIR (R73). -/
def withdrawOf (i : Nat) (r : Record) : Option Record :=
  if r.window ≠ some i then some r else if r.isOnAir then some (detach r) else none

def withdrawWindow (i : Nat) (s : State) : State :=
  { s with uq.records := s.uq.records.filterMap (withdrawOf i) }

/-- A network reset or RESTART LINK: removed, or detached while ON_AIR (R75). -/
def withdrawAny (r : Record) : Option Record := if r.isOnAir then some (detach r) else none

/-- The queue is emptied and a JOIN created (R75). Where detached records fill the list, the JOIN is dropped and counted
with its cause by R62 and R77, although R153 raises no cause and by R179 neither reset changes the Attention Unit
(DEDUCED, log 42). -/
def emptyQueue (s : State) : State :=
  createJoin { s with uq.records := s.uq.records.filterMap withdrawAny }

/-- A take that grants the car removes a QUEUED JOIN (R72). -/
def dropQueuedJoin (s : State) : State :=
  { s with uq.records := s.uq.records.filter fun r => !(decide (r.kind = .join) && r.isQueued) }

/-- The JOIN test of a close (R71). -/
def joinTest (s : State) : State :=
  if s.ssu.grants.isEmpty && !s.uq.records.any (fun r => decide (r.kind = .join) && !r.detached) then
    createJoin s
  else s

end Sys2Proof.Machine
end

