-- ==== Sys2Proof/Machine/Attention.lean ====
section
/-! DEFINITION. The Attention Unit (spec/10): what it does with a word handed over, an acceptance, a stop, and
the completion of a STOP deposit. -/

namespace Sys2Proof.Machine

/-- The Permission Word's value sets each permission flag (R172). -/
def takePermissions (v : Word) (s : State) : State :=
  setAttention s.au.requests (v.setWidth 6) s.au.enable s

/-- The Attention Enable word's lowest bit (R172). -/
def takeEnable (v : Word) (s : State) : State :=
  setAttention s.au.requests s.au.permissions (v.getLsbD 0) s

/-- The Request Clear word clears the flags it names (R175). -/
def takeRequestClear (v : Word) (s : State) : State := clearRequests (v.setWidth 6) s

/-- The Fault Clear word removes the causes it names (R176). -/
def takeFaultClear (v : Word) (s : State) : State :=
  { s with au.causes := s.au.causes &&& ~~~(v.setWidth 8) }

/-- The class's request flag is set. -/
def requested (s : State) (c : RequestClass) : Bool := (s.au.requests &&& requestBit c) != 0#6

/-- An acceptance of the value the processor read (R174). -/
def acceptRead (v : Word) (s : State) : State :=
  match classOfValue v with
  | some c =>
    if requested s c then
      let t := setAttention (s.au.requests &&& ~~~requestBit c) s.au.permissions false s
      if c = .stop then offerStopAck { t with au.accepted := true } else t
    else s
  | none => s

/-- A stop is handed over (R148, R177). -/
def recordStop (kind : StopKind) (source : BitVec 11) (seq zone : Byte) (frame : BitVec 6)
    (payload : List Byte) (s : State) : State :=
  let stop : StopState :=
    { held := decide (kind = .hold), recorded := true, kind := kind, source := source, seq := seq,
      zone := zone, frame := frame, reason := payload.getD 0 0#8, text := (payload.drop 1).take 40 }
  requestStatus (requestStop (clearRequests (requestBit .stop)
    { s with au.stop := stop, au.accepted := false }))

/-- A STOP deposit is complete: STOP is raised unless another STOP job is pending (R178). -/
def stopDeposited (s : State) : State := if s.mae.stop then s else raiseRequest .stop s

/-- The Attention Unit at the assertion of VRST (R179). -/
def vehicleAssertAttention (s : State) : State := setAttention 0#6 0#6 false s

/-- The Attention Unit at the release of VRST (R169, R179). -/
def vehicleReleaseAttention (s : State) : State :=
  let t :=
    if s.au.stop.held then requestStop { s with au.accepted := false }
    else if s.au.stop.recorded && !s.au.accepted then requestStop s
    else s
  if t.au.causes = 0#8 then t else raiseRequest .fault t

end Sys2Proof.Machine
end

