-- ==== Sys2Proof/Machine/Engine.lean ====
section
/-! DEFINITION. The Memory Access Engine's lists and choices (spec/09): job ranks, what is pending, how a job
ends or is abandoned, the Staging Queue, the Inbound Ring and the MIRROR list. The word cycles themselves
are in Machine/EngineWords.lean. -/

namespace Sys2Proof.Machine

/-! ### Ranks and pending jobs (R155, R156, R162) -/

/-- The rank of Table 9-2, 1 highest. -/
def kindRank : JobKind → Nat
  | .attention => 1
  | .stop => 2
  | .result => 3
  | .command => 4
  | .mirror => 5
  | .info => 6
  | .status => 7
  | .prime => 8

def ringKind : RingClass → JobKind
  | .command => .command
  | .info => .info

def Work.kind : Work → JobKind
  | .attention => .attention
  | .stop _ => .stop
  | .result _ => .result
  | .ring cls _ _ => ringKind cls
  | .mirror _ _ _ => .mirror
  | .age _ => .mirror
  | .status _ => .status
  | .prime _ => .prime

/-- The ring has a free slot (R162). -/
def Ring.hasFree (r : Ring) : Bool := decide ((r.v + 1) % r.slots ≠ r.rd)

def Work.isRingOf (cls : RingClass) : Work → Bool
  | .ring c _ _ => decide (c = cls)
  | .attention | .stop _ | .result _ | .mirror _ _ _ | .age _ | .status _ | .prime _ => false

/-- A job of the class is running or suspended. -/
def ringJobInProgress (cls : RingClass) (m : Engine) : Bool :=
  m.running.any (fun j => j.work.isRingOf cls) || m.stack.any (fun j => j.work.isRingOf cls)

/-- A COMMAND or INFO job is running or suspended (R161). -/
def anyRingJob (m : Engine) : Bool := ringJobInProgress .command m || ringJobInProgress .info m

/-- A finished record of the class waits unpublished (R156, R163). -/
def hasUnpublished (cls : RingClass) (m : Engine) : Bool :=
  match m.unpublished with
  | some (_, c) => decide (c = cls)
  | none => false

/-- A SET RING is waiting (R156, R161). -/
def setRingWaiting (c : CommandUnit) : Bool :=
  match c.state with
  | .waiting _ _ (.ringIdle _ _) => true
  | .waiting _ _ .crossover | .waiting _ _ (.linkTune _ _) | .idle | .executing _ _ => false

/-- A COMMAND or INFO job is pending (R156). -/
def ringJobPending (cls : RingClass) (s : State) : Bool :=
  s.mae.staging.any (fun m => decide (m.cls = cls))
    && (match s.mae.ring with
        | some r => r.hasFree
        | none => false)
    && !ringJobInProgress cls s.mae && !hasUnpublished cls s.mae && !setRingWaiting s.cu

/-- A job of the kind is pending (R156). -/
def isPending (s : State) : JobKind → Bool
  | .attention => s.mae.attention
  | .stop => s.mae.stop
  | .result => s.mae.result.isSome
  | .command => ringJobPending .command s
  | .mirror => !s.mae.mirrorList.isEmpty
  | .info => ringJobPending .info s
  | .status => s.mae.status
  | .prime => !s.mae.primeList.isEmpty

/-- The kinds by rank, highest first (Table 9-2). -/
def rankedKinds : List JobKind := [.attention, .stop, .result, .command, .mirror, .info, .status, .prime]

/-- The highest-ranked pending job kind (R158). -/
def highestPending (s : State) : Option JobKind := rankedKinds.find? (isPending s)

/-- The kind's pending job waits for the running job's end (R158). -/
def Engine.hasWaiting (m : Engine) (k : JobKind) : Bool :=
  if k = .mirror then decide (0 < m.mirrorWaits) else decide (k ∈ m.waits)

/-- The highest-ranked pending job kind that may preempt (R158). -/
def highestFree (s : State) : Option JobKind :=
  rankedKinds.find? fun k => isPending s k && !s.mae.hasWaiting k

/-! ### Ends and abandonments (R12, R157, R159) -/

/-- The running job ends, and with it the wait of every job that found the stack full (R158). With none to follow, or
with a job suspended and none running, the Pass-Over Count becomes 0 (R12), also where a network reset abandons the
job, although R15 keeps the count at a network reset (DEDUCED, log 24). -/
def endRunning (s : State) : State :=
  let t := { s with mae.running := none, mae.waits := [], mae.mirrorWaits := 0 }
  if (highestPending t).isNone || !t.mae.stack.isEmpty then { t with bpu.passOver := 0 } else t

/-- While the stack is full, every pending job of higher rank waits for the running job's end, also once an abandonment
has freed a place (R158, log 38). -/
def noteWaits (s : State) : State :=
  match s.mae.running with
  | some j =>
    if s.mae.stack.length < Config.stackMax then s
    else
      { s with
        mae.waits := rankedKinds.filter fun k => isPending s k && decide (kindRank k < kindRank j.work.kind)
        mae.mirrorWaits := s.mae.mirrorList.length }
  | none => s

/-- Jobs whose work meets `p` are abandoned: off the stack at once, and the running one at its word boundary;
a word of it on the bus completes there, as the word of no job (R10, R159, log 5). -/
def abandonWork (p : Work → Bool) (s : State) : State :=
  let t := noteWaits s
  let t := { t with mae.stack := t.mae.stack.filter fun j => !p j.work }
  if t.mae.running.any (fun j => p j.work) then endRunning t else t

def Work.isPrimeOf (i : Nat) : Work → Bool
  | .prime k => decide (k = i)
  | .attention | .stop _ | .result _ | .ring _ _ _ | .mirror _ _ _ | .age _ | .status _ => false

def Work.isMirrorOf (i : Nat) : Work → Bool
  | .mirror k _ _ => decide (k = i)
  | .age k => decide (k = i)
  | .attention | .stop _ | .result _ | .ring _ _ _ | .status _ | .prime _ => false

def MirrorJob.index : MirrorJob → Nat
  | .data i _ _ => i
  | .age i => i

/-- The PRIME job of window `i` ends wherever it is (R26, R33, R159). -/
def dropPrime (i : Nat) (s : State) : State :=
  abandonWork (Work.isPrimeOf i) { s with mae.primeList := s.mae.primeList.filter fun k => decide (k ≠ i) }

/-- Every MIRROR job of window `i` ends wherever it is (R26, R159). -/
def dropMirror (i : Nat) (s : State) : State :=
  let others := fun (js : List MirrorJob) => js.filter fun j => decide (j.index ≠ i)
  abandonWork (Work.isMirrorOf i)
    { s with
      mae.mirrorList := others s.mae.mirrorList
      mae.mirrorWaits := (others (s.mae.mirrorList.take s.mae.mirrorWaits)).length }

/-- A PRIME job is appended (R30). -/
def appendPrime (i : Nat) (s : State) : State := { s with mae.primeList := s.mae.primeList ++ [i] }

/-! ### The MIRROR list (R165, R166) -/

/-- A MIRROR data job joins the list, or is dropped (R165). -/
def listMirror (i offset : Nat) (words : List Word) (s : State) : State :=
  if s.mae.mirrorList.length < Config.mirrorListMax then
    { s with mae.mirrorList := s.mae.mirrorList ++ [.data i offset words] }
  else { s with mae.mirrorDrops := bump s.mae.mirrorDrops }

/-- An age job is listed unless one of the window is, or the list is full (R165, R166). -/
def listAge (i : Nat) (s : State) : State :=
  if s.mae.mirrorList.any (fun j => decide (j = .age i)) then s
  else if s.mae.mirrorList.length < Config.mirrorListMax then
    { s with mae.mirrorList := s.mae.mirrorList ++ [.age i] }
  else s

/-! ### The Staging Queue (R160) -/

def Staged.isInfo (m : Staged) : Bool := decide (m.cls = .info)

/-- While the first message is an INFO message and the ring has no free slot, it is dropped (R160). -/
def dropStaleInfo (s : State) : State :=
  match s.mae.ring with
  | none => s
  | some r =>
    let n := (s.mae.staging.takeWhile Staged.isInfo).length
    if r.hasFree || decide (n = 0) then s
    else raiseCause .ringOverflow { s with
      mae.staging := s.mae.staging.drop n
      mae.ringOverflows := counterAdd s.mae.ringOverflows n }

/-- A message joins: COMMAND behind the last COMMAND, INFO at the tail. -/
def joinStaging (m : Staged) (q : List Staged) : List Staged :=
  match m.cls with
  | .command => q.filter (fun x => !x.isInfo) ++ m :: q.filter Staged.isInfo
  | .info => q ++ [m]

/-- The queue without its oldest INFO message, if it holds one. -/
def evictInfo : List Staged → Option (List Staged)
  | [] => none
  | m :: rest => if m.isInfo then some rest else (evictInfo rest).map (m :: ·)

/-- A drop or an eviction at a full Staging Queue (R160). -/
def stagingOverflow (s : State) : State :=
  raiseCause .ringOverflow { s with mae.stagingDrops := bump s.mae.stagingDrops }

/-- A COMMAND or INFO message arrives (R160). -/
def stageMessage (m : Staged) (s : State) : State :=
  match s.mae.ring with
  | none => { s with mae.stagingDrops := bump s.mae.stagingDrops }
  | some _ =>
    if s.mae.staging.length < Config.stagingMax then
      dropStaleInfo { s with mae.staging := joinStaging m s.mae.staging }
    else
      match m.cls with
      | .info => stagingOverflow s
      | .command =>
        match evictInfo s.mae.staging with
        | some q => dropStaleInfo (stagingOverflow { s with mae.staging := joinStaging m q })
        | none => stagingOverflow s

/-! ### The Inbound Ring (R161, R164) -/

/-- Byte ranges of `n` and `m` bytes at two bases share a byte. -/
def rangesMeet (a n b m : Nat) : Bool := decide (a < b + m) && decide (b < a + n)

/-- The Control Page's 512 bytes. -/
def meetsPage (s : State) (a n : Nat) : Bool := rangesMeet a n s.bpu.base 512

/-- A range shares a byte with the entry of some place but `skip`. -/
def meetsEntry (s : State) (skip : Option Nat) (a n : Nat) : Bool :=
  (List.range 16).any fun i =>
    decide (skip ≠ some i) && match entryAt s i with
      | some e => rangesMeet a n e.base (2 * e.length)
      | none => false

/-- SET RING's checks and effect once its wait is over (R161). -/
def installRing (base slots : Nat) (s : State) : State × ResultCode :=
  if slots = 0 then
    ({ s with
        mae.ring := none
        mae.unpublished := none
        mae.staging := []
        mae.stagingDrops := counterAdd s.mae.stagingDrops s.mae.staging.length }, .done)
  else if slots < 4 ∨ 64 < slots ∨ base % 2 = 1 ∨ Config.ramBytes < base + 64 * slots then (s, .badField)
  else if meetsEntry s none base (64 * slots) || meetsPage s base (64 * slots) then (s, .overlap)
  else
    (dropStaleInfo { s with
        mae.ring := some ⟨base, slots, 0, 0, 0⟩
        mae.unpublished := none
        mae.publication := true }, .done)

/-- The Ring Read Index word's value (R164). -/
def takeReadIndex (value : Nat) (s : State) : State :=
  match s.mae.ring with
  | none => s
  | some r =>
    let clamped := decide (r.slots ≤ value)
    let v := if clamped then r.slots - 1 else value
    let ok := decide ((v + r.slots - r.rd) % r.slots ≤ (r.w + r.slots - r.rd) % r.slots)
    let t := if clamped || !ok then { s with mae.indexFaults := bump s.mae.indexFaults } else s
    if ok then dropStaleInfo { t with mae.ring := some { r with rd := v } } else t

end Sys2Proof.Machine
end

