-- ==== Sys2Proof/Machine/FieldTests.lean ====
section
/-! DEFINITION. The Field Test Unit (spec/03): evaluation passes, rises, triggers, gates, escalation, the
snapshot, and loading and clearing a compare rule. -/

namespace Sys2Proof.Machine

/-! ### The snapshot (R50 to R52) -/

/-- The image as bytes, word offset 0 first. -/
def imageBytes (c : Capture) : List Byte := c.image.map (·.getD 0#8)

/-- The record's class (R51). -/
def snapshotClass (flags : BitVec 8) (c : Capture) : RecordClass :=
  match c.escalate with
  | some f => if conditionFlag flags f then .urgent else c.cls
  | none => c.cls

/-- The WINDOW record of a snapshot (R52). -/
def windowRecord (i : Nat) (tag : Byte) (flags : BitVec 8) (frame : BitVec 6) (c : Capture) : Record :=
  { kind := .window, window := some i, tag := tag, seq := c.seq + 1#8, cls := snapshotClass flags c,
    flags := flags, created := frame, attempts := 0, ackedOnAir := false, detached := false,
    state := .queued, payload := imageBytes c, oversize := false }

/-- The snapshot of the CAPTURE entry at `i` (R52). -/
def snapshot (i : Nat) (s : State) : State :=
  match entryAt s i with
  | some e =>
    match e.body with
    | .capture c =>
      offer (windowRecord i e.tag s.ftu.flags s.ft.frame c)
        (mapCapture i (fun c => { c with seq := c.seq + 1#8, dirty := false }) s)
    | .mirror _ => s
  | none => s

/-- A gate is open (R50). -/
def gateOpen (flags : BitVec 8) : Option Gate → Bool
  | none => true
  | some g => conditionFlag flags g.flag == g.sense

/-- The gate test and, where the gate is open, the snapshot (R50). -/
def gatedSnapshot (i : Nat) (c : Capture) (s : State) : State :=
  if gateOpen s.ftu.flags c.gate then snapshot i s
  else { s with ftu.gatedTriggers := bump s.ftu.gatedTriggers }

/-! ### Triggers (R46 to R49) -/

/-- A trigger fires: pending in a LOADING entry or while VRST is asserted, else the gate test (R32, R35). -/
def fireTrigger (i : Nat) (s : State) : State :=
  match captureAt s i with
  | some c =>
    if c.state = .loading ∨ s.vrst then mapCapture i (fun c => { c with triggerPending := true }) s
    else gatedSnapshot i c s
  | none => s

/-- The trigger test on a captured write to word `k` (R46, R47). -/
def triggerTest (i k : Nat) (s : State) : State :=
  match entryAt s i with
  | some e =>
    match e.body with
    | .capture c =>
      match c.mode with
      | .last => if k = e.length - 1 then fireTrigger i s else s
      | .word j => if k = j then fireTrigger i s else s
      | .after j =>
        if c.armed then fireTrigger i (mapCapture i (fun c => { c with armed := false }) s)
        else if k = j then mapCapture i (fun c => { c with armed := true }) s
        else s
      | .period _ => s
      | .rise _ => s
    | .mirror _ => s
  | none => s

/-- The PERIOD count of one entry at a frame start, and its firing (R34, R48). -/
def periodTick (s : State) (i : Nat) : State :=
  match captureAt s i with
  | some c =>
    match c.mode with
    | .period n =>
      if c.periodCount + 1 < n then mapCapture i (fun c => { c with periodCount := c.periodCount + 1 }) s
      else
        let t := mapCapture i (fun c => { c with periodCount := 0 }) s
        if c.state = .active ∧ s.vrst = false ∧ c.changedOnly ∧ c.dirty = false then t else fireTrigger i t
    | .last | .word _ | .after _ | .rise _ => s
  | none => s

/-! ### Evaluation passes (R43, R44) -/

/-- An image word; both bytes are primed in an ACTIVE image (R29). -/
def imageWord (c : Capture) (k : Nat) : Word :=
  mkWord ((c.image.getD (2 * k + 1) none).getD 0#8) ((c.image.getD (2 * k) none).getD 0#8)

/-- One rule's evaluation within a pass. -/
def evalInto (s : State) (flags : BitVec 8) (r : Rule) : BitVec 8 :=
  match captureAt s r.window with
  | some c => setConditionFlag flags r.target (evalRule r (imageWord c r.offset))
  | none => flags

def Capture.risesOn (f : Nat) (c : Capture) : Bool :=
  match c.mode with
  | .rise g => decide (g = f)
  | .last | .word _ | .after _ | .period _ => false

/-- The rise of flag `f` is offered to one entry (R44, R49). -/
def offerRiseTo (f : Nat) (s : State) (i : Nat) : State :=
  match captureAt s i with
  | some c => if c.risesOn f then fireTrigger i s else s
  | none => s

/-- The rises since `before`, in ascending flag, each to the entries in ascending index (R44). -/
def offerRises (before : BitVec 8) (s : State) : State :=
  let risen := s.ftu.flags &&& ~~~before
  (List.range 8).foldl
    (fun s f => if conditionFlag risen f then (List.range 16).foldl (offerRiseTo f) s else s) s

/-- An evaluation pass over the given rules, in ascending rule index (R43). -/
def runPass (rules : List Rule) (s : State) : State :=
  offerRises s.ftu.flags { s with ftu.flags := rules.foldl (evalInto s) s.ftu.flags }

/-- The loaded rules that meet `p`, in ascending index. -/
def rulesWhere (p : Rule → Bool) (s : State) : List Rule := (s.ftu.rules.filterMap id).filter p

/-! ### Loading and clearing rules (R38 to R41) -/

def ruleAt (s : State) (i : Nat) : Option Rule := s.ftu.rules.getD i none

/-- A rule place is emptied and its target flag set false (R41); an empty place stays as it is. -/
def clearRule (s : State) (i : Nat) : State :=
  match ruleAt s i with
  | some r => { s with
      ftu.rules := s.ftu.rules.set i none
      ftu.flags := setConditionFlag s.ftu.flags r.target false }
  | none => s

/-- The loaded rules that meet `p` are cleared, in ascending index (R25, R54). -/
def clearRulesWhere (p : Rule → Bool) (s : State) : State :=
  (List.range 8).foldl
    (fun s i =>
      match ruleAt s i with
      | some r => if p r then clearRule s i else s
      | none => s) s

/-- Check 2 of R39: the rule the arguments name, or none where a field is bad. -/
def ruleOfArgs (origin : Origin) (args : List Word) (s : State) : Option Rule :=
  let window := argNat args 2
  let offset := argNat args 3
  let target := (hiByte (argWord args 5)).toNat
  match entryAt s window, widthOfCode (loByte (argWord args 4)), boolOfCode (hiByte (argWord args 4)),
      testOfCode (loByte (argWord args 5)) with
  | some ⟨_, _, length, _, .capture _⟩, some width, some signed, some test =>
    if window ≤ 15 ∧ offset < length ∧ target ≤ 7 then
      some ⟨origin, window, offset, width, signed, test, argWord args 6, target⟩
    else none
  | _, _, _, _ => none

/-- The rule replaces the place's old one and is evaluated at once where its window is ACTIVE and VRST is not
asserted (R40). -/
def placeRule (i : Nat) (r : Rule) (s : State) : State :=
  let t := match ruleAt s i with
    | some old =>
      if old.target = r.target then s
      else { s with ftu.flags := setConditionFlag s.ftu.flags old.target false }
    | none => s
  let u := { t with ftu.rules := t.ftu.rules.set i (some r) }
  match captureAt u r.window with
  | some c => if c.state = .active ∧ u.vrst = false then runPass [r] u else u
  | none => u

def Origin.isLocal : Origin → Bool
  | .localLoad => true
  | .radioLoad => false

/-- A RADIO load or clear meets a LOCAL holder (R20, R39, R41, R144). -/
def ownedAgainst (origin : Origin) (holder : Option Origin) : Bool :=
  !origin.isLocal && holder.any Origin.isLocal

/-- LOAD COMPARE of either origin (R39, R40). -/
def loadCompare (origin : Origin) (args : List Word) (s : State) : State × ResultCode :=
  let i := argNat args 1
  if 7 < i then (s, .badIndex)
  else match ruleOfArgs origin args s with
    | none => (s, .badField)
    | some r =>
      if ownedAgainst origin ((ruleAt s i).map Rule.origin) then (s, .owned)
      else (placeRule i r s, .done)

/-- CLEAR COMPARE of either origin (R41). -/
def clearCompare (origin : Origin) (args : List Word) (s : State) : State × ResultCode :=
  let i := argNat args 1
  if 7 < i then (s, .badIndex)
  else if ownedAgainst origin ((ruleAt s i).map Rule.origin) then (s, .owned)
  else (clearRule s i, .done)

end Sys2Proof.Machine
end

