-- ==== Sys2Proof/Machine/Links.lean ====
section
/-! DEFINITION. Link roles and conditions, tuning, scanning and dwelling (spec/07), the end of a burst on a
link, and the entry into SEARCH (R96), which reaches the queue, the grants and the links. -/

namespace Sys2Proof.Machine

/-! ### What a link is doing -/

def channelWord (n : Nat) : BitVec 4 := BitVec.ofNat 4 n

/-- A burst is PREPARED or KEYED on the link (R121). -/
def burstOn (s : State) (l : Link) : Bool :=
  match s.ssu.burst with
  | some b => decide (b.link = l)
  | none => false

/-- The link's port takes and sends messages (R117). -/
def portLive (s : State) (l : Link) : Bool :=
  s.porn && !s.passOnly && decide ((linkOf s l).role ≠ .off)

/-- READY or TUNING: the link can scan or dwell (R124, R127). -/
def LinkState.usable (k : LinkState) : Bool := decide (k.condition = .ready) || decide (k.condition = .tuning)

/-- The link scans: the lock state is SEARCH, and it is enabled and READY or TUNING (R124). -/
def scanning (s : State) (l : Link) : Bool :=
  decide (s.ft.lock = .search) && (linkOf s l).enabled && (linkOf s l).usable

/-- The start channel of a scan (R124). -/
def startChannel : Link → BitVec 4
  | .a => 0#4
  | .b => 8#4

/-! ### Waiting closes (R84, R129) -/

def CloseWait.release : CloseWait → CloseWait
  | .waiting => .ended
  | .notWaiting => .notWaiting
  | .ended => .ended

/-- A beacon-window close that waits for a report of the link waits no longer (R84). -/
def releaseClose (l : Link) (s : State) : State :=
  if (linkOf s l).role = .primary then
    { s with ft.window := s.ft.window.map fun w => { w with wait := w.wait.release } }
  else s

/-- A watch close that waits for a report of the link waits no longer (R129). -/
def releaseWatch (l : Link) (s : State) : State :=
  if (linkOf s l).role = .standby then
    { s with xu.watch := s.xu.watch.map fun w => { w with wait := w.wait.release } }
  else s

/-! ### Tuning (R121) -/

/-- A TUNE is sent: the link is TUNING on its new channel for 20,000 ticks at most. -/
def sendTune (l : Link) (ch : BitVec 4) (s : State) : State :=
  releaseWatch l (releaseClose l (mapLink l (fun k =>
    { k with
      channel := ch, condition := .tuning, held := none, nextChannel := none,
      tuneExpiry := some (tickAdd s.ft.tick Config.tuneTicks), txd := k.txd ++ [tuneMessage ch] }) s))

/-- A retune names a new channel: sent, held as the next channel, or discarded in a fault (R121). -/
def retune (l : Link) (ch : BitVec 4) (s : State) : State :=
  match (linkOf s l).condition with
  | .txFault | .portFault => s
  | .tuning => mapLink l (fun k => { k with nextChannel := some ch }) s
  | .ready =>
    if burstOn s l then mapLink l (fun k => { k with nextChannel := some ch }) s else sendTune l ch s

/-- The held TUNE of a link is sent: a SET LINK ENABLE that waits for it waits for its TUNED from now on (R136, R185).
Where a later retune replaced the held channel (R121), the spec does not say what ends the wait: the TUNE that is sent
stands for the one the command held (DEDUCED, log 12). -/
def noteTuneSent (l : Link) (s : State) : State :=
  match s.cu.state with
  | .waiting code tag (.linkTune k true) =>
    if k = l then { s with cu.state := .waiting code tag (.linkTune k false) } else s
  | .waiting _ _ (.linkTune _ false) | .waiting _ _ .crossover | .waiting _ _ (.ringIdle _ _) | .idle
  | .executing _ _ => s

/-- A held next channel is sent (R121). -/
def sendNext (l : Link) (s : State) : State :=
  match (linkOf s l).nextChannel with
  | some ch => noteTuneSent l (sendTune l ch s)
  | none => s

/-! ### The end of a burst (R110 to R112, R121) -/

/-- The burst on `l` is over: a held next channel is sent if the link is READY, and else is held on, of which R121 and R122
say nothing (DEDUCED, log 50). -/
def endBurst (l : Link) (s : State) : State :=
  let t := { s with ssu.burst := none }
  if (linkOf t l).condition = .ready then sendNext l t else t

/-- The burst is abandoned: its records by R67, then its end (R110, R112). -/
def abandonBurst (s : State) : State :=
  match s.ssu.burst with
  | some b => endBurst b.link (settleQueue abandonFate { s with ssu.burst := none })
  | none => s

/-- A burst whose link has left PRIMARY, or READY before its key, is abandoned at once (Table 6-4). -/
def settleBurst (s : State) : State :=
  match s.ssu.burst with
  | some b =>
    let k := linkOf s b.link
    if k.role ≠ .primary ∨ (b.phase = .prepared ∧ k.condition ≠ .ready) then abandonBurst s else s
  | none => s

/-! ### Dwelling (R126, R127) -/

def neighbourOf (s : State) (zone : Byte) : Option Neighbour :=
  s.xu.neighbours.find? fun n => decide (n.zone = zone)

/-- The dwelt entry X. -/
def dwelt (s : State) : Option Neighbour :=
  match s.xu.dwell with
  | some d => neighbourOf s d.zone
  | none => none

/-- An entry is eligible while its zone differs from the Current Zone. -/
def Neighbour.eligible (zone : Byte) (n : Neighbour) : Bool := decide (n.zone ≠ zone)

/-- The entry of a zone changed by `f`. -/
def mapNeighbour (zone : Byte) (f : Neighbour → Neighbour) (s : State) : State :=
  { s with xu.neighbours := s.xu.neighbours.map fun n => if n.zone = zone then f n else n }

/-- The dwell ends, with its watch window (R127). A watch close that waits does not occur, also where the event that ends
the dwell ends the wait by R129 (DEDUCED, log 51). -/
def endDwell (s : State) : State :=
  { s with xu.dwell := none, xu.watch := none, xu.dwellBeacon := none }

/-- A dwell start of link `l` on entry `n` (R127). A watch close that waits in the window so discarded does not occur
(DEDUCED, log 51). -/
def startDwell (l : Link) (n : Neighbour) (s : State) : State :=
  let t := mapNeighbour n.zone (fun x => { x with good := 0, predicted := none })
    { s with xu.dwell := some ⟨n.zone, 0, false⟩, xu.watch := none, xu.dwellBeacon := none }
  let k := linkOf t l
  if k.condition = .ready ∧ k.channel = n.channel then t else retune l n.channel t

/-- The STANDBY link that can dwell, if there is one (R127). -/
def dwellingLink (s : State) : Option Link :=
  match standbyLink s with
  | some l => if (linkOf s l).enabled && (linkOf s l).usable && decide (s.ft.lock ≠ .search) then some l else none
  | none => none

/-- The dwell follows the roles, the conditions, the table and the Current Zone: a dwell that may not go on
ends or moves to the first eligible entry, and a link that becomes able to dwell starts there (R127). -/
def adjustDwell (s : State) : State :=
  match dwellingLink s with
  | none => endDwell s
  | some l =>
    match dwelt s with
    | some n =>
      if n.eligible s.ft.zone then s
      else
        match s.xu.neighbours.find? (Neighbour.eligible s.ft.zone) with
        | some x => startDwell l x s
        | none => endDwell s
    | none =>
      match s.xu.neighbours.find? (Neighbour.eligible s.ft.zone) with
      | some x => startDwell l x s
      | none => endDwell s

/-- The eligible entry after zone `z` in table order, wrapping; `z` itself comes last (R127). -/
def nextAfter (zone z : Byte) (ns : List Neighbour) : Option Neighbour :=
  let after := (ns.dropWhile fun n => decide (n.zone ≠ z)).drop 1
  let upTo := ns.takeWhile (fun n => decide (n.zone ≠ z)) ++ ns.filter (fun n => decide (n.zone = z))
  (after ++ upTo).find? (Neighbour.eligible zone)

/-- The dwell frame count at a frame start (R127). -/
def advanceDwell (s : State) : State :=
  match s.xu.dwell, dwellingLink s with
  | some d, some l =>
    if d.frames + 1 < Config.dwellFrames then { s with xu.dwell := some { d with frames := d.frames + 1 } }
    else
      match nextAfter s.ft.zone d.zone s.xu.neighbours with
      | some n =>
        if n.zone = d.zone then { s with xu.dwell := some { d with frames := 0 } } else startDwell l n s
      | none => s
  | _, _ => s

/-- The A8 a link shows (R123): a STANDBY link's follows its dwelt entry. -/
def linkA8 (s : State) (l : Link) : Nat :=
  match (linkOf s l).role with
  | .primary => (linkOf s l).a8
  | .standby =>
    match dwelt s with
    | some n => n.a8
    | none => 0
  | .off => 0

/-! ### Faults of a link (R122) -/

/-- The SET LINK ENABLE that waits on link `l` gets its result: the link's condition (R136, R185). -/
def answerLinkEnable (l : Link) (s : State) : State :=
  match s.cu.state with
  | .waiting _ _ (.linkTune k _) =>
    if k = l then replyCommand .done [word (conditionCode (linkOf s l).condition)] s else s
  | .waiting _ _ .crossover | .waiting _ _ (.ringIdle _ _) | .idle | .executing _ _ => s

/-- The dwell of a STANDBY link ends with the link's fault (R127), a waiting watch close with it (DEDUCED, log 51). -/
def endDwellOf (l : Link) (s : State) : State :=
  if (linkOf s l).role = .standby then endDwell s else s

/-- A link enters PORT-FAULT (R122); one already there stays (Table 7-4, log 10). -/
def enterPortFault (l : Link) (s : State) : State :=
  if (linkOf s l).condition = .portFault then s
  else
    let t := releaseClose l (mapLink l (fun k =>
      { k with condition := .portFault, held := none, nextChannel := none, tuneExpiry := none, scanExpiry := none }) s)
    answerLinkEnable l (settleBurst (raiseCause .linkFault (endDwellOf l t)))

/-- A link enters TX-FAULT (R122). -/
def enterTxFault (l : Link) (s : State) : State :=
  raiseCause .linkFault (endDwellOf l
    (mapLink l (fun k => { k with condition := .txFault, scanExpiry := none }) s))

/-! ### Forced requests (R131, R152) -/

/-- Every pending forced request is answered and both marks are cleared. -/
def answerForced (result : ResultCode) (s : State) : State :=
  let t := if s.xu.forcedCommand then replyCommand result [] { s with xu.forcedCommand := false } else s
  match t.xu.forcedProvision with
  | some seq => offerProvisionReply seq result { t with xu.forcedProvision := none }
  | none => t

/-! ### Entry into SEARCH (R96, R102, R116, R124) -/

/-- Lock state changes request a STATUS deposit (R97). -/
def setLock (k : LockState) (s : State) : State :=
  let t := { s with ft.lock := k }
  if s.ft.lock = k then t else requestStatus t

/-- Link `l` begins to scan at its start channel (R124). A scan expiry that still runs is dropped, of which R121 and R124
say nothing (DEDUCED, log 40). -/
def startScan (l : Link) (s : State) : State :=
  if (linkOf s l).enabled && (linkOf s l).usable then
    retune l (startChannel l) (mapLink l (fun k => { k with scanExpiry := none }) s)
  else s

/-- The timing state at an entry into SEARCH from another lock state (R96). A window whose close waits is gone without a
close, also where the event of the entry ends the wait by R84 (DEDUCED, log 47). -/
def dropTiming (s : State) : State :=
  if s.ft.lock = .search then s
  else setLock .search { s with
    ft.next := none, ft.window := none, ft.layout := none, ft.pendingFrame := none, ft.good := 0, ft.miss := 0 }

/-- Every effect of an entry into SEARCH (R96), an entry from SEARCH among them. -/
def enterSearch (s : State) : State :=
  let t := dropTiming s
  let t := { t with ssu.grants := [], ssu.contention := [], ab.restart := true }
  let t := answerForced .noCandidate (endDwell (settleQueue returnAwaiting t))
  startScan .b (startScan .a t)

end Sys2Proof.Machine
end

