-- ==== Sys2Proof/Machine/SlotService.lean ====
section
/-! DEFINITION. The Slot Service Unit and the Airtime Budget (spec/06): grants, capacity, selection and
packing, the burst's bytes, keying, and the credit. -/

namespace Sys2Proof.Machine

/-! ### Grants (R101, R104) -/

/-- The grants a beacon gives an identity: none of slot count 0, none above 64 slots, at most `n` (R101). -/
def grantsFor (id : BitVec 10) (n : Nat) (gs : List BeaconGrant) : List Grant :=
  ((gs.filter fun g => decide (g.identity = id) && decide (g.count ≠ 0)).map
    fun g => ⟨g.first, min g.count 64⟩).take n

/-- The identity of the contention grants. -/
def allCars : BitVec 10 := 1023#10

/-- A beacon's grants replace both lists, and a grant that names this car removes a QUEUED JOIN
(R72, R101, R140). -/
def takeGrantList (gs : List BeaconGrant) (s : State) : State :=
  let t := { s with
    ssu.grants := grantsFor s.carid Config.grantsMax gs
    ssu.contention := grantsFor allCars Config.contentionMax gs }
  if gs.any (fun g => decide (g.identity = s.carid)) then dropQueuedJoin t else t

def covers (gs : List Grant) (k : Nat) : Bool :=
  gs.any fun g => decide (g.first ≤ k) && decide (k < g.first + g.count)

/-- The distinct slot indexes a list covers; first slot and count reach index 126 at most. -/
def coveredSlots (gs : List Grant) : List Nat := (List.range 127).filter (covers gs)

/-- Indexes at or above S have no slot start and are counted at the frame start (R104). -/
def countBeyond (s : State) : State :=
  let n := ((coveredSlots s.ssu.grants).filter fun k => decide (s.ft.slots ≤ k)).length
  { s with ssu.unusedGrants := counterAdd s.ssu.unusedGrants n }

/-- Transmission is permitted (R95). -/
def permitted (ft : FrameTimer) : Bool :=
  match ft.lock with
  | .search | .acquire => false
  | .locked => true
  | .holdover => decide (ft.miss ≤ 4)

/-- The link a usable slot `k` sends on (R104). -/
def usableLink (s : State) (k : Nat) : Option Link :=
  match primaryLink s with
  | some l =>
    if permitted s.ft && decide ((linkOf s l).condition = .ready) && decide (2 ≤ k) && decide (k < s.ft.slots)
    then some l else none
  | none => none

/-! ### Capacity, cost and selection (R103, R105 to R107) -/

/-- The bytes a burst of the current frame's slots may hold (R103). -/
def capacity (ft : FrameTimer) : Nat :=
  let t := ft.timing
  min 255 ((ft.slotLength - (t.lead + t.keyGuard + t.overhead)) / t.byteTime)

/-- The payload a record would be sent with: a JOIN's is filled from the state (R58). -/
def sendPayload (s : State) (r : Record) : List Byte :=
  match r.kind with
  | .join => joinPayload s
  | .window | .stopAck | .provisionReply => r.payload

/-- Record header and payload (R106). -/
def cost (s : State) (r : Record) : Nat := 6 + (sendPayload s r).length

/-- QUEUED, and for a WINDOW record none of its window in flight (R60). -/
def eligible (rs : List Record) (r : Record) : Bool :=
  r.isQueued && match r.kind with
    | .window => !rs.any fun x => decide (x.window = r.window) && x.inFlight
    | .join | .stopAck | .provisionReply => true

/-- The credit test (R106). -/
def creditTest (ab : Airtime) (cls : RecordClass) (running : Nat) : Bool :=
  if ab.allowance = 0 then true
  else match cls with
    | .urgent => true
    | .routine => decide ((running : Int) ≤ ab.credit)
    | .bulk => decide ((ab.allowance : Int) ≤ ab.credit - running)

/-- Places (list positions) with their records. -/
abbrev Candidate := Nat × Record

def recordAge (frame : BitVec 6) (r : Record) : Nat := (frame - r.created).toNat

/-- A candidate goes before the first of lower age; equal ages keep their order. -/
def insertByAge (frame : BitVec 6) (c : Candidate) : List Candidate → List Candidate
  | [] => [c]
  | d :: rest =>
    if recordAge frame d.2 ≤ recordAge frame c.2 then c :: d :: rest else d :: insertByAge frame c rest

def sortByAge (frame : BitVec 6) : List Candidate → List Candidate
  | [] => []
  | c :: rest => insertByAge frame c (sortByAge frame rest)

/-- The candidates in the order R105 takes them. -/
def candidates (s : State) : List Candidate :=
  let rs := s.uq.records
  let all : List Candidate := (rs.zipIdx.map fun p => (p.2, p.1)).filter fun c => eligible rs c.2
  let ofClass := fun k => all.filter fun c => decide (c.2.cls = k)
  sortByAge s.ft.frame (ofClass .urgent) ++ ofClass .routine ++ ofClass .bulk

/-- What a selection has packed: bytes so far, places chosen in burst order, places newly marked
oversize. -/
structure Packing where
  packed : Nat
  chosen : List Nat
  oversize : List Nat
deriving DecidableEq, Repr

/-- One candidate is tested for room, then for credit (R106, R107). -/
def packOne (s : State) (cap : Nat) (p : Packing) (c : Candidate) : Packing :=
  let k := cost s c.2
  let running := p.packed + k
  if cap < running then
    if cap < k + 4 ∧ c.2.oversize = false then { p with oversize := p.oversize ++ [c.1] } else p
  else if creditTest s.ab c.2.cls running then { p with packed := running, chosen := p.chosen ++ [c.1] }
  else p

/-- The selection of one slot: the 4 header bytes, then each candidate in turn (R105 to R107). -/
def selectRecords (s : State) (cs : List Candidate) : Packing :=
  cs.foldl (packOne s (capacity s.ft)) ⟨4, [], []⟩

/-! ### The burst (R65, R107, R108, Table 11-7) -/

/-- A chosen record goes ON_AIR with its payload filled and its attempts counted (R65). -/
def goOnAir (s : State) (r : Record) : Record :=
  { r with
    state := .onAir, attempts := min Config.attemptsMax (r.attempts + 1), payload := sendPayload s r }

/-- A record's header and payload in a burst (Table 11-7). -/
def recordBytes (r : Record) : List Byte :=
  [r.tag, r.seq, r.flags, (classCode r.cls ++ r.created : BitVec 8), BitVec.ofNat 8 r.payload.length,
   BitVec.ofNat 8 r.attempts] ++ r.payload

/-- The four bytes of a burst header (Table 11-7). -/
def burstHeader (s : State) (k : BitVec 6) (n : Nat) : List Byte :=
  let idSlot : Word := s.carid ++ k
  [(3#2 ++ s.ft.frame : BitVec 8), hiByte idSlot, loByte idSlot, BitVec.ofNat 8 n]

/-- The oversize candidates a selection met are marked and counted, and raise OVERSIZE (R107). -/
def noteOversize (places : List Nat) (s : State) : State :=
  if places.isEmpty then s
  else raiseCause .oversize { s with
    uq.records := s.uq.records.mapIdx fun i r => if i ∈ places then { r with oversize := true } else r
    ssu.oversizeWaits := counterAdd s.ssu.oversizeWaits places.length }

/-- The preparation is completed: the chosen records go ON_AIR, SEND goes to the link, and the burst is
PREPARED (R108). With none chosen the burst is empty and nothing is sent (R107). -/
def sendBurst (l : Link) (k : BitVec 6) (p : Packing) (s : State) : State :=
  if p.chosen.isEmpty then s
  else
    let t := { s with uq.records := s.uq.records.mapIdx fun i r => if i ∈ p.chosen then goOnAir s r else r }
    let bytes := burstHeader s k p.chosen.length ++
      (p.chosen.filterMap fun i => t.uq.records[i]?).flatMap recordBytes
    let start := tickAdd s.ft.start (k.toNat * s.ft.slotLength)
    let b : Burst :=
      { phase := .prepared, link := l, slotStart := start, keyTick := tickAdd start s.ft.timing.lead,
        expiryTick := tickAdd start (s.ft.slotLength - s.ft.timing.keyGuard), length := p.packed }
    mapLink l (fun x => { x with txd := x.txd ++ [sendMessage bytes] }) { t with ssu.burst := some b }

/-- Selection and packing over the given candidates (R105 to R108). -/
def prepare (l : Link) (k : BitVec 6) (cs : List Candidate) (s : State) : State :=
  let p := selectRecords s cs
  sendBurst l k p (noteOversize p.oversize s)

/-- The car's turn in the contention slots (R109). -/
def contentionTurn (s : State) : Bool := decide (s.ft.frame.toNat % 4 = s.carid.toNat % 4)

def queuedJoins (s : State) : List Candidate :=
  (candidates s).filter fun c => decide (c.2.kind = .join)

/-- The start of slot `k` as the Slot Service Unit acts on it (R104, R109). A usable slot is not prepared
while a burst is in flight (log 26), nor where its start is `late` (log 17). -/
def serveSlot (k : BitVec 6) (late : Bool) (s : State) : State :=
  if covers s.ssu.grants k.toNat then
    match usableLink s k.toNat with
    | some l => if late || s.ssu.burst.isSome then s else prepare l k (candidates s) s
    | none => { s with ssu.unusedGrants := bump s.ssu.unusedGrants }
  else if covers s.ssu.contention k.toNat && s.ssu.grants.isEmpty && contentionTurn s then
    match usableLink s k.toNat with
    | some l => if late || s.ssu.burst.isSome then s else prepare l k (queuedJoins s) s
    | none => s
  else s

/-! ### Credit (R114 to R116) -/

/-- The burst's bytes are taken at the key (R114). -/
def chargeCredit (n : Nat) (ab : Airtime) : Airtime :=
  let spent := counterAdd ab.spent n
  let floor : Int := -4 * ab.allowance
  if ab.allowance = 0 then { ab with spent := spent }
  else if ab.credit - n < floor then
    { ab with spent := spent, credit := floor, overrun := counterAdd ab.overrun (floor - (ab.credit - n)).toNat }
  else { ab with spent := spent, credit := ab.credit - n }

/-- The Airtime Budget at a frame start (R115). -/
def creditFrame (ab : Airtime) : Airtime :=
  { ab with
    earnedLatch := ab.allowance, credit := min (ab.credit + ab.allowance) (8 * ab.allowance),
    spentLatch := ab.spent, spent := 0 }

/-- A taken beacon's allowance (R116). -/
def takeAllowance (k : Nat) (ab : Airtime) : Airtime :=
  let q := if k = ab.allowance then ab.credit else max (-4 * (k : Int)) (min ab.credit (8 * k))
  { ab with allowance := k, credit := if ab.restart then k else q, restart := false }

/-! ### Keying (R110 to R113) -/

/-- The key tick of a PREPARED burst (R110). -/
def keyDue (s : State) : Option Tick :=
  s.ssu.burst.bind fun b => if b.phase = .prepared then some b.keyTick else none

/-- The expiry tick of a KEYED burst (R112). -/
def expiryDue (s : State) : Option Tick :=
  s.ssu.burst.bind fun b => if b.phase = .keyed then some b.expiryTick else none

/-- The key of a PREPARED burst: the key and the charge, or the abandonment (R110). -/
def keyBurst (s : State) : State :=
  match s.ssu.burst with
  | some b =>
    if b.phase = .prepared then
      if (linkOf s b.link).role = .primary ∧ (linkOf s b.link).condition = .ready then
        { s with ssu.burst := some { b with phase := .keyed }, ab := chargeCredit b.length s.ab }
      else abandonBurst s
    else s
  | none => s

/-- One more consecutive transmit fault; the third on a READY link is TX-FAULT (R112, R122). -/
def countTxFault (l : Link) (s : State) : State :=
  let n := min 3 ((linkOf s l).txFaults + 1)
  let t := mapLink l (fun k => { k with txFaults := n }) s
  if n = 3 ∧ (linkOf t l).condition = .ready then enterTxFault l t else t

/-- The expiry of a KEYED burst: abandonment and a transmit fault (R112). The fault is counted before
a held next channel is sent, since that needs a READY link (R121; DEDUCED, log 50). -/
def expireBurst (s : State) : State :=
  match s.ssu.burst with
  | some b =>
    if b.phase = .keyed then
      endBurst b.link (countTxFault b.link (settleQueue abandonFate { s with ssu.burst := none }))
    else s
  | none => s

/-- A SENT report from link `l`: completion of a burst KEYED there, else nothing (R111, R113). -/
def completeBurst (l : Link) (s : State) : State :=
  match s.ssu.burst with
  | some b =>
    if b.phase = .keyed ∧ b.link = l then
      endBurst l (settleQueue (completionFate s.ft.frame)
        (mapLink l (fun k => { k with txFaults := 0 }) { s with ssu.burst := none }))
    else s
  | none => s

end Sys2Proof.Machine
end

