-- ==== Sys2Proof/Machine/FrameTimer.lean ====
section
/-! DEFINITION. The Frame Timer (spec/05) and what its events bring about in the other blocks: frame starts
with the crossover decision (R130 to R133), beacon windows and their closes, taking a beacon, and the lock
states. -/

namespace Sys2Proof.Machine

/-! ### Seeding (R90) -/

/-- The slots whose start is not after the current tick (R90, log 17). -/
def slotsPast (tick start : Tick) (slotLength : Nat) : Nat :=
  if tickDiff tick start < 0 then 0 else (tickDiff tick start).toNat / slotLength + 1

/-- The whole periods a past arrival is advanced by, until its frame's end is after the tick (R90). That end decides also
where the arrival itself is at most one period past, of which R90 and R133 do not speak (DEDUCED, log 49). -/
def wholePeriods (tick start : Tick) (period : Nat) : Nat :=
  if tickDiff tick start < 0 then 0 else (tickDiff tick start).toNat / period

/-- The frame begun at `start`, of the given number, zone, period and slot count (R90). -/
def seedFrame (start : Tick) (frame : BitVec 6) (zone : Byte) (period slots : Nat) (ft : FrameTimer) :
    FrameTimer :=
  { ft with
    start := start, next := some (tickAdd start period), period := period, slots := slots,
    slotLength := period / slots, layout := none, pendingFrame := none, frame := frame, zone := zone,
    window := none, windowOpened := true, nextSlot := slotsPast ft.tick start (period / slots) }

/-- Seeding from a beacon just received (R90). -/
def seedFrom (arrival : Tick) (b : Beacon) (ft : FrameTimer) : FrameTimer :=
  seedFrame (tickSub arrival ft.timing.comp) b.frame b.zone b.period b.slots ft

/-- Seeding at a crossover, advanced by whole periods (R90, R133 step 3). -/
def seedAhead (arrival : Tick) (zone : Byte) (b : DwellBeacon) (ft : FrameTimer) : FrameTimer :=
  let start := tickSub arrival ft.timing.comp
  let n := wholePeriods ft.tick start b.period
  seedFrame (tickAdd start (n * b.period)) (b.frame + BitVec.ofNat 6 n) zone b.period b.slots ft

/-- The lock state becomes LOCKED (R93). -/
def enterLocked (s : State) : State :=
  setLock .locked { s with ft.good := 0, ft.miss := 0, ft.syncErrors := 0 }

/-- The lock state becomes ACQUIRE with a good count (R91, R92). -/
def enterAcquire (good : Nat) (s : State) : State :=
  setLock .acquire { s with ft.good := good, ft.miss := 0 }

/-! ### The opening of a beacon window (R79, R83) -/

/-- W of Table 5-4. -/
def windowHalf (ft : FrameTimer) : Nat :=
  match ft.lock with
  | .search => 0
  | .acquire => Config.wideHalf
  | .locked => Config.lockedHalf
  | .holdover => min (Config.lockedHalf + 250 * ft.miss) Config.wideHalf

/-- The frame start whose window opens next, and whether that frame has begun (R83). -/
def windowFrame (ft : FrameTimer) : Option (Tick × Bool) :=
  if ft.lock = .search ∨ ft.window.isSome then none
  else if ft.windowOpened then ft.next.map (·, false)
  else some (ft.start, true)

/-- T0 + C - W, where a window is to open (R83). -/
def openDue (s : State) : Option Tick :=
  (windowFrame s.ft).map fun f => tickSub (tickAdd f.1 s.ft.timing.comp) (windowHalf s.ft)

/-- The window opens (R83). -/
def openWindow (s : State) : State :=
  match windowFrame s.ft with
  | some (t0, begun) =>
    let w : BeaconWindow :=
      { expected := tickAdd t0 s.ft.timing.comp, half := windowHalf s.ft, comp := s.ft.timing.comp,
        taken := false, quality := 0, begun := begun, wait := .notWaiting }
    { s with ft.window := some w, ft.windowOpened := begun || s.ft.windowOpened }
  | none => s

/-- A window opening that a seeding has put at the present tick or before follows the seeding at once (R79). -/
def followOpening (s : State) : State :=
  match openDue s with
  | some at_ => if 0 < tickDiff at_ s.ft.tick then s else openWindow s
  | none => s

/-! ### Frame start (R81, R166, R130 to R133) -/

/-- R81's changes at the frame start `fn`. -/
def beginFrame (fn : Tick) (ft : FrameTimer) : FrameTimer :=
  let now := match ft.layout with
    | some y => if y.skip = 0 then (y.period, y.slots) else (ft.period, ft.slots)
    | none => (ft.period, ft.slots)
  let later := match ft.layout with
    | some y => if y.skip = 0 then none else some { y with skip := y.skip - 1 }
    | none => none
  { ft with
    start := fn, next := some (tickAdd fn now.1), period := now.1, slots := now.2,
    slotLength := now.1 / now.2, layout := later, frame := ft.pendingFrame.getD (ft.frame + 1#6),
    pendingFrame := none, window := ft.window.map fun w => { w with begun := true },
    windowOpened := ft.window.any fun w => !w.begun, nextSlot := 0 }

/-- The Age of one mirror window at a frame start (R166). -/
def ageTick (s : State) (i : Nat) : State :=
  match mirrorAt s i with
  | some m =>
    let age := min 255 (m.age + 1)
    let stale := decide (m.staleLimit ≠ 0) && decide (m.staleLimit ≤ age) && !m.staleReported
    let t := mapMirror i (fun m => { m with age := age, staleReported := m.staleReported || stale }) s
    let u := if m.ageWord then listAge i t else t
    if stale then raiseCause .mirrorStale u else u
  | none => s

/-- A standby that qualifies for a forced crossover: dwelling with its heard mark set (R131), with what the
seeding needs of it. -/
def qualifiedStandby (s : State) : Option (Link × Neighbour × DwellBeacon × Tick) :=
  match dwellingLink s, s.xu.dwell, dwelt s, s.xu.dwellBeacon with
  | some l, some d, some n, some b =>
    match n.lastArrival with
    | some a => if d.heard then some (l, n, b, a) else none
    | none => none
  | _, _, _, _ => none

/-- The roles swap: link `l`, the STANDBY, becomes PRIMARY with its entry's A8 (R133 steps 1 and 2). -/
def swapRoles (l : Link) (a8 : Nat) (s : State) : State :=
  settleBurst (requestStatus
    (mapLink (otherLink l) (fun k => { k with role := .standby, a8 := 0 })
      (mapLink l (fun k => { k with role := .primary, a8 := a8 }) s)))

/-- A crossover of standby link `l` to entry `n` (R133, in its order). A JOIN that meets a full list is counted with its
cause by R62 and R77, although R133 raises no cause and by R179 only LINK is raised (DEDUCED, log 42). -/
def crossOver (l : Link) (n : Neighbour) (b : DwellBeacon) (arrival : Tick) (s : State) : State :=
  let t := swapRoles l n.a8 s
  let t := { t with ft := seedAhead arrival n.zone b t.ft }
  let t := if 3 ≤ n.good then enterLocked t else enterAcquire n.good t
  let t := { t with ssu.grants := [], ssu.contention := [] }
  let t := createJoin (settleQueue returnAwaiting t)
  let t := raiseRequest .link (adjustDwell (endDwell t))
  followOpening { t with xu.crossovers := bump t.xu.crossovers }

/-- The PRIMARY link is in TX-FAULT or PORT-FAULT (R132). -/
def primaryFaulted (s : State) : Bool :=
  match primaryLink s with
  | some l => !((linkOf s l).usable)
  | none => false

def forcedPending (s : State) : Bool := s.xu.forcedCommand || s.xu.forcedProvision.isSome

/-- The ordinary conditions (R130). -/
def ordinaryTest (s : State) (l : Link) (n : Neighbour) : Bool :=
  decide ((linkOf s l).condition = .ready) && decide (4 ≤ n.good) &&
    match primaryLink s with
    | some p => decide (linkA8 s p + 8 * s.xu.margin ≤ n.a8)
    | none => false

/-- The Crossover Unit's decision at a frame start: forced requests and a faulted primary first, then the
ordinary conditions; with no crossover the dwell frame count advances (R127, R130 to R132, log 13). -/
def decideCrossover (s : State) : State :=
  match qualifiedStandby s with
  | some (l, n, b, a) =>
    if forcedPending s || primaryFaulted s then answerForced .done (crossOver l n b a s)
    else if ordinaryTest s l n then crossOver l n b a s
    else advanceDwell s
  | none => advanceDwell (answerForced .noCandidate s)

/-- The frame start of the frame that begins at `fn`, delivered to each block in the order of R130. -/
def frameStartAt (fn : Tick) (s : State) : State :=
  let t := { s with ft := beginFrame fn s.ft }
  let t := (List.range 16).foldl periodTick t
  let t := { t with ab := creditFrame t.ab }
  let t := requestStatus ((List.range 16).foldl ageTick t)
  decideCrossover (countBeyond t)

/-- Fn, where a frame start is to come: outside SEARCH (R81). -/
def frameStartDue (s : State) : Option Tick := if s.ft.lock = .search then none else s.ft.next

/-- The frame start at Fn; in SEARCH there is none (R81). -/
def runFrameStart (s : State) : State :=
  match frameStartDue s with
  | some fn => frameStartAt fn s
  | none => s

/-- A frame start that a setting of Fn has made due follows the take at once (R79, R87). -/
def followFrameStart (s : State) : State :=
  match frameStartDue s with
  | some fn => if 0 < tickDiff fn s.ft.tick then s else frameStartAt fn s
  | none => s

/-- The start of slot `k` of the current frame. -/
def slotTick (s : State) (k : Nat) : Tick := tickAdd s.ft.start (k * s.ft.slotLength)

/-- When the start of slot `k` is delivered, if it still is in this frame (R80, log 17). -/
def slotDue (s : State) (k : Nat) : Option Tick :=
  let runs : Bool := match s.ft.next with
    | some fn => tickBefore (slotTick s k) fn
    | none => false
  if s.ft.lock ≠ .search ∧ k < s.ft.slots ∧ s.ft.nextSlot ≤ k ∧ runs then some (slotTick s k) else none

/-- The start of slot `k` is delivered; one that was past when its frame began is late (R80, log 17). -/
def slotStartAt (k : BitVec 6) (s : State) : State :=
  match slotDue s k.toNat with
  | some at_ => serveSlot k (tickBefore at_ s.ft.tick) { s with ft.nextSlot := k.toNat + 1 }
  | none => s

/-! ### The close of a beacon window (R84) -/

/-- The quality average of the PRIMARY link at a close (R123). -/
def averageQuality (q : Nat) (s : State) : State :=
  match primaryLink s with
  | some l => mapLink l (fun k => { k with a8 := k.a8 - k.a8 / 8 + q }) s
  | none => s

/-- A miss in each lock state (R92 to R94). -/
def countMiss (s : State) : State :=
  let t := { s with ft.miss := s.ft.miss + 1 }
  match s.ft.lock with
  | .search => s
  | .acquire => if s.ft.miss + 1 < 4 then { t with ft.good := 0 } else enterSearch t
  | .locked => setLock .holdover { s with ft.miss := 1 }
  | .holdover => if s.ft.miss + 1 < 8 then t else enterSearch t

/-- The close occurs: the quality average, the queue's timeouts and JOIN test, then the lock transition
(R84, R69 to R71, R123). -/
def closeWindow (w : BeaconWindow) (s : State) : State :=
  let t := { s with ft.window := none }
  let t := averageQuality (if w.taken then w.quality else 0) t
  let t := joinTest (settleQueue (timeoutFate t.ft.frame) t)
  if w.taken then t else countMiss t

/-- The PRIMARY link holds an arrival tick within the window, not yet paired (R84). -/
def arrivalPending (w : BeaconWindow) (s : State) : Bool :=
  match primaryLink s with
  | some l => (linkOf s l).held.any fun a => withinTicks a w.expected w.half
  | none => false

/-- When the window's close falls due: E + W, which is past once a wait has ended (R84). -/
def closeDue (s : State) : Option Tick :=
  s.ft.window.bind fun w =>
    match w.wait with
    | .notWaiting | .ended => some (tickAdd w.expected w.half)
    | .waiting => none

/-- When a waiting close occurs at the latest: E + W + 20,000 (R84). -/
def closeTimeoutDue (s : State) : Option Tick :=
  s.ft.window.bind fun w =>
    match w.wait with
    | .waiting => some (tickAdd w.expected (w.half + Config.closeWaitTicks))
    | .notWaiting | .ended => none

/-- The close falls due and waits or occurs; a close whose wait has ended occurs (R84, log 9). A later rise
that replaces the held tick ends no wait (DEDUCED, log 52). -/
def fallClose (s : State) : State :=
  match s.ft.window with
  | some w =>
    match w.wait with
    | .notWaiting =>
      if arrivalPending w s then { s with ft.window := some { w with wait := .waiting } } else closeWindow w s
    | .waiting => s
    | .ended => closeWindow w s
  | none => s

/-- A waiting close occurs (R84). -/
def closeTimeout (s : State) : State :=
  match s.ft.window with
  | some w =>
    match w.wait with
    | .waiting => closeWindow w s
    | .notWaiting | .ended => s
  | none => s

/-! ### Taking a beacon (R85 to R94) -/

/-- A beacon is well formed (R85). -/
def Beacon.wellFormed (period slots : Nat) : Bool :=
  decide (40000 ≤ period) && decide (period ≤ 1000000) && decide (4 ≤ slots) && decide (slots ≤ 64) &&
    decide (2000 ≤ period / slots)

/-- The entry a neighbour list gives: the old figures of the same zone, or those of a new entry (R126). -/
def neighbourFrom (old : List Neighbour) (e : NeighbourEntry) : Neighbour :=
  match old.find? fun n => decide (n.zone = e.zone) with
  | some n => { n with channel := e.channel }
  | none => ⟨e.zone, e.channel, 0, 0, none, none⟩

/-- One entry of the list is kept or skipped (R126). -/
def keepNeighbour (own : Byte) (old acc : List Neighbour) (e : NeighbourEntry) : List Neighbour :=
  if e.zone = own ∨ acc.any (fun n => decide (n.zone = e.zone)) ∨ Config.neighboursMax ≤ acc.length then acc
  else acc ++ [neighbourFrom old e]

/-- The Neighbour Table is replaced and the dwell follows it (R126, R127). -/
def takeNeighbourList (own : Byte) (es : List NeighbourEntry) (s : State) : State :=
  let t := { s with xu.neighbours := es.foldl (keepNeighbour own s.xu.neighbours) [] }
  match dwelt s, dwelt t, dwellingLink t with
  | some old, some new, some l =>
    if new.channel ≠ old.channel ∧ new.eligible t.ft.zone then startDwell l new t else adjustDwell t
  | _, _, _ => adjustDwell t

/-- A taken beacon's content, each part acted on before the next (R140). -/
def distribute (b : Beacon) (s : State) : State :=
  let t := takeGrantList b.grants (takeAckList b.acks s)
  let t := { t with ab := takeAllowance b.allowance t.ab }
  takeNeighbourList b.zone b.neighbours t

/-- The correction of R88 for a beacon that arrived at `a`. -/
def correctionStep (a expected : Tick) : Int :=
  max (-Config.correctionMax) (min Config.correctionMax ((tickDiff a expected).tdiv 4))

/-- Steering of an in-window take: full correction in ACQUIRE (R89, log 18), correction otherwise (R88). -/
def steer (a : Tick) (w : BeaconWindow) (ft : FrameTimer) : FrameTimer :=
  match ft.lock with
  | .search | .acquire =>
    let own := tickSub a w.comp
    { ft with next := some (if w.begun then tickAdd own ft.period else own) }
  | .locked | .holdover => { ft with next := ft.next.map (tickMove · (correctionStep a w.expected)) }

/-- The frame number check of R87 step 2. -/
def checkNumber (n : BitVec 6) (begun : Bool) (ft : FrameTimer) : FrameTimer :=
  if n = (if begun then ft.frame else ft.frame + 1#6) then ft
  else if begun then { ft with frame := n, renumbers := bump ft.renumbers }
  else { ft with pendingFrame := some n, renumbers := bump ft.renumbers }

/-- Steps 1 to 3 of R87 for an in-window take, with the taken mark. -/
def takeTiming (a : Tick) (q : Nat) (b : Beacon) (w : BeaconWindow) (ft : FrameTimer) : FrameTimer :=
  let ft := checkNumber b.frame w.begun (steer a w ft)
  { ft with
    window := some { w with taken := true, quality := q }
    layout := some ⟨b.period, b.slots, if w.begun then 0 else 1⟩ }

/-- Step 5 of R87 for an in-window take (R92 to R94). -/
def takeLock (s : State) : State :=
  match s.ft.lock with
  | .search => s
  | .acquire =>
    if s.ft.good + 1 < 3 then { s with ft.good := s.ft.good + 1, ft.miss := 0 } else enterLocked s
  | .locked => s
  | .holdover => enterLocked s

/-- An in-window take: the five steps, and the frame start that step 1 made due, if it did (R87). -/
def takeInWindow (a : Tick) (q : Nat) (b : Beacon) (w : BeaconWindow) (s : State) : State :=
  followFrameStart (takeLock (distribute b { s with ft := takeTiming a q b w s.ft }))

/-- A take by seeding in ACQUIRE (R90, R92). -/
def takeReseed (a : Tick) (b : Beacon) (s : State) : State :=
  followOpening
    (followFrameStart (adjustDwell (enterAcquire 1 (distribute b { s with ft := seedFrom a b s.ft }))))

/-- A held TUNE that a SET LINK ENABLE waits for on link `l` (log 12). -/
def enableHolds (l : Link) (s : State) : Bool :=
  match s.cu.state with
  | .waiting _ _ (.linkTune k held) => held && decide (k = l)
  | .waiting _ _ .crossover | .waiting _ _ (.ringIdle _ _) | .idle | .executing _ _ => false

/-- The link that heard the beacon becomes PRIMARY on the channel where it heard it, and both links stop
scanning (R125, log 12). -/
def claimPrimary (l : Link) (q : Nat) (s : State) : State :=
  let changed := decide ((linkOf s l).role ≠ .primary)
  let other := otherLink l
  let own := (linkOf s l).channel
  let t := mapLink l (fun k =>
    { k with
      role := .primary, a8 := 8 * q, scanExpiry := none,
      nextChannel := if enableHolds l s then some own else none }) s
  let t := mapLink other (fun k =>
    if k.enabled then { k with role := .standby, a8 := 0, scanExpiry := none } else k) t
  settleBurst (if changed then requestStatus t else t)

/-- The take that ends a search (R91, R125). The roles change before the first step of R87, which R125 leaves open (DEDUCED,
log 41). -/
def takeInSearch (l : Link) (a : Tick) (q : Nat) (b : Beacon) (s : State) : State :=
  let t := claimPrimary l q s
  let t := enterAcquire 1 (distribute b { t with ft := seedFrom a b t.ft })
  followOpening (followFrameStart (raiseRequest .link (adjustDwell t)))

/-- The window a beacon's arrival falls in, if it does (R83, R86). -/
def windowOf (a : Tick) (ft : FrameTimer) : Option BeaconWindow :=
  ft.window.filter fun w => withinTicks a w.expected w.half

/-- The cases of R86 outside SEARCH, for a well-formed beacon. In ACQUIRE a beacon that is late for its window is taken by
seeding, acks included (R86 case 4, R92), although R69 calls a beacon late at a close ignored, acks included (DEDUCED,
log 46). -/
def screenBeacon (a : Tick) (q : Nat) (b : Beacon) (s : State) : State :=
  let follows := decide (s.ft.lock = .locked) || decide (s.ft.lock = .holdover)
  if follows && decide (b.zone ≠ s.ft.zone) then { s with ft.coChannel := bump s.ft.coChannel }
  else
    let outOfWindow :=
      if follows then { s with ft.syncErrors := min 255 (s.ft.syncErrors + 1) } else takeReseed a b s
    match windowOf a s.ft with
    | some w =>
      if w.taken then s
      else if b.zone = s.ft.zone then takeInWindow a q b w s
      else outOfWindow
    | none => outOfWindow

/-- A beacon handed to the Frame Timer with its arrival tick (R85, R86, R91). -/
def handBeacon (l : Link) (a : Tick) (q : Nat) (b : Beacon) (s : State) : State :=
  if Beacon.wellFormed b.period b.slots then
    if s.ft.lock = .search then takeInSearch l a q b s else screenBeacon a q b s
  else s

/-! ### SET TIMING (R82) -/

/-- One constant: kept for 0xFFFF, else clamped to its range; the flag says it was clamped. -/
def timingValue (old : Nat) (v : Word) (lo hi : Nat) : Nat × Bool :=
  if v = 0xFFFF#16 then (old, false)
  else (max lo (min hi v.toNat), decide (v.toNat < lo) || decide (hi < v.toNat))

/-- SET TIMING of either origin (R82, Table 5-3). -/
def setTiming (args : List Word) (s : State) : State × ResultCode :=
  let t := s.ft.timing
  let c := timingValue t.comp (argWord args 1) 0 4000
  let tl := timingValue t.lead (argWord args 2) 100 1000
  let tg := timingValue t.keyGuard (argWord args 3) 100 2000
  let o := timingValue t.overhead (argWord args 4) 0 4000
  let b := timingValue t.byteTime (argWord args 5) 8 1000
  ({ s with ft.timing := ⟨c.1, tl.1, tg.1, o.1, b.1⟩ },
    if c.2 || tl.2 || tg.2 || o.2 || b.2 then .doneClamped else .done)

/-- SET MARGIN of either origin (R134). -/
def setMargin (args : List Word) (s : State) : State × ResultCode :=
  let m := argNat args 1
  ({ s with xu.margin := min 31 m }, if 31 < m then .doneClamped else .done)

end Sys2Proof.Machine
end

