-- ==== Sys2Proof/Machine/Ports.lean ====
section
/-! DEFINITION. The link ports (spec/07): arrival ticks, TUNED, tune and scan expiries, faults, the standby
watch, and enabling, disabling and restarting the links. -/

namespace Sys2Proof.Machine

/-! ### Port events (R118, R121, R122, R124) -/

/-- BST rises: the Tick Counter's value becomes the held arrival tick of a READY or TX-FAULT link (R118). A close
that waits for the tick this replaces waits on (DEDUCED, log 52). -/
def raiseBst (l : Link) (s : State) : State :=
  if portLive s l && (decide ((linkOf s l).condition = .ready) || decide ((linkOf s l).condition = .txFault)) then
    mapLink l (fun k => { k with held := some s.ft.tick }) s
  else s

/-- The SET LINK ENABLE in progress waits for the TUNED of a TUNE already sent on `l` (R136). -/
def enableAwaits (l : Link) (s : State) : Bool :=
  match s.cu.state with
  | .waiting _ _ (.linkTune k held) => decide (k = l) && !held
  | .waiting _ _ .crossover | .waiting _ _ (.ringIdle _ _) | .idle | .executing _ _ => false

/-- TUNED is taken on a TUNING link: its held next channel is sent, or it becomes READY; a scanning link gets
its scan expiry (R121, R124, R136). -/
def takeTuned (l : Link) (s : State) : State :=
  if portLive s l && decide ((linkOf s l).condition = .tuning) then
    let scan := scanning s l
    let t := mapLink l (fun k =>
      { k with
        tuneExpiry := none
        scanExpiry := if scan then some (tickAdd s.ft.tick Config.scanTicks) else k.scanExpiry }) s
    let u :=
      if (linkOf t l).nextChannel.isSome then sendNext l t
      else mapLink l (fun k => { k with condition := .ready }) t
    if enableAwaits l s then answerLinkEnable l u else u
  else s

/-- The tune expiry of a TUNING link (R121). -/
def tuneDue (l : Link) (s : State) : Option Tick :=
  if (linkOf s l).condition = .tuning ∧ portLive s l then (linkOf s l).tuneExpiry else none

/-- The tune expiry passes: the link enters PORT-FAULT (R121). -/
def expireTune (l : Link) (s : State) : State := if (tuneDue l s).isSome then enterPortFault l s else s

/-- The scan expiry of a scanning link (R124). -/
def scanDue (l : Link) (s : State) : Option Tick :=
  if scanning s l then (linkOf s l).scanExpiry else none

/-- The scan expiry passes: on to the next channel (R124). -/
def expireScan (l : Link) (s : State) : State :=
  if (scanDue l s).isSome then
    retune l ((linkOf s l).channel + 1#4) (mapLink l (fun k => { k with scanExpiry := none }) s)
  else s

/-- A FAULT report or a malformed message (R117, R122). -/
def takeFault (l : Link) (s : State) : State := if portLive s l then enterPortFault l s else s

/-! ### The standby watch (R128, R129) -/

/-- A watch window just opened: its taken mark is clear. -/
def WatchWindow.fresh : WatchWindow := ⟨false, 0, .notWaiting⟩

/-- The beacon is the first heard of the dwell, or off its prediction: the prediction starts from it
(R128 cases 1 and 4). A close of the window before that is due or waits is dropped with it, no watch miss, of which R128
and R129 say nothing (DEDUCED, log 45). -/
def predictFrom (zone : Byte) (a : Tick) (f : Neighbour → Neighbour) (s : State) : State :=
  mapNeighbour zone
    (fun n => f { n with lastArrival := some a, predicted := some (tickAdd a s.ft.period) })
    { s with xu.watch := some WatchWindow.fresh }

/-- A used beacon of the dwelt entry `x` (R128). -/
def watchBeacon (a : Tick) (q : Nat) (b : Beacon) (x : Neighbour) (s : State) : State :=
  let t := { s with
    xu.dwell := s.xu.dwell.map fun d => { d with heard := true }
    xu.dwellBeacon := some ⟨b.frame, b.period, b.slots⟩ }
  match x.predicted with
  | none => predictFrom x.zone a id t
  | some p =>
    if withinTicks a p Config.wideHalf then
      let w := t.xu.watch.getD WatchWindow.fresh
      if w.taken then t
      else mapNeighbour x.zone (fun n => { n with lastArrival := some a })
        { t with xu.watch := some { w with taken := true, quality := q } }
    else predictFrom x.zone a (fun n => { n with good := 0 }) t

/-- A good report routed to the standby watch (R128). -/
def watchReport (arrival : Option Tick) (q : Nat) (burst : List Byte) (s : State) : State :=
  match parseBurst burst, arrival, dwelt s with
  | .beacon b, some a, some x =>
    if Beacon.wellFormed b.period b.slots && decide (b.zone = x.zone) then watchBeacon a q b x s else s
  | _, _, _ => s

/-- The dwelt entry after a watch close (R129). -/
def judgeWatch (w : WatchWindow) (period : Nat) (n : Neighbour) : Neighbour :=
  if w.taken then
    { n with
      a8 := n.a8 - n.a8 / 8 + w.quality, good := min 255 (n.good + 1),
      predicted := n.lastArrival.map (tickAdd · period) }
  else
    { n with a8 := n.a8 - n.a8 / 8, good := 0, predicted := n.predicted.map (tickAdd · period) }

/-- The watch close occurs, and the window opens around the new prediction (R129). -/
def closeWatch (zone : Byte) (w : WatchWindow) (s : State) : State :=
  mapNeighbour zone (judgeWatch w s.ft.period) { s with xu.watch := some WatchWindow.fresh }

/-- The STANDBY link holds an unpaired arrival tick within the watch window (R129). -/
def watchPending (p : Tick) (s : State) : Bool :=
  match standbyLink s with
  | some l => (linkOf s l).held.any fun a => withinTicks a p Config.wideHalf
  | none => false

/-- The open watch window with its entry and prediction. -/
def openWatch (s : State) : Option (Neighbour × Tick × WatchWindow) :=
  match dwelt s, s.xu.watch with
  | some x, some w => x.predicted.map fun p => (x, p, w)
  | _, _ => none

/-- When the watch close falls due: the predicted tick + 2,000, past once a wait has ended (R129). -/
def watchDue (s : State) : Option Tick :=
  (openWatch s).bind fun (_, p, w) =>
    match w.wait with
    | .notWaiting | .ended => some (tickAdd p Config.wideHalf)
    | .waiting => none

/-- When a waiting watch close occurs at the latest: the predicted tick + 22,000 (R129). -/
def watchTimeoutDue (s : State) : Option Tick :=
  (openWatch s).bind fun (_, p, w) =>
    match w.wait with
    | .waiting => some (tickAdd p (Config.wideHalf + Config.closeWaitTicks))
    | .notWaiting | .ended => none

/-- The watch close falls due and waits or occurs; one whose wait has ended occurs (R129, log 9). The held tick
is looked at when the close falls due; a wait then ends only as R129 lists, also where a later rise outside the window
replaces the tick (DEDUCED, log 52). -/
def fallWatch (s : State) : State :=
  match openWatch s with
  | some (x, p, w) =>
    match w.wait with
    | .notWaiting =>
      if watchPending p s then { s with xu.watch := some { w with wait := .waiting } }
      else closeWatch x.zone w s
    | .waiting => s
    | .ended => closeWatch x.zone w s
  | none => s

/-- A waiting watch close occurs (R129). -/
def watchTimeout (s : State) : State :=
  match openWatch s with
  | some (x, _, w) =>
    match w.wait with
    | .waiting => closeWatch x.zone w s
    | .notWaiting | .ended => s
  | none => s

/-! ### Enabling, disabling, restarting (R135 to R137) -/

/-- The link of a number, 0 or 1 (R135). -/
def linkOfNumber (n : Nat) : Option Link := if n = 0 then some .a else if n = 1 then some .b else none

/-- A link that is OFF. -/
def LinkState.disabled (k : LinkState) : LinkState :=
  { k with
    enabled := false, role := .off, condition := .ready, txFaults := 0, a8 := 0, held := none,
    nextChannel := none, tuneExpiry := none, scanExpiry := none }

/-- Disabling an enabled link (R135). A beacon-window close that waits on a PRIMARY link so disabled does not occur
(DEDUCED, log 47). -/
def disableLink (l : Link) (s : State) : State :=
  let wasPrimary := decide ((linkOf s l).role = .primary)
  let t := settleBurst (requestStatus (mapLink l LinkState.disabled s))
  if wasPrimary then
    let u := mapLink (otherLink l)
      (fun k => if k.enabled then { k with role := .primary, a8 := 0 } else k) t
    raiseRequest .link (enterSearch u)
  else endDwell t

/-- A fault is cleared; an outstanding TUNE stays outstanding (R136, R137, log 11). -/
def LinkState.cleared (k : LinkState) : LinkState :=
  { k with condition := if k.condition = .tuning then .tuning else .ready, txFaults := 0 }

/-- How a retune of the link would go: sent (`false`), held (`true`), or discarded (R121). -/
def retuneKind (s : State) (l : Link) : Option Bool :=
  match (linkOf s l).condition with
  | .txFault | .portFault => none
  | .tuning => some true
  | .ready => some (burstOn s l)

/-- The entry a STANDBY link that becomes able to dwell would start on, where it is not dwelling (R127). -/
def dwellTarget (s : State) : Option Neighbour :=
  match dwelt s with
  | some n =>
    if n.eligible s.ft.zone then none else s.xu.neighbours.find? (Neighbour.eligible s.ft.zone)
  | none => s.xu.neighbours.find? (Neighbour.eligible s.ft.zone)

/-- The TUNE that enabling link `l` sends or holds, if it does (R136). -/
def enableTune (s : State) (l : Link) : Option Bool :=
  if s.ft.lock = .search ∨ (linkOf s l).role = .primary then retuneKind s l
  else
    match dwellTarget s with
    | some n =>
      if (linkOf s l).condition = .ready ∧ (linkOf s l).channel = n.channel then none else retuneKind s l
    | none => none

/-- Where link `l` goes once it is enabled (R136). -/
def enableMove (l : Link) (s : State) : State :=
  if s.ft.lock = .search then startScan l s
  else if (linkOf s l).role = .primary then retune l (linkOf s l).channel s
  else adjustDwell s

/-- The role of an enabled link (R136). -/
def enabledRole (s : State) (l : Link) : Role :=
  if (linkOf s l).role = .off then
    if (linkOf s (otherLink l)).enabled then .standby else .primary
  else (linkOf s l).role

/-- The link after step 1 of R136: enabled, its fault cleared, with its role. -/
def markEnabled (l : Link) (s : State) : State :=
  let t := mapLink l (fun k => { k.cleared with enabled := true, role := enabledRole s l }) s
  if (linkOf s l).role = .off then requestStatus t else t

/-- SET LINK ENABLE's result: DONE with the link's condition as data (R136, Table 11-3). -/
def replyCondition (l : Link) (s : State) : State :=
  replyCommand .done [word (conditionCode (linkOf s l).condition)] s

/-- SET LINK ENABLE (R135, R136, R185): it replies at once, or waits for the TUNE it sent or holds. -/
def setLinkEnable (args : List Word) (s : State) : State :=
  match linkOfNumber (argNat args 1) with
  | none => replyCommand .badIndex [] s
  | some l =>
    if argNat args 2 = 0 then
      if (linkOf s l).role = .off then replyCondition l s
      else replyCondition l (disableLink l s)
    else if argNat args 2 = 1 then
      let t := markEnabled l s
      let u := enableMove l t
      match enableTune t l with
      | some held =>
        let (code, tag) := commandInProgress u
        { u with cu.state := .waiting code tag (.linkTune l held) }
      | none => replyCondition l u
    else replyCommand .badField [] s

/-- Every enabled link's fault is cleared (R137). -/
def clearLinkFaults (s : State) : State :=
  let f := fun k : LinkState => if k.enabled then k.cleared else k
  mapLink .b f (mapLink .a f s)

/-- RESTART LINK (R137, R187): the queue, then the link faults, then the entry into SEARCH. -/
def restartLinks (s : State) : State := enterSearch (clearLinkFaults (emptyQueue s))

end Sys2Proof.Machine
end

