-- ==== Sys2Proof/Machine/Windows.lean ====
section
/-! DEFINITION. The Window Table and the capture images (spec/02): loading and clearing entries, captured
writes, priming, and the table at each reset. -/

namespace Sys2Proof.Machine

/-! ### Clearing (R23 to R27) -/

/-- The effects of a clear at index `i`, taken together (R24 to R27). -/
def clearEntry (i : Nat) (s : State) : State :=
  match entryAt s i with
  | some e =>
    match e.body with
    | .capture _ =>
      putEntry i none (dropPrime i (clearRulesWhere (fun r => decide (r.window = i)) (withdrawWindow i s)))
    | .mirror _ => putEntry i none (dropMirror i s)
  | none => s

/-- The origin of the entry at index `i`. -/
def originAt (s : State) (i : Nat) : Option Origin := (entryAt s i).map Entry.origin

/-- CLEAR WINDOW of either origin (R23). -/
def clearWindow (origin : Origin) (args : List Word) (s : State) : State × ResultCode :=
  let i := argNat args 1
  if 15 < i then (s, .badIndex)
  else if ownedAgainst origin (originAt s i) then (s, .owned)
  else (clearEntry i s, .done)

/-- Every entry of an origin is cleared, in ascending index (R35, R37). -/
def clearEntriesOf (origin : Origin) (s : State) : State :=
  (List.range 16).foldl (fun s i => if originAt s i = some origin then clearEntry i s else s) s

/-! ### Loading (R18 to R22, R28) -/

def EntryBody.isCapture : EntryBody → Bool
  | .capture _ => true
  | .mirror _ => false

/-- Check 4: another entry of the kind holds the tag (R21). -/
def tagTaken (s : State) (i : Nat) (e : Entry) : Bool :=
  (List.range 16).any fun j =>
    decide (j ≠ i) && match entryAt s j with
      | some x => x.body.isCapture == e.body.isCapture && decide (x.tag = e.tag)
      | none => false

/-- Check 5: the window shares a byte with another entry, the Control Page or the ring (R21). -/
def overlaps (s : State) (i : Nat) (e : Entry) : Bool :=
  meetsEntry s (some i) e.base (2 * e.length) || meetsPage s e.base (2 * e.length) ||
    match s.mae.ring with
    | some r => rangesMeet e.base (2 * e.length) r.base (64 * r.slots)
    | none => false

/-- The Capture Store held by the entries at other indexes (R28). -/
def storeOfOthers (s : State) (i : Nat) : Nat := ((s.wt.set i none).map entryStore).sum

/-- Check 6: the CAPTURE entries would total more than the store (R28). -/
def storeShort (s : State) (i : Nat) (e : Entry) : Bool :=
  e.body.isCapture && decide (Config.captureStoreWords < storeOfOthers s i + e.length)

/-- The new entry is placed after the old one is cleared; a CAPTURE entry gets its PRIME job unless VRST is
asserted (R22, R30). -/
def placeEntry (i : Nat) (e : Entry) (s : State) : State :=
  let t := putEntry i (some e) (clearEntry i s)
  if e.body.isCapture && !t.vrst then appendPrime i t else t

/-- LOAD WINDOW of either origin: the checks of Table 2-4 in their order (R18). -/
def loadWindow (origin : Origin) (args : List Word) (s : State) : State × ResultCode :=
  let i := (loByte (argWord args 1)).toNat
  if 15 < i then (s, .badIndex)
  else match entryOfArgs origin args with
    | none => (s, .badField)
    | some e =>
      if ownedAgainst origin (originAt s i) then (s, .owned)
      else if tagTaken s i e then (s, .dupTag)
      else if overlaps s i e then (s, .overlap)
      else if storeShort s i e then (s, .noSpace)
      else (placeEntry i e s, .done)

/-! ### Priming (R30 to R33) -/

/-- The two image bytes of word `k` with the strobed bytes of `w` written and marked (R29, R32). -/
def writeImage (k : Nat) (w : Word) (lanes : Lanes) (img : List (Option Byte)) : List (Option Byte) :=
  let img := if lanes.low then img.set (2 * k) (some (loByte w)) else img
  if lanes.high then img.set (2 * k + 1) (some (hiByte w)) else img

/-- A PRIME read fills the bytes of word `k` whose mark is still clear (R30). -/
def fillImage (k : Nat) (w : Word) (img : List (Option Byte)) : List (Option Byte) :=
  writeImage k w ⟨(img.getD (2 * k) none).isNone, (img.getD (2 * k + 1) none).isNone⟩ img

/-- Every primed mark is set. -/
def Capture.allPrimed (c : Capture) : Bool := c.image.all Option.isSome

/-- Word `k` has an unprimed byte. -/
def Capture.unprimedAt (c : Capture) (k : Nat) : Bool :=
  (c.image.getD (2 * k) none).isNone || (c.image.getD (2 * k + 1) none).isNone

/-- The lowest unprimed word at or above offset `k` of a window of `length` words (R30). -/
def nextUnprimed (c : Capture) (length k : Nat) : Option Nat :=
  (List.range length).find? fun j => decide (k ≤ j) && c.unprimedAt j

/-- Priming completes: the four effects of R33 in their order. -/
def completePriming (i : Nat) (s : State) : State :=
  let t := dropPrime i (mapCapture i (fun c => { c with state := .active }) s)
  let u := runPass (rulesWhere (fun r => decide (r.window = i)) t) t
  match captureAt u i with
  | some c =>
    if c.triggerPending then gatedSnapshot i c (mapCapture i (fun c => { c with triggerPending := false }) u)
    else u
  | none => u

/-- Priming completes if no mark is clear any longer (R32, R33). -/
def completeIfPrimed (i : Nat) (s : State) : State :=
  match captureAt s i with
  | some c => if c.state = .loading ∧ c.allPrimed then completePriming i s else s
  | none => s

/-! ### A captured write (R29, R32, R45) -/

/-- The image update of a captured write: the strobed bytes and the dirty bit (R45 step 1). -/
def captureBytes (i k : Nat) (w : Word) (lanes : Lanes) (s : State) : State :=
  mapCapture i (fun c => { c with image := writeImage k w lanes c.image, dirty := true }) s

/-- A CAPTURE write handed over for word `k` of entry `i`: steps 1 to 4 of R45 in an ACTIVE entry, R32 in a
LOADING one. -/
def captureHandOver (i k : Nat) (w : Word) (lanes : Lanes) (s : State) : State :=
  let t := captureBytes i k w lanes s
  match captureAt s i with
  | some c =>
    match c.state with
    | .active => triggerTest i k
        (runPass (rulesWhere (fun r => decide (r.window = i) && decide (r.offset = k)) t) t)
    | .loading => completeIfPrimed i (triggerTest i k t)
  | none => s

/-! ### The table at vehicle reset (R35, R36) -/

/-- At assertion a kept CAPTURE entry's AFTER-armed bit is cleared (R35). -/
def disarm (c : Capture) : Capture := { c with armed := false }

/-- At release a CAPTURE entry is LOADING again with every mark clear (R36). -/
def reload (c : Capture) : Capture :=
  { c with state := .loading, dirty := true, image := c.image.map fun _ => none }

/-- The Window Table at the assertion of VRST (R35). -/
def vehicleAssertWindows (s : State) : State :=
  let t := clearEntriesOf .localLoad s
  (List.range 16).foldl (fun s i => mapCapture i disarm s) t

/-- The Window Table at the release of VRST, in ascending index (R36). -/
def vehicleReleaseWindows (s : State) : State :=
  (List.range 16).foldl
    (fun s i => if (captureAt s i).isSome then appendPrime i (mapCapture i reload s) else s) s

/-! ### SNAPSHOT NOW and QUERY WINDOW (R53, R187) -/

/-- SNAPSHOT NOW (R53). -/
def snapshotNow (args : List Word) (s : State) : State × ResultCode :=
  let i := argNat args 1
  if 15 < i then (s, .badIndex)
  else match captureAt s i with
    | some c => if c.state = .active then (snapshot i s, .done) else (s, .notActive)
    | none => (s, .notActive)

def bitAt (b : Bool) (n : Nat) : Word := if b then 1#16 <<< n else 0#16

def Entry.isActive (e : Entry) : Bool :=
  match e.body with
  | .capture c => decide (c.state = .active)
  | .mirror _ => true

/-- The six data words of a query (Table 11-3). -/
def queryWords (s : State) (e : Entry) : List Word :=
  let detail := match e.body with
    | .capture c => mkWord 0#8 c.seq ||| bitAt c.dirty 8 ||| bitAt c.armed 9 ||| bitAt c.triggerPending 10
    | .mirror m => word m.age ||| bitAt m.staleReported 8
  [bitAt (!e.origin.isLocal) 0 ||| bitAt (!e.body.isCapture) 1 ||| bitAt e.isActive 2,
   word (e.base % 65536), word (e.base / 65536), mkWord e.tag (BitVec.ofNat 8 e.length), detail,
   word (freeStore s)]

end Sys2Proof.Machine
end

