-- ==== Sys2Proof/Machine/Downlink.lean ====
section
/-! DEFINITION. The Downlink Filter (spec/08): the screening of reports, acceptance and duplicates, the
routing of messages, the Alias Table, provisioning and the network reset; and the routing of RECEIVED reports
(R119). -/

namespace Sys2Proof.Machine

/-! ### The Alias Table (R144, R145) -/

def groupAt (s : State) (i : Nat) : Option GroupEntry := s.dlf.groups.getD i none

def putGroup (i : Nat) (g : Option GroupEntry) (s : State) : State :=
  { s with dlf.groups := s.dlf.groups.set i g }

/-- LOAD ALIAS of either origin: the checks in their order (R144). -/
def loadGroup (origin : Origin) (args : List Word) (s : State) : State × ResultCode :=
  let i := argNat args 1
  let address := argNat args 2
  let mask := argWord args 3
  if 5 < i then (s, .badIndex)
  else if 128 ≤ mask.toNat ∨ (mask ≠ 0#16 ∧ (address < 1024 ∨ 2047 < address)) then (s, .badField)
  else if ownedAgainst origin ((groupAt s i).map GroupEntry.origin) then (s, .owned)
  else (putGroup i (if mask = 0#16 then none else some ⟨origin, address, mask.setWidth 7⟩) s, .done)

/-- CLEAR ALIAS (R145). -/
def clearGroup (args : List Word) (s : State) : State × ResultCode :=
  let i := argNat args 1
  if 5 < i then (s, .badIndex) else (putGroup i none s, .done)

/-- A group entry unless it is of the origin. -/
def keepOther (origin : Origin) (g : Option GroupEntry) : Option GroupEntry :=
  g.filter fun e => decide (e.origin ≠ origin)

/-- Every alias of an origin is emptied (R145, R153). -/
def clearGroupsOf (origin : Origin) (s : State) : State :=
  { s with dlf.groups := s.dlf.groups.map (keepOther origin) }

/-! ### Acceptance and duplicates (R143, R146, R147) -/

/-- A group entry answers a destination for a kind (R143). -/
def groupAccepts (destination : BitVec 11) (k : MessageKind) (g : Option GroupEntry) : Bool :=
  g.any fun e => decide (e.address = destination.toNat) && e.mask.getLsbD (kindCode k)

/-- R143. A destination of 0 is never accepted. -/
def accepts (s : State) (k : MessageKind) (destination : BitVec 11) : Bool :=
  decide (destination ≠ 0#11) &&
    (decide (destination = s.carid.setWidth 11)
      || (decide (destination = 1023#11) && decide (k ≠ .provision))
      || s.dlf.groups.any (groupAccepts destination k))

/-- A new entry joins the Recent Message List (R146). -/
def addRecent (r : Recent) (rs : List Recent) : List Recent :=
  let rs := rs ++ [r]
  if Config.recentMax < rs.length then rs.drop 1 else rs

/-- The stop a message kind orders. -/
def stopOfKind : MessageKind → Option StopKind
  | .stopHold => some .hold
  | .stopRelease => some .release
  | .command | .info | .mirror | .provision | .reset => none

/-- The Stop State is the stop a duplicate repeats, and it has been accepted (R147). -/
def repeatsAccepted (s : State) (r : Recent) : Bool :=
  match stopOfKind r.kind with
  | some k =>
    s.au.accepted && decide (s.au.stop.seq = r.seq) && decide (s.au.stop.zone = r.zone)
      && decide (s.au.stop.source = r.destination) && decide (s.au.stop.kind = k)
  | none => false

/-- A duplicate is counted, and a repeated accepted stop is acknowledged again (R146, R147). -/
def dropDuplicate (r : Recent) (s : State) : State :=
  let t := { s with dlf.duplicates := bump s.dlf.duplicates }
  if repeatsAccepted s r then offerStopAck t else t

/-! ### MIRROR messages (R150) -/

/-- The MIRROR entry that carries a tag. -/
def mirrorWithTag (s : State) (tag : Byte) : Option Nat :=
  (List.range 16).find? fun i =>
    match entryAt s i with
    | some e => !e.body.isCapture && decide (e.tag = tag)
    | none => false

def missMirror (s : State) : State := { s with dlf.mirrorMisses := bump s.dlf.mirrorMisses }

/-- A new MIRROR message (R150). -/
def routeMirror (payload : List Byte) (s : State) : State :=
  match payload with
  | tag :: offset :: data =>
    let words := wordsOfBytes data
    if words.isEmpty then missMirror s
    else
      match mirrorWithTag s tag with
      | some i => listMirror i offset.toNat words s
      | none => missMirror s
  | _ => missMirror s

/-! ### Provisioning (R151, R152) -/

/-- An operation with its argument words present is carried out, else BAD_FIELD (R151, R188). -/
def withArgs (n : Nat) (args : List Word) (op : State → State × ResultCode) (s : State) :
    State × ResultCode :=
  if args.length < n then (s, .badField) else op s

/-- The operation a code names, with origin RADIO, but for FORCE CROSSOVER (Table 8-6). -/
def provision (code : Byte) (args : List Word) (s : State) : State × ResultCode :=
  if code = codeLoadWindow then withArgs 8 args (loadWindow .radioLoad args) s
  else if code = codeClearWindow then withArgs 1 args (clearWindow .radioLoad args) s
  else if code = codeLoadCompare then withArgs 6 args (loadCompare .radioLoad args) s
  else if code = codeClearCompare then withArgs 1 args (clearCompare .radioLoad args) s
  else if code = codeLoadAlias then withArgs 3 args (loadGroup .radioLoad args) s
  else if code = codeSetTiming then withArgs 5 args (setTiming args) s
  else if code = codeSetMargin then withArgs 1 args (setMargin args) s
  else (s, .badCode)

/-- FORCE CROSSOVER as a provisioning operation (R131, R152). -/
def forceProvision (seq : Byte) (s : State) : State :=
  if s.ft.lock = .search then offerProvisionReply seq .noCandidate s
  else { s with xu.forcedProvision := some seq }

/-- A new PROVISION message (R151). -/
def routeProvision (seq : Byte) (payload : List Byte) (s : State) : State :=
  match payload with
  | [] => offerProvisionReply seq .badCode s
  | code :: rest =>
    if code = codeForceCrossover then forceProvision seq s
    else
      let (t, r) := provision code (wordsOfBytes rest) s
      offerProvisionReply seq r t

/-! ### Network reset (R153) -/

def clearGrants (s : State) : State := { s with ssu.grants := [], ssu.contention := [] }

/-- The six moves of a network reset in their order (R153). The PRIME and MIRROR jobs of the RADIO windows end with their
windows (R37, R26), although R169 says that a network reset leaves every job unchanged (DEDUCED, log 43). -/
def networkReset (s : State) : State :=
  let t := clearEntriesOf .radioLoad s
  let t := clearRulesWhere (fun r => decide (r.origin = .radioLoad)) t
  let t := clearGrants (emptyQueue (clearGroupsOf .radioLoad t))
  { t with ab.credit := t.ab.allowance, ab.restart := true }

/-! ### Messages (R141, R142, R148, R149) -/

/-- A new message goes to the block that carries it out (section 8.6). -/
def routeMessage (r : Recent) (frame : BitVec 6) (payload : List Byte) (s : State) : State :=
  match r.kind with
  | .stopHold => recordStop .hold r.destination r.seq r.zone frame payload s
  | .stopRelease => recordStop .release r.destination r.seq r.zone frame payload s
  | .command => stageMessage ⟨.command, r.destination, r.seq, r.zone, frame, payload⟩ s
  | .info => stageMessage ⟨.info, r.destination, r.seq, r.zone, frame, payload⟩ s
  | .mirror => routeMirror payload s
  | .provision => routeProvision r.seq payload s
  | .reset => networkReset s

/-- An accepted message is a duplicate, or is remembered and routed (R146). -/
def takeAccepted (r : Recent) (frame : BitVec 6) (payload : List Byte) (s : State) : State :=
  if r ∈ s.dlf.recent then dropDuplicate r s
  else routeMessage r frame payload { s with dlf.recent := addRecent r s.dlf.recent }

def countDownlinkError (s : State) : State := { s with dlf.downlinkErrors := bump s.dlf.downlinkErrors }

/-- One message of a whole burst, examined to its end (R141 to R143). -/
def examineMessage (zone : Byte) (frame : BitVec 6) (s : State) (m : CarMessage) : State :=
  match kindOfCode m.kind with
  | none => countDownlinkError s
  | some k =>
    let t := if 56 < m.payload.length then { s with dlf.truncations := bump s.dlf.truncations } else s
    if accepts t k m.destination then takeAccepted ⟨zone, m.destination, m.seq, k⟩ frame (m.payload.take 56) t
    else t

/-- A downlink burst of whole structure (R138 test 5, R141). -/
def takeDownlink (zone : Byte) (ms : List CarMessage) (s : State) : State :=
  if s.ft.lock = .search then s
  else if zone ≠ s.ft.zone then { s with dlf.foreignDownlinks := bump s.dlf.foreignDownlinks }
  else ms.foldl (examineMessage s.ft.zone s.ft.frame) s

/-! ### Reports (R119, R138, R139) -/

/-- The Downlink Filter's tests of a report, in their order (R138, R139). -/
def filterReport (l : Link) (arrival : Option Tick) (status : Byte) (burst : List Byte) (s : State) : State :=
  if !reportGood status then countDownlinkError s
  else
    match parseBurst burst with
    | .uplink => s
    | .broken => countDownlinkError s
    | .beacon b =>
      match arrival with
      | some a => handBeacon l a (reportQuality status) b s
      | none => s
    | .downlink zone ms => takeDownlink zone ms s

/-- Where a report goes, by the link's role and condition and the lock state (R119). -/
def routeReport (l : Link) (arrival : Option Tick) (status : Byte) (burst : List Byte) (s : State) : State :=
  let k := linkOf s l
  if s.ft.lock = .search then
    if scanning s l && decide (k.condition = .ready) && reportGood status then
      filterReport l arrival status burst s
    else s
  else
    match k.role with
    | .primary =>
      if k.condition = .ready ∨ k.condition = .txFault then filterReport l arrival status burst s else s
    | .standby =>
      if k.condition = .ready ∧ reportGood status then
        watchReport arrival (reportQuality status) burst s
      else s
    | .off => s

/-- A RECEIVED report is paired with the held arrival tick and handled; a close that waited for it waits no
longer (R84, R118, R119, R129). -/
def takeReceived (l : Link) (status : Byte) (burst : List Byte) (s : State) : State :=
  if portLive s l then
    let t := mapLink l (fun k => { k with held := none }) s
    releaseWatch l (releaseClose l (routeReport l (linkOf s l).held status burst t))
  else s

/-- A message from a transceiver, dealt with by its type and length (R117, R189). -/
def takePortMessage (l : Link) (message : List Byte) (s : State) : State :=
  match parseReport message with
  | .nothing => s
  | .tuned => takeTuned l s
  | .sent => if portLive s l then completeBurst l s else s
  | .received status burst => takeReceived l status burst s
  | .fault => takeFault l s
  | .malformed => takeFault l s

end Sys2Proof.Machine
end

