-- ==== Sys2Proof/Machine/EngineWords.lean ====
section
/-! DEFINITION. The Memory Access Engine's jobs word by word (spec/09): the words each job writes, starting
and resuming a job, and what the completion of a word brings about. -/

namespace Sys2Proof.Machine

/-! ### What the deposits hold (Tables 11-5, 11-6) -/

/-- Word `k` of bytes stored low byte first, 0 beyond their end. -/
def byteWord (bs : List Byte) (k : Nat) : Word := mkWord (bs.getD (2 * k + 1) 0#8) (bs.getD (2 * k) 0#8)

/-- The Stop Slot's 32 words (Table 11-6). -/
def stopWords (st : StopState) : List Word :=
  [mkWord st.reason (stopSlotKind st), st.source.setWidth 16, mkWord (st.frame.setWidth 8) st.seq,
   mkWord (BitVec.ofNat 8 st.text.length) st.zone] ++ (List.range 28).map (byteWord st.text)

def ringCode : RingClass → Byte
  | .command => 1#8
  | .info => 2#8

/-- An inbound record's 32 words (Table 11-6). -/
def recordWords (m : Staged) : List Word :=
  [mkWord (BitVec.ofNat 8 m.payload.length) (ringCode m.cls), m.source.setWidth 16,
   mkWord (m.frame.setWidth 8) m.seq, mkWord 0#8 m.zone] ++ (List.range 28).map (byteWord m.payload)

/-- Link words 4 and 5 of the Status Block. -/
def linkWord (k : LinkState) : Word :=
  mkWord (k.channel.setWidth 8) (BitVec.ofNat 8 (conditionCode k.condition + 4 * roleCode k.role))

/-- The PRIMARY link's code in word 3. -/
def primaryCode (s : State) : Byte :=
  match primaryLink s with
  | some .a => 0#8
  | some .b => 1#8
  | none => 0xFF#8

/-- A word with bit n set for each Window Table index n that meets `p`. -/
def indexMask (s : State) (p : Entry → Bool) : Word :=
  (List.range 16).foldl (fun w i => w ||| bitAt ((entryAt s i).any p) i) 0#16

/-- The counters of block words 21 to 43, in their order. -/
def counterList (s : State) : List Nat :=
  [s.bpu.guardViolations, s.ftu.gatedTriggers, s.uq.superseded, s.uq.queueDrops, s.uq.strayAcks,
   s.uq.undelivered, s.ft.coChannel, s.ft.renumbers, s.ssu.unusedGrants, s.ssu.oversizeWaits, s.ab.overrun,
   s.xu.crossovers, s.dlf.downlinkErrors, s.dlf.foreignDownlinks, s.dlf.truncations, s.dlf.duplicates,
   s.dlf.mirrorMisses, s.mae.stagingDrops, s.mae.ringOverflows, s.mae.indexFaults, s.mae.mirrorClamps,
   s.mae.mirrorDrops, s.cu.overruns]

/-- The Status Block's word `k` (Table 11-5). -/
def statusWord (s : State) (k : Nat) : Word :=
  match k with
  | 0 => s.mae.refresh
  | 1 => mkWord (lockCode s.ft.lock) (if s.passOnly then 1#8 else 0#8)
  | 2 => mkWord (s.ft.frame.setWidth 8) s.ft.zone
  | 3 => mkWord (BitVec.ofNat 8 s.ft.miss) (primaryCode s)
  | 4 => linkWord s.xu.linkA
  | 5 => linkWord s.xu.linkB
  | 6 => word (linkA8 s .a)
  | 7 => word (linkA8 s .b)
  | 8 => mkWord (BitVec.ofNat 8 s.ssu.contention.length) (BitVec.ofNat 8 s.ssu.grants.length)
  | 9 => word (coveredSlots s.ssu.grants).length
  | 10 => word s.ab.allowance
  | 11 => BitVec.ofInt 16 s.ab.credit
  | 12 => word s.ab.earnedLatch
  | 13 => word s.ab.spentLatch
  | 14 => word s.ft.syncErrors
  | 15 => s.au.causes.setWidth 16
  | 16 => bitAt s.au.stop.held 0 ||| bitAt s.au.stop.recorded 1 ||| bitAt s.au.accepted 2
  | 17 => word (freeStore s)
  | 18 => mkWord (BitVec.ofNat 8 s.mae.staging.length) (BitVec.ofNat 8 s.uq.records.length)
  | 19 => indexMask s fun _ => true
  | 20 => indexMask s Entry.isActive
  | 63 => s.mae.refresh
  | k => if 21 ≤ k then word ((counterList s).getD (k - 21) 0) else 0#16

/-! ### The ready word (R155, R157) -/

/-- The byte address of Control Page word `k`. -/
def pageAddr (s : State) (k : Nat) : Nat := s.bpu.base + 2 * k

/-- The value of a ring job's index word (R163): W past this slot, and past the next if its record is
finished. -/
def indexValue (r : Ring) (unpublished : Option (Nat × RingClass)) : Nat :=
  let w := (r.w + 1) % r.slots
  match unpublished with
  | some (slot, _) => if slot = w then (w + 1) % r.slots else w
  | none => w

/-- The word a job has ready: its address and its value, or a read (Table 9-2). A PRIME read that has not begun is
withdrawn where a processor write primes its whole word meanwhile, and the next unprimed word is ready in its place,
of which R30 says nothing (DEDUCED, log 44). -/
def jobWord (s : State) (j : Job) : Option BusWord :=
  let put := fun (a : Nat) (v : Word) => some (⟨j.work.kind, a, some v, 0⟩ : BusWord)
  match j.work with
  | .attention =>
    if j.done = 0 then put (pageAddr s 32) (attentionValue s.au)
    else put (pageAddr s 33) (s.au.requests.setWidth 16)
  | .stop words => put (pageAddr s (64 + j.done)) (words.getD j.done 0#16)
  | .result r =>
    if r.publish && decide (j.done = 0) then put (pageAddr s 34) 0#16
    else
      let k := if r.publish then j.done - 1 else j.done
      put (pageAddr s (if k = 7 then 16 else 17 + k)) (r.words.getD k 0#16)
  | .ring _ slot words =>
    match s.mae.ring with
    | some r =>
      if j.done < 32 then put (r.base + 64 * slot + 2 * j.done) (words.getD j.done 0#16)
      else put (pageAddr s 34) (word (indexValue r s.mae.unpublished))
    | none => none
  | .mirror i offset words =>
    (entryAt s i).bind fun e => put (e.base + 2 * (offset + j.done)) (words.getD j.done 0#16)
  | .age i =>
    match entryAt s i, mirrorAt s i with
    | some e, some m => put (e.base + 2 * (e.length - 1)) (word m.age)
    | _, _ => none
  | .status _ => put (pageAddr s (96 + j.done)) (statusWord s j.done)
  | .prime i =>
    match entryAt s i, captureAt s i with
    | some e, some c => (nextUnprimed c e.length j.done).map fun k => ⟨.prime, e.base + 2 * k, none, k⟩
    | _, _ => none

/-- The engine may use the bus: PORN is high and VRST is not asserted (R13, R14). -/
def engineOn (s : State) : Bool := s.porn && !s.vrst

/-- The word the engine offers the arbiter (R157). -/
def readyWord (s : State) : Option BusWord :=
  if engineOn s then s.mae.running.bind (jobWord s) else none

/-! ### Starting and resuming (R158, R163, R165, R167) -/

def runJob (w : Work) (s : State) : State := { s with mae.running := some ⟨w, 0⟩ }

/-- A STATUS job begins at word 0 with a new refresh count (R167). -/
def startStatus (s : State) : State := runJob (.status false) { s with mae.refresh := s.mae.refresh + 1#16 }

/-- The Staging Queue's first message of a class, and the queue without it. -/
def takeStaged (cls : RingClass) : List Staged → Option (Staged × List Staged)
  | [] => none
  | m :: rest =>
    if m.cls = cls then some (m, rest) else (takeStaged cls rest).map fun r => (r.1, m :: r.2)

/-- A COMMAND or INFO job takes its message and its slot (R162, R163). -/
def startRing (cls : RingClass) (s : State) : State :=
  match s.mae.ring, takeStaged cls s.mae.staging with
  | some r, some (m, rest) =>
    dropStaleInfo (runJob (.ring cls r.v (recordWords m)) { s with
      mae.staging := rest
      mae.ring := some { r with v := (r.v + 1) % r.slots } })
  | _, _ => s

/-- The words of a MIRROR data job that lie inside the writable limit (R165). -/
def mirrorKept (s : State) (i offset : Nat) (words : List Word) : List Word :=
  match entryAt s i, mirrorAt s i with
  | some e, some m => words.take ((if m.ageWord then e.length - 1 else e.length) - offset)
  | _, _ => []

/-- A MIRROR data job starts, its words cut at the limit; with none left it ends at its start (R165). The clamp is
counted here, and an abandonment of the job (R159) does not take it back (DEDUCED, log 37). -/
def startMirror (i offset : Nat) (words : List Word) (s : State) : State :=
  let kept := mirrorKept s i offset words
  let t := if kept.length < words.length then { s with mae.mirrorClamps := bump s.mae.mirrorClamps } else s
  if kept.isEmpty then endRunning t else runJob (.mirror i offset kept) t

/-- The next job of the MIRROR list leaves it and starts (R156, R165, R166). -/
def startListed (s : State) : State :=
  match s.mae.mirrorList with
  | [] => s
  | job :: rest =>
    let t := { s with mae.mirrorList := rest }
    match job with
    | .data i offset words => startMirror i offset words t
    | .age i => runJob (.age i) t

/-- A PRIME job that finds no unprimed word left ends (R30, R157). -/
def settlePrime (i : Nat) (s : State) : State := if (readyWord s).isNone then dropPrime i s else s

/-- The next PRIME job leaves the list and starts (R30, R156). -/
def startPrime (s : State) : State :=
  match s.mae.primeList with
  | [] => s
  | i :: rest => settlePrime i (runJob (.prime i) { s with mae.primeList := rest })

/-- The highest-ranked pending job starts (R156, R158). -/
def startJob (k : JobKind) (s : State) : State :=
  match k with
  | .attention => runJob .attention { s with mae.attention := false }
  | .stop => runJob (.stop (stopWords s.au.stop)) { s with mae.stop := false }
  | .result =>
    match s.mae.result with
    | some r => runJob (.result r) { s with mae.result := none }
    | none => s
  | .command => startRing .command s
  | .mirror => startListed s
  | .info => startRing .info s
  | .status => startStatus { s with mae.status := false }
  | .prime => startPrime s

/-- The job on top of the Suspension Stack resumes at its saved offset; a STATUS job with the restart mark
starts again (R158, R167). -/
def resumeJob (j : Job) (rest : List Job) (s : State) : State :=
  let t := { s with mae.stack := rest }
  match j.work with
  | .status true => startStatus t
  | .prime i => settlePrime i { t with mae.running := some j }
  | .status false | .attention | .stop _ | .result _ | .ring _ _ _ | .mirror _ _ _ | .age _ =>
    { t with mae.running := some j }

/-- The choice with no job running (R158). -/
def chooseNext (s : State) : State :=
  match s.mae.stack with
  | [] =>
    match highestPending s with
    | some k => startJob k s
    | none => s
  | j :: rest =>
    match highestPending s with
    | some k => if kindRank k < kindRank j.work.kind then startJob k s else resumeJob j rest s
    | none => resumeJob j rest s

/-- The kind of job that preempts the running job `j`: a higher pending one while the stack has room, unless it waits
for the running job's end (R158, log 38). -/
def preempting (j : Job) (s : State) : Option JobKind :=
  if s.mae.stack.length < Config.stackMax then
    (highestFree s).filter fun k => decide (kindRank k < kindRank j.work.kind)
  else none

/-- A higher pending job preempts the running one, which goes on the stack (R158). -/
def preempt (j : Job) (s : State) : State :=
  match preempting j s with
  | some k => startJob k { s with mae.stack := j :: s.mae.stack, mae.running := none }
  | none => s

/-- The engine is at a word boundary and may use the bus (R157). -/
def engineFree (s : State) : Bool := engineOn s && s.bpu.onBus.isNone

/-- The engine chooses its job once, at a word boundary (R157, R158). -/
def chooseJob (s : State) : State :=
  if engineFree s then
    match s.mae.running with
    | none => chooseNext s
    | some j => preempt j s
  else s

/-- The engine must choose again: no job runs although one is pending or suspended, for a job ended as it started
(R158, R165); or a job that became pending as the running one started preempts it (R158, R160). -/
def mustChoose (s : State) : Bool :=
  engineFree s &&
    match s.mae.running with
    | none => (highestPending s).isSome || !s.mae.stack.isEmpty
    | some j => (preempting j s).isSome

/-- The choice, made again at most `n` times while there is one to make. -/
def chooseJobs : Nat → State → State
  | 0, s => s
  | n + 1, s =>
    let t := chooseJob s
    if mustChoose t then chooseJobs n t else t

/-- The engine makes its choice (R158; when it does, log 29): at most eight MIRROR and sixteen PRIME jobs can end as
they start, and at most two jobs go on the stack. -/
def settleEngine (s : State) : State := chooseJobs 32 s

/-- The ready word begins on the RAM bus, unless an MAE word is on it or a processor cycle is in progress (R10). -/
def beginWord (s : State) : State :=
  if s.bpu.onBus.isNone && s.bpu.hold.isNone then { s with bpu.onBus := readyWord s } else s

/-! ### The completion of a word (R155, R157) -/

/-- The running job goes on at word `n`. -/
def advanceTo (n : Nat) (j : Job) (s : State) : State := { s with mae.running := some { j with done := n } }

/-- The Ring Write Index word completes: W advances and the records are announced in slot order (R163). -/
def publishRing (cls : RingClass) (s : State) : State :=
  match s.mae.ring with
  | some r =>
    let w := indexValue r s.mae.unpublished
    let second := if w = (r.w + 1) % r.slots then none else s.mae.unpublished
    let t := raiseRequest (ringRequest cls) (endRunning { s with
      mae.ring := some { r with w := w }
      mae.unpublished := if second.isSome then none else s.mae.unpublished })
    match second with
    | some (_, c) => raiseRequest (ringRequest c) t
    | none => t
  | none => endRunning s

/-- A ring record's last word completes: on to the index word, or the end unpublished (R163). -/
def finishRecord (cls : RingClass) (slot : Nat) (j : Job) (s : State) : State :=
  match s.mae.ring with
  | some r =>
    if slot = r.w then advanceTo 32 j s else endRunning { s with mae.unpublished := some (slot, cls) }
  | none => endRunning s

/-- A MIRROR data job is complete: Age 0, its stale report cleared, and the age word listed (R165). -/
def mirrorDeposited (i : Nat) (s : State) : State :=
  let t := mapMirror i (fun m => { m with age := 0, staleReported := false }) s
  match mirrorAt t i with
  | some m => if m.ageWord then listAge i t else t
  | none => t

/-- A RESULT job is complete: the Command Unit is IDLE and RESULT is raised (R155, R184). -/
def resultDeposited (s : State) : State := raiseRequest .result { s with cu.state := .idle }

/-- A PRIME read of word `k` completes: the unprimed bytes are filled, and priming may complete (R30, R33). -/
def primeFilled (i k : Nat) (v : Word) (j : Job) (s : State) : State :=
  let t := advanceTo (k + 1) j (mapCapture i (fun c => { c with image := fillImage k v c.image }) s)
  settlePrime i (completeIfPrimed i t)

/-- The running job after one of its words has completed; `v` is the word on the bus (R155). -/
def jobWordDone (j : Job) (b : BusWord) (v : Word) (s : State) : State :=
  let next := j.done + 1
  match j.work with
  | .attention => if j.done = 0 then advanceTo 1 j s else endRunning s
  | .stop words => if next < words.length then advanceTo next j s else stopDeposited (endRunning s)
  | .result r =>
    let t := if r.publish && decide (j.done = 0) then { s with mae.publication := false } else s
    if next < (if r.publish then r.words.length + 1 else r.words.length) then advanceTo next j t
    else resultDeposited (endRunning t)
  | .ring cls slot _ =>
    if next < 32 then advanceTo next j s
    else if next = 32 then finishRecord cls slot j s
    else publishRing cls s
  | .mirror i _ words => if next < words.length then advanceTo next j s else mirrorDeposited i (endRunning s)
  | .age _ => endRunning s
  | .status _ => if next < 64 then advanceTo next j s else endRunning s
  | .prime i => primeFilled i b.offset v j s

/-- The Deposited Attention Value follows the write of the Attention Word (R155, R173). -/
def noteDeposit (b : BusWord) (v : Word) (s : State) : State :=
  if b.kind = .attention ∧ b.addr = pageAddr s 32 then { s with au.deposited := v } else s

/-- An MAE word completes on the RAM bus: the RAM write or read, then its job's progress. A word whose job has
been abandoned completes alone (R10, R12, R157, log 5). -/
def completeWord (b : BusWord) (s : State) : State :=
  let t := { s with bpu.onBus := none, bpu.passOver := 0 }
  let u := match b.value with
    | some v => noteDeposit b v { t with ram := writeWord t.ram b.addr v }
    | none => t
  match u.mae.running with
  | some j => jobWordDone j b (b.value.getD (readWord u.ram b.addr)) u
  | none => u

/-! ### The engine at the assertion of VRST (R168) -/

/-- Every job, list and ring setting of the engine goes; the refresh count and the counters stay. -/
def vehicleAssertEngine (s : State) : State :=
  { s with
    mae := { s.mae with
      running := none, stack := [], waits := [], mirrorWaits := 0, attention := false, stop := false,
      result := none, status := false, mirrorList := [], primeList := [], staging := [], ring := none,
      unpublished := none, publication := false }
    bpu.passOver := 0 }

end Sys2Proof.Machine
end

