-- ==== Sys2Proof/Machine/Commands.lean ====
section
/-! DEFINITION. The Command Unit (spec/11): taking a command, carrying it out, and its reply. -/

namespace Sys2Proof.Machine

/-- A command that is complete within the event of taking it gets its result (R184). -/
def replyWith (r : State × ResultCode) : State := replyCommand r.2 [] r.1

/-- QUERY WINDOW (R187, Table 11-3). -/
def queryWindow (args : List Word) (s : State) : State :=
  let i := argNat args 1
  if 15 < i then replyCommand .badIndex [] s
  else
    match entryAt s i with
    | some e => replyCommand .done (queryWords s e) s
    | none => replyCommand .notActive [] s

/-- SET RING: checked at once, or waiting while a ring job is in progress (R161, R185). -/
def setRing (args : List Word) (s : State) : State :=
  let base := argAddr args 1
  let slots := argNat args 3
  if anyRingJob s.mae then
    let (code, tag) := commandInProgress s
    { s with cu.state := .waiting code tag (.ringIdle base slots) }
  else replyWith (installRing base slots s)

/-- The wait of a SET RING is over (R161, R185). -/
def endRingWait (s : State) : State :=
  match s.cu.state with
  | .waiting _ _ (.ringIdle base slots) =>
    if anyRingJob s.mae then s else replyWith (installRing base slots s)
  | .waiting _ _ .crossover | .waiting _ _ (.linkTune _ _) | .idle | .executing _ _ => s

/-- What stands before the next cycle or tick: a SET RING whose wait is over is checked, the ring job having ended
(R161, R185, log 39), and the engine makes its choice (R158). -/
def settle (s : State) : State := settleEngine (endRingWait s)

/-- FORCE CROSSOVER (R131, R185). -/
def forceCommand (s : State) : State :=
  if s.ft.lock = .search then replyCommand .noCandidate [] s
  else
    let (code, tag) := commandInProgress s
    { s with xu.forcedCommand := true, cu.state := .waiting code tag .crossover }

/-- Every 16-bit counter and the Sync Error Count become 0 (R187). -/
def zeroCounters (s : State) : State :=
  { s with
    bpu.guardViolations := 0
    ftu.gatedTriggers := 0
    uq := { s.uq with superseded := 0, queueDrops := 0, strayAcks := 0, undelivered := 0 }
    ft := { s.ft with coChannel := 0, renumbers := 0, syncErrors := 0 }
    ssu := { s.ssu with unusedGrants := 0, oversizeWaits := 0 }
    ab.overrun := 0
    xu.crossovers := 0
    dlf := { s.dlf with
      downlinkErrors := 0, foreignDownlinks := 0, truncations := 0, duplicates := 0, mirrorMisses := 0 }
    mae := { s.mae with
      stagingDrops := 0, ringOverflows := 0, indexFaults := 0, mirrorClamps := 0, mirrorDrops := 0 }
    cu.overruns := 0 }

/-- A taken command is carried out (R184): PASS_ONLY in that mode, BAD_CODE for a code Table 11-1 does not
list, else the owning block's checks and effects. -/
def runCommand (code : Byte) (args : List Word) (s : State) : State :=
  if s.passOnly then replyCommand .passOnly [] s
  else if code = codeLoadWindow then replyWith (loadWindow .localLoad args s)
  else if code = codeClearWindow then replyWith (clearWindow .localLoad args s)
  else if code = codeQueryWindow then queryWindow args s
  else if code = codeLoadCompare then replyWith (loadCompare .localLoad args s)
  else if code = codeClearCompare then replyWith (clearCompare .localLoad args s)
  else if code = codeLoadAlias then replyWith (loadGroup .localLoad args s)
  else if code = codeClearAlias then replyWith (clearGroup args s)
  else if code = codeSetRing then setRing args s
  else if code = codeSetTiming then replyWith (setTiming args s)
  else if code = codeSetMargin then replyWith (setMargin args s)
  else if code = codeSetLinkEnable then setLinkEnable args s
  else if code = codeForceCrossover then forceCommand s
  else if code = codeSnapshotNow then replyWith (snapshotNow args s)
  else if code = codeClearCounters then replyCommand .done [] (zeroCounters s)
  else if code = codeRestartLink then replyCommand .done [] (restartLinks s)
  else replyCommand .badCode [] s

/-- A refused command is counted and raises CMD_OVERRUN (R183). -/
def overrunCommand (s : State) : State :=
  raiseCause .cmdOverrun { s with cu.overruns := bump s.cu.overruns }

/-- The arguments of a command: the copies of words 1 to 15 (R5, R183). -/
def commandArgs (s : State) : List Word := (s.bpu.copy.drop 1).take 15

/-- The tag of a Command Word: bits 8 to 11 (R183). -/
def commandTag (w : Word) : BitVec 4 := (w >>> 8).setWidth 4

/-- A Command Word value reaches the Command Unit (R183). -/
def takeCommand (w : Word) (s : State) : State :=
  if loByte w = 0#8 then s
  else
    match s.cu.state with
    | .idle =>
      runCommand (loByte w) (commandArgs s) { s with cu.state := .executing (loByte w) (commandTag w) }
    | .executing _ _ => overrunCommand s
    | .waiting _ _ _ => overrunCommand s

/-- The Command Unit at the assertion of VRST: IDLE, with the Crossover Unit's command mark cleared
(R131, R186). -/
def vehicleAssertCommand (s : State) : State :=
  { s with cu.state := .idle, xu.forcedCommand := false }

end Sys2Proof.Machine
end

