-- ==== Sys2Proof/Machine/Clock.lean ====
section
/-! DEFINITION. The clock of the part: the events that fall due at a tick, and the passing of time, in which each
occurs at its tick (R78, R79). -/

namespace Sys2Proof.Machine

/-- The events that fall due at a tick, one for each row of Machine/TimedRows.lean. -/
inductive Event where
  | frameStart
  | slotStart (k : BitVec 6)
  | keyGuard
  | key
  | windowOpen
  | windowClose
  | closeTimeout
  | watchClose
  | watchTimeout
  | tuneExpiry (l : Link)
  | scanExpiry (l : Link)
deriving DecidableEq, Repr

/-- The tick at which an event falls due, if it is to come (R80, R81, R83, R84, R110, R112, R121, R124, R129). -/
def dueTick (s : State) : Event → Option Tick
  | .frameStart => frameStartDue s
  | .slotStart k => slotDue s k.toNat
  | .keyGuard => expiryDue s
  | .key => keyDue s
  | .windowOpen => openDue s
  | .windowClose => closeDue s
  | .closeTimeout => closeTimeoutDue s
  | .watchClose => watchDue s
  | .watchTimeout => watchTimeoutDue s
  | .tuneExpiry l => tuneDue l s
  | .scanExpiry l => scanDue l s

/-- The event's effect at the present tick. -/
def occur (e : Event) (s : State) : State :=
  match e with
  | .frameStart => runFrameStart s
  | .slotStart k => slotStartAt k s
  | .keyGuard => expireBurst s
  | .key => keyBurst s
  | .windowOpen => openWindow s
  | .windowClose => fallClose s
  | .closeTimeout => closeTimeout s
  | .watchClose => fallWatch s
  | .watchTimeout => watchTimeout s
  | .tuneExpiry l => expireTune l s
  | .scanExpiry l => expireScan l s

/-- The events that can be to come, the slot start being that of the frame's next slot. Of events due at one tick
the first of this list occurs first (log 1). -/
def events (s : State) : List Event :=
  [.frameStart, .slotStart (BitVec.ofNat 6 s.ft.nextSlot), .keyGuard, .key, .windowOpen, .windowClose,
   .closeTimeout, .watchClose, .watchTimeout, .tuneExpiry .a, .tuneExpiry .b, .scanExpiry .a, .scanExpiry .b]

/-- The ticks until an event falls due; 0 or less where it is due (R79). -/
def untilDue (s : State) (e : Event) : Option Int := (dueTick s e).map fun t => tickDiff t s.ft.tick

/-- The earlier of the first event so far and one more. -/
def earlier (s : State) (best : Option (Event × Int)) (e : Event) : Option (Event × Int) :=
  match untilDue s e, best with
  | none, _ => best
  | some d, none => some (e, d)
  | some d, some (f, c) => if d < c then some (e, d) else some (f, c)

/-- The event that falls due first, with the ticks until then. -/
def firstDue (s : State) : Option (Event × Int) := (events s).foldl (earlier s) none

/-- What comes before any tick passes: a SET RING whose wait is over is checked (R161), the engine makes its choice
(R158), and a ready MAE word begins on the free bus, which the gap between processor cycles lets in at once (R10,
section 1.4). -/
def openGap (s : State) : State := beginWord (settle s)

/-- `r` ticks pass; before them, and after each event among them, `openGap` acts. Each event that falls due before
their end occurs at its tick, an overdue one at the present tick (R79). `n` bounds the events. A word on the bus does
not complete in these ticks: its own row, or an idle step, is its end (DESIGN CHOICE, log 48). -/
def runFor : Nat → Int → State → State
  | 0, r, s => countTicks r.toNat s
  | n + 1, r, s =>
    let t := if 0 < r then openGap s else s
    match firstDue t with
    | some (e, d) =>
      if d < r then runFor n (r - max 0 d) (occur e (countTicks d.toNat t)) else countTicks r.toNat t
    | none => countTicks r.toNat t

/-- More events than can fall due in so many ticks. -/
def eventBound (r : Int) : Nat := 16 * r.toNat + 256

/-- `dt` ticks pass. The Tick Counter holds 0 while PORN is low (R78). -/
def elapse (dt : Tick) (s : State) : State :=
  if s.porn then runFor (eventBound dt.toNat) dt.toNat s else s

/-- The Tick Counter reaches an event that is to come, what falls due before it having occurred. -/
def reachEvent (e : Event) (s : State) : State :=
  match untilDue s e with
  | some d => runFor (eventBound d) d s
  | none => s

/-- The event is due. -/
def isDue (e : Event) (s : State) : Bool := (untilDue s e).any fun d => decide (d ≤ 0)

/-- An event's row: the Tick Counter reaches the event, and it occurs unless an earlier one has withdrawn it. -/
def takeEvent (e : Event) (s : State) : State :=
  let t := reachEvent e s
  if isDue e t then occur e t else t

end Sys2Proof.Machine
end

