-- ==== Sys2Proof/Machine/Bus.lean ====
section
/-! DEFINITION. The Bus Path Unit (spec/01): the classes of a write cycle, how a cycle is performed, the
arbiter, and the RAM bus cycles of the Memory Access Engine. -/

namespace Sys2Proof.Machine

/-! ### Addresses and classes (Tables 1-2, 1-3) -/

/-- The even byte address of the addressed word (R1). -/
def wordAddr (a : Addr) : Nat := 2 * (a.toNat / 2)

/-- The Control Page word at a word address, if it is one (R2). -/
def pageWord (s : State) (a : Nat) : Option Nat :=
  if s.bpu.base ≤ a ∧ a < s.bpu.base + 512 then some ((a - s.bpu.base) / 2) else none

/-- The part-written words of Table 1-3. -/
def partWord (k : Nat) : Bool :=
  (decide (16 ≤ k) && decide (k ≤ 23)) || (decide (32 ≤ k) && decide (k ≤ 34)) ||
    (decide (64 ≤ k) && decide (k ≤ 159))

/-- The processor-written words of Table 1-3. -/
def controlWord (k : Nat) : Bool := decide (k ≤ 15) || (decide (24 ≤ k) && decide (k ≤ 28))

/-- The write classes of Table 1-2, with what a hand-over needs. -/
inductive WriteClass where
  | owned
  | control (k : Nat)
  | plain
  | guarded
  | mirrorOpen
  | capture (i k : Nat)
deriving DecidableEq, Repr

/-- The address is a word of the Inbound Ring. -/
def inRing (s : State) (a : Nat) : Bool :=
  match s.mae.ring with
  | some r => decide (r.base ≤ a) && decide (a < r.base + 64 * r.slots)
  | none => false

/-- An entry whose window holds the address. -/
def Entry.holds (a : Nat) (e : Entry) : Bool := decide (e.base ≤ a) && decide (a < e.base + 2 * e.length)

/-- The first Window Table index whose entry holds the address and meets `p`. -/
def indexAt (s : State) (a : Nat) (p : EntryBody → Bool) : Option Nat :=
  (List.range 16).find? fun i => (entryAt s i).any fun e => e.holds a && p e.body

def EntryBody.isMirror (guarded : Bool) : EntryBody → Bool
  | .capture _ => false
  | .mirror m => m.guarded == guarded

/-- The word offset of an address within window `i`. -/
def offsetIn (s : State) (i a : Nat) : Nat :=
  match entryAt s i with
  | some e => (a - e.base) / 2
  | none => 0

/-- Rows 4 to 8 of Table 1-2. -/
def classifyOutside (s : State) (a : Nat) : WriteClass :=
  if inRing s a then .owned
  else if (indexAt s a (EntryBody.isMirror true)).isSome then .guarded
  else if (indexAt s a (EntryBody.isMirror false)).isSome then .mirrorOpen
  else
    match indexAt s a EntryBody.isCapture with
    | some i => .capture i (offsetIn s i a)
    | none => .plain

/-- The class of a write at word address `a` (Table 1-2). -/
def classify (s : State) (a : Nat) : WriteClass :=
  match pageWord s a with
  | some k => if partWord k then .owned else if controlWord k then .control k else .plain
  | none => classifyOutside s a

/-! ### Hand-overs (R5, R7) -/

/-- The place of a Control Page word in the Control Write Copy; words 26 and 27 have none (R5). -/
def copyPlace (k : Nat) : Option Nat :=
  if k ≤ 15 then some k else if k = 24 then some 16 else if k = 25 then some 17
  else if k = 28 then some 18 else none

/-- The Control Write Copy of a processor-written word. -/
def copyAt (s : State) (place : Nat) : Word := s.bpu.copy.getD place 0#16

/-- The value a CONTROL-WRITE hands over, the copy updated (R5). -/
def mergeCopy (k : Nat) (v : Word) (lanes : Lanes) (s : State) : Word × State :=
  match copyPlace k with
  | some p =>
    let m := mergeLanes (copyAt s p) v lanes
    (m, { s with bpu.copy := s.bpu.copy.set p m })
  | none => (strobedOnly v lanes, s)

/-- A processor-written word's value reaches its receiving block (Table 1-3). -/
def handControl (k : Nat) (v : Word) (s : State) : State :=
  if k = 0 then takeCommand v s
  else if k = 24 then takePermissions v s
  else if k = 25 then takeEnable v s
  else if k = 26 then takeRequestClear v s
  else if k = 27 then takeFaultClear v s
  else if k = 28 then takeReadIndex v.toNat s
  else s

/-- A suppressed write (R7). -/
def suppressWrite (s : State) : State :=
  raiseCause .guardWrite { s with bpu.guardViolations := bump s.bpu.guardViolations }

/-- The strobed bytes reach RAM (R4). -/
def writeRam (a : Nat) (v : Word) (lanes : Lanes) (s : State) : State :=
  { s with ram := writeLanes s.ram a v lanes }

/-! ### Performing a cycle (R1 to R9, R13, R14) -/

/-- A write cycle of a class; while VRST is asserted nothing is handed over (R14). -/
def performClass (c : WriteClass) (a : Nat) (v : Word) (lanes : Lanes) (s : State) : State :=
  match c with
  | .owned => suppressWrite s
  | .guarded => suppressWrite s
  | .plain => writeRam a v lanes s
  | .mirrorOpen => writeRam a v lanes s
  | .control k =>
    let t := writeRam a v lanes s
    if s.vrst then t
    else
      let (m, u) := mergeCopy k v lanes t
      handControl k m u
  | .capture i k =>
    let t := writeRam a v lanes s
    if s.vrst then t else captureHandOver i k v lanes t

/-- A write cycle is performed (R2, R4, R13). -/
def performWrite (a : Nat) (v : Word) (lanes : Lanes) (s : State) : State :=
  if !lanes.low && !lanes.high then s
  else if s.porn then performClass (classify s a) a v lanes s
  else writeRam a v lanes s

/-- The watched reads: the Attention Word (R8) and the Sync Error Count word (R9). -/
def watchedRead (a : Nat) (v : Word) (s : State) : State :=
  if a = pageAddr s 32 then acceptRead v s
  else if a = pageAddr s 110 then { s with ft.syncErrors := 0 }
  else s

/-- A read cycle is performed: the RAM word is returned on PD, and a watched read is delivered unless PORN is
low or VRST is asserted (R1, R8, R9, R13, R14). -/
def performRead (a : Nat) (s : State) : State :=
  let v := readWord s.ram a
  let t := { s with bpu.pd := v }
  if engineOn s then watchedRead a v t else t

/-- A processor cycle is performed on the RAM bus; a malformed one does nothing (R1). -/
def performCycle (c : Cycle) (s : State) : State :=
  if c.read && c.write then s
  else if c.read then performRead (wordAddr c.addr) s
  else if c.write then performWrite (wordAddr c.addr) c.data c.lanes s
  else s

/-! ### The arbiter (R10 to R12) -/

/-- Words that go ahead of the processor (R11). -/
def JobKind.urgent : JobKind → Bool
  | .attention => true
  | .stop => true
  | .result | .command | .mirror | .info | .status | .prime => false

/-- BWAIT is released and the held cycle performed (R10 to R12). -/
def releaseHold (s : State) : State :=
  match s.bpu.hold with
  | some c => performCycle c { s with bpu.hold := none }
  | none => s

/-- An MAE word completes; at that word boundary a SET RING that waited for the word's job is checked (R161), the engine
makes its choice (R158), and then the cycle held for the word is performed (R10 to R12). -/
def completeBus (b : BusWord) (s : State) : State := releaseHold (settle (completeWord b s))

/-- The word on the RAM bus, if any, completes. -/
def finishBus (s : State) : State :=
  match s.bpu.onBus with
  | some b => completeBus b s
  | none => releaseHold s

/-- A processor cycle waits for word `b`, which is on the bus from now on (R11, R12). -/
def holdFor (b : BusWord) (c : Cycle) (s : State) : State :=
  { s with bpu.onBus := some b, bpu.hold := some c }

/-- A processor cycle begins with no cycle held: performed, or held for an MAE word (R10 to R13). -/
def beginCycle (c : Cycle) (s : State) : State :=
  match s.bpu.onBus with
  | some b => if s.porn then holdFor b c s else performCycle c s
  | none =>
    match readyWord s with
    | none => performCycle c s
    | some b =>
      if b.kind.urgent || decide (Config.passOverMax ≤ s.bpu.passOver) then holdFor b c s
      else performCycle c { s with bpu.passOver := s.bpu.passOver + 1 }

/-- A processor cycle begins. The processor bus carries one cycle at a time (R1), so a cycle still held is
performed first, after the word it waits for (log 6). -/
def processorCycle (c : Cycle) (s : State) : State :=
  if s.bpu.hold.isSome then beginCycle c (finishBus s) else beginCycle c s

/-- The cycle of a write. -/
def writeCycle (a : Addr) (v : Word) (lanes : Lanes) : Cycle := ⟨false, true, a, v, lanes⟩

/-- The cycle of a read. -/
def readCycle (a : Addr) (lanes : Lanes) : Cycle := ⟨true, false, a, 0#16, lanes⟩

/-- The address of Control Page word `k` on the processor bus. -/
def pageBusAddr (s : State) (k : Nat) : Addr := BitVec.ofNat 20 (pageAddr s k)

/-- A write of Control Page word `k`. -/
def pageWrite (k : Nat) (v : Word) (lanes : Lanes) (s : State) : State :=
  processorCycle (writeCycle (pageBusAddr s k) v lanes) s

/-- The data and lanes of a Command Word write (R4, R183). -/
def cmdWriteData (code : Byte) : CmdWrite → Word × Lanes
  | .word high => (mkWord high code, Lanes.word)
  | .lowByte => (mkWord 0#8 code, ⟨true, false⟩)
  | .highByte high => (mkWord high 0#8, ⟨false, true⟩)

/-- A Command Word write, `dt` ticks on (R183). -/
def commandWrite (dt : Tick) (code : Byte) (w : CmdWrite) (s : State) : State :=
  let (v, lanes) := cmdWriteData code w
  pageWrite 0 v lanes (elapse dt s)

/-! ### The engine's bus cycles (R10, R157) -/

/-- The word the engine performs next: the one on the bus, or the ready one of a free bus. -/
def currentWord (s : State) : Option BusWord :=
  match s.bpu.onBus with
  | some b => some b
  | none => readyWord s

/-- An MAE write word completes (R157); nothing where there is none. -/
def completeWrite (s : State) : State :=
  match currentWord s with
  | some b => if b.value.isSome then completeBus b s else s
  | none => s

/-- An MAE read word completes (R30); nothing where there is none. -/
def completeRead (s : State) : State :=
  match currentWord s with
  | some b => if b.value.isNone then completeBus b s else s
  | none => s

/-- One tick with no command waiting: a ready MAE word begins on the free bus, what is due occurs, and the Tick Counter
counts; the word that was on the bus before the tick completes at its end (R10, R78, R79, log 2). -/
def idleTick (s : State) : State :=
  let t := elapse 1#32 s
  match s.bpu.onBus with
  | some b => completeBus b t
  | none => t

/-! ### Start-up and the resets (R13, R168, R169, R180 to R182) -/

/-- R182's PASS-ONLY straps. -/
def passStraps (carid : BitVec 10) : Bool := decide (carid = 0#10) || decide (carid = 1023#10)

/-- PORN rises: the straps are sampled (R2, R180). -/
def sampleStraps (carid : BitVec 10) (cpsel : BitVec 3) (s : State) : State :=
  { s with
    porn := true, carid := carid, passOnly := passStraps carid
    bpu.base := 0xF0000 + 0x2000 * cpsel.toNat }

/-- The moves of start-up in their order (R181, R182). -/
def startUpMoves (s : State) : State :=
  if s.passOnly then requestStatus (requestAttention s)
  else requestStatus (requestAttention (createJoin (enterSearch s)))

/-- The state while PORN is low, with what outlives it: the RAM, VRST's level, the waiting commands and the
model's record of PD. A cycle still held is forwarded as PLAIN (R13). -/
def powerDown (s : State) : State :=
  releaseHold { State.reset with
    ram := s.ram, vrst := s.vrst, pending := s.pending,
    bpu := { BusPath.reset with pd := s.bpu.pd, hold := s.bpu.hold } }

/-- The Control Write Copy cleared at the assertion of VRST (R5). -/
def clearCopy (s : State) : State := { s with bpu.copy := List.replicate 19 0#16 }

/-- The assertion of VRST, the engine's part first (R14, R35, R54, R145, R168, R179, R186). -/
def vehicleAssert (s : State) : State :=
  let t := vehicleAssertEngine { s with vrst := true }
  let t := clearRulesWhere (fun r => decide (r.origin = .localLoad)) (vehicleAssertWindows t)
  let t := clearGroupsOf .localLoad t
  clearCopy (vehicleAssertCommand (vehicleAssertAttention t))

/-- What the release of VRST requests (R36, R169, R179). -/
def vehicleRequests (s : State) : State :=
  vehicleReleaseAttention (requestStatus (vehicleReleaseWindows { s with vrst := false }))

/-- The release of VRST, at which the engine makes its choice (R158). -/
def vehicleRelease (s : State) : State := settleEngine (vehicleRequests s)

end Sys2Proof.Machine
end

