-- ==== Sys2Proof/Machine/CommandRows.lean ====
section
/-! DEFINITION. The meanings of the Command Word rows: a write of the Command Word reaches the Command Unit when it is
performed (R183), which carries out the command of its code (`runCommand`). -/

namespace Sys2Proof.Machine

/-- LOAD_WINDOW: a Command Word write with its code (R18 to R22). -/
def execLoadWindow (dt : Tick) (w : CmdWrite) (s : State) : Host.Outcome State Fault Refusal :=
  .next (commandWrite dt codeLoadWindow w s)

/-- CLEAR_WINDOW: a Command Word write with its code (R23 to R27). -/
def execClearWindow (dt : Tick) (w : CmdWrite) (s : State) : Host.Outcome State Fault Refusal :=
  .next (commandWrite dt codeClearWindow w s)

/-- QUERY_WINDOW: a Command Word write with its code (R187). -/
def execQueryWindow (dt : Tick) (w : CmdWrite) (s : State) : Host.Outcome State Fault Refusal :=
  .next (commandWrite dt codeQueryWindow w s)

/-- LOAD_COMPARE: a Command Word write with its code (R39, R40). -/
def execLoadCompare (dt : Tick) (w : CmdWrite) (s : State) : Host.Outcome State Fault Refusal :=
  .next (commandWrite dt codeLoadCompare w s)

/-- CLEAR_COMPARE: a Command Word write with its code (R41). -/
def execClearCompare (dt : Tick) (w : CmdWrite) (s : State) : Host.Outcome State Fault Refusal :=
  .next (commandWrite dt codeClearCompare w s)

/-- LOAD_ALIAS: a Command Word write with its code (R144). -/
def execLoadAlias (dt : Tick) (w : CmdWrite) (s : State) : Host.Outcome State Fault Refusal :=
  .next (commandWrite dt codeLoadAlias w s)

/-- CLEAR_ALIAS: a Command Word write with its code (R145). -/
def execClearAlias (dt : Tick) (w : CmdWrite) (s : State) : Host.Outcome State Fault Refusal :=
  .next (commandWrite dt codeClearAlias w s)

/-- SET_RING: a Command Word write with its code (R161). -/
def execSetRing (dt : Tick) (w : CmdWrite) (s : State) : Host.Outcome State Fault Refusal :=
  .next (commandWrite dt codeSetRing w s)

/-- SET_TIMING: a Command Word write with its code (R82). -/
def execSetTiming (dt : Tick) (w : CmdWrite) (s : State) : Host.Outcome State Fault Refusal :=
  .next (commandWrite dt codeSetTiming w s)

/-- SET_MARGIN: a Command Word write with its code (R134). -/
def execSetMargin (dt : Tick) (w : CmdWrite) (s : State) : Host.Outcome State Fault Refusal :=
  .next (commandWrite dt codeSetMargin w s)

/-- SET_LINK_ENABLE: a Command Word write with its code (R135, R136). -/
def execSetLinkEnable (dt : Tick) (w : CmdWrite) (s : State) : Host.Outcome State Fault Refusal :=
  .next (commandWrite dt codeSetLinkEnable w s)

/-- FORCE_CROSSOVER: a Command Word write with its code (R131). -/
def execForceCrossover (dt : Tick) (w : CmdWrite) (s : State) : Host.Outcome State Fault Refusal :=
  .next (commandWrite dt codeForceCrossover w s)

/-- SNAPSHOT_NOW: a Command Word write with its code (R53). -/
def execSnapshotNow (dt : Tick) (w : CmdWrite) (s : State) : Host.Outcome State Fault Refusal :=
  .next (commandWrite dt codeSnapshotNow w s)

/-- CLEAR_COUNTERS: a Command Word write with its code (R187). -/
def execClearCounters (dt : Tick) (w : CmdWrite) (s : State) : Host.Outcome State Fault Refusal :=
  .next (commandWrite dt codeClearCounters w s)

/-- RESTART_LINK: a Command Word write with its code (R137, R187). -/
def execRestartLink (dt : Tick) (w : CmdWrite) (s : State) : Host.Outcome State Fault Refusal :=
  .next (commandWrite dt codeRestartLink w s)

/-- UNKNOWN_COMMAND: a Command Word write with any other code (R184). -/
def execUnknownCommand (dt : Tick) (code : Byte) (w : CmdWrite) (s : State) :
    Host.Outcome State Fault Refusal :=
  .next (commandWrite dt code w s)

/-- SET_RING_WAIT_END: a waiting SET RING whose wait is over is checked (R161, R185). -/
def execSetRingWaitEnd (s : State) : Host.Outcome State Fault Refusal :=
  .next (endRingWait (elapse 0#32 s))

end Sys2Proof.Machine
end

