-- ==== Sys2Proof/Machine/EngineRows.lean ====
section
/-! DEFINITION. The meanings of the Memory Access Engine rows. -/

namespace Sys2Proof.Machine

/-- JOB_START (R158). -/
def execJobStart (s : State) : Host.Outcome State Fault Refusal :=
  .next (settleEngine (elapse 0#32 s))

/-- MAE_WORD_CYCLE_COMPLETE (R157). -/
def execMaeWordCycleComplete (s : State) : Host.Outcome State Fault Refusal :=
  .next (completeWrite (elapse 0#32 s))

/-- PRIME_READ (R30). -/
def execPrimeRead (s : State) : Host.Outcome State Fault Refusal :=
  .next (completeRead (elapse 0#32 s))

end Sys2Proof.Machine
end

