-- ==== Sys2Proof/Machine/PortRows.lean ====
section
/-! DEFINITION. The meanings of the link-port rows (R117). -/

namespace Sys2Proof.Machine

/-- BST_RISE (R118). -/
def execBstRise (dt : Tick) (link : Link) (s : State) : Host.Outcome State Fault Refusal :=
  .next (raiseBst link (elapse dt s))

/-- TUNED (R121). -/
def execTuned (dt : Tick) (link : Link) (s : State) : Host.Outcome State Fault Refusal :=
  .next (takePortMessage link [0x81#8] (elapse dt s))

/-- SENT (R111). -/
def execSent (dt : Tick) (link : Link) (s : State) : Host.Outcome State Fault Refusal :=
  .next (takePortMessage link [0x82#8] (elapse dt s))

/-- FAULT (R122): a FAULT report, or a message whose type or length makes it malformed. -/
def execFault (dt : Tick) (link : Link) (message : List Byte) (s : State) :
    Host.Outcome State Fault Refusal :=
  .next (takePortMessage link message (elapse dt s))

/-- RECEIVED (R119): a report with its status byte and its burst. -/
def execReceived (dt : Tick) (link : Link) (status : Byte) (burst : List Byte) (s : State) :
    Host.Outcome State Fault Refusal :=
  .next (takeReceived link status burst (elapse dt s))

end Sys2Proof.Machine
end

