-- ==== Sys2Proof/Machine/ProcessorRows.lean ====
section
/-! DEFINITION. The meanings of the processor-cycle rows. Each sends its cycle to the arbiter; the cycle is classified
when it is performed (R2), so a row's cycle follows the class its address has then (log 7). -/

namespace Sys2Proof.Machine

/-- PROCESSOR_WRITE: a write cycle, or a malformed one (R1, R2). -/
def execProcessorWrite (dt : Tick) (addr : Addr) (data : Word) (lanes : Lanes)
    (bothStrobes : Bool) (s : State) :
    Host.Outcome State Fault Refusal :=
  .next (processorCycle { writeCycle addr data lanes with read := bothStrobes } (elapse dt s))

/-- CAPTURE_WRITE: a write cycle to a capture window (R6, R45). -/
def execCaptureWrite (dt : Tick) (addr : Addr) (data : Word) (lanes : Lanes) (s : State) :
    Host.Outcome State Fault Refusal :=
  .next (processorCycle (writeCycle addr data lanes) (elapse dt s))

/-- PERMISSION_WORD: a write of Control Page word 24 (R172). -/
def execPermissionWord (dt : Tick) (data : Word) (lanes : Lanes) (s : State) :
    Host.Outcome State Fault Refusal :=
  .next (pageWrite 24 data lanes (elapse dt s))

/-- ATTENTION_ENABLE: a write of Control Page word 25 (R172). -/
def execAttentionEnable (dt : Tick) (data : Word) (lanes : Lanes) (s : State) :
    Host.Outcome State Fault Refusal :=
  .next (pageWrite 25 data lanes (elapse dt s))

/-- REQUEST_CLEAR: a write of Control Page word 26 (R175). -/
def execRequestClear (dt : Tick) (data : Word) (lanes : Lanes) (s : State) :
    Host.Outcome State Fault Refusal :=
  .next (pageWrite 26 data lanes (elapse dt s))

/-- FAULT_CLEAR: a write of Control Page word 27 (R176). -/
def execFaultClear (dt : Tick) (data : Word) (lanes : Lanes) (s : State) :
    Host.Outcome State Fault Refusal :=
  .next (pageWrite 27 data lanes (elapse dt s))

/-- RING_READ_INDEX: a write of Control Page word 28 (R164). -/
def execRingReadIndex (dt : Tick) (data : Word) (lanes : Lanes) (s : State) :
    Host.Outcome State Fault Refusal :=
  .next (pageWrite 28 data lanes (elapse dt s))

/-- ACCEPTANCE: a read of the Attention Word (R8, R174). -/
def execAcceptance (dt : Tick) (lanes : Lanes) (s : State) : Host.Outcome State Fault Refusal :=
  .next (let t := elapse dt s
    processorCycle (readCycle (pageBusAddr t 32) lanes) t)

/-- SYNC_ERROR_COUNT_READ: a read of the Sync Error Count word (R9). -/
def execSyncErrorCountRead (dt : Tick) (lanes : Lanes) (s : State) : Host.Outcome State Fault Refusal :=
  .next (let t := elapse dt s
    processorCycle (readCycle (pageBusAddr t 110) lanes) t)

/-- PROCESSOR_READ: a read cycle, or a malformed one (R1). -/
def execProcessorRead (dt : Tick) (addr : Addr) (lanes : Lanes) (bothStrobes : Bool) (s : State) :
    Host.Outcome State Fault Refusal :=
  .next (processorCycle { readCycle addr lanes with write := bothStrobes } (elapse dt s))

end Sys2Proof.Machine
end

