-- ==== Sys2Proof/Machine/ResetRows.lean ====
section
/-! DEFINITION. The meanings of the reset rows: START_UP, VRST_ASSERTED, VRST_RELEASED, POWER_ON_RESET. A pin event that
does not change its pin has no effect (logs 3, 8). -/

namespace Sys2Proof.Machine

/-- START_UP: PORN rises (R180 to R182). -/
def execStartUp (carid : BitVec 10) (cpsel : BitVec 3) (s : State) : Host.Outcome State Fault Refusal :=
  .next (if s.porn then s else startUpMoves (sampleStraps carid cpsel s))

/-- VRST_ASSERTED (R168). While PORN is low only the pin's level changes (log 22). -/
def execVrstAsserted (dt : Tick) (s : State) : Host.Outcome State Fault Refusal :=
  .next (let t := elapse dt s
    if t.vrst then t else if t.porn then vehicleAssert t else { t with vrst := true })

/-- VRST_RELEASED (R169). While PORN is low only the pin's level changes (log 22). -/
def execVrstReleased (dt : Tick) (s : State) : Host.Outcome State Fault Refusal :=
  .next (let t := elapse dt s
    if !t.vrst then t else if t.porn then vehicleRelease t else { t with vrst := false })

/-- POWER_ON_RESET: PORN falls, and every block takes its power-on values (R13). -/
def execPowerOnReset (s : State) : Host.Outcome State Fault Refusal :=
  .next (if s.porn then powerDown s else s)

end Sys2Proof.Machine
end

