-- ==== Sys2Proof/Machine/TimedRows.lean ====
section
/-! DEFINITION. The meanings of the rows that happen when the Tick Counter reaches a due tick: the counter moves there, what
falls due before occurs, and then the row's event (`takeEvent`). One that is not to come in the state has no effect
(log 8). -/

namespace Sys2Proof.Machine

/-- FRAME_START (R81). -/
def execFrameStart (s : State) : Host.Outcome State Fault Refusal :=
  .next (takeEvent .frameStart s)

/-- SLOT_START (R104). -/
def execSlotStart (k : BitVec 6) (s : State) : Host.Outcome State Fault Refusal :=
  .next (takeEvent (.slotStart k) s)

/-- KEY_ASSERTION (R110). -/
def execKeyAssertion (s : State) : Host.Outcome State Fault Refusal :=
  .next (takeEvent .key s)

/-- KEY_GUARD_EXPIRY (R112). -/
def execKeyGuardExpiry (s : State) : Host.Outcome State Fault Refusal :=
  .next (takeEvent .keyGuard s)

/-- BEACON_WINDOW_OPEN (R83). -/
def execBeaconWindowOpen (s : State) : Host.Outcome State Fault Refusal :=
  .next (takeEvent .windowOpen s)

/-- BEACON_WINDOW_CLOSE (R84). -/
def execBeaconWindowClose (s : State) : Host.Outcome State Fault Refusal :=
  .next (takeEvent .windowClose s)

/-- CLOSE_WAIT_TIMEOUT (R84). -/
def execCloseWaitTimeout (s : State) : Host.Outcome State Fault Refusal :=
  .next (takeEvent .closeTimeout s)

/-- TUNE_EXPIRY (R121). -/
def execTuneExpiry (link : Link) (s : State) : Host.Outcome State Fault Refusal :=
  .next (takeEvent (.tuneExpiry link) s)

/-- SCAN_EXPIRY (R124). -/
def execScanExpiry (link : Link) (s : State) : Host.Outcome State Fault Refusal :=
  .next (takeEvent (.scanExpiry link) s)

/-- WATCH_WINDOW_CLOSE (R129). -/
def execWatchWindowClose (s : State) : Host.Outcome State Fault Refusal :=
  .next (takeEvent .watchClose s)

/-- WATCH_CLOSE_WAIT_TIMEOUT (R129). -/
def execWatchCloseWaitTimeout (s : State) : Host.Outcome State Fault Refusal :=
  .next (takeEvent .watchTimeout s)

end Sys2Proof.Machine
end

