-- ==== Sys2Proof/Machine/Dispatch.lean ====
section
/-! DEFINITION. Every command's meaning, one arm per row of spec/opcode_table.json. -/

namespace Sys2Proof.Machine

/-- A command's effect on everything but the queue. -/
def exec (i : Instr) (s : State) : Host.Outcome State Fault Refusal :=
  match i with
  | .startUp carid cpsel => Sys2Proof.Machine.execStartUp carid cpsel s
  | .vrstAsserted dt => Sys2Proof.Machine.execVrstAsserted dt s
  | .vrstReleased dt => Sys2Proof.Machine.execVrstReleased dt s
  | .processorWrite dt addr data lanes bothStrobes => Sys2Proof.Machine.execProcessorWrite dt addr data lanes bothStrobes s
  | .captureWrite dt addr data lanes => Sys2Proof.Machine.execCaptureWrite dt addr data lanes s
  | .permissionWord dt data lanes => Sys2Proof.Machine.execPermissionWord dt data lanes s
  | .attentionEnable dt data lanes => Sys2Proof.Machine.execAttentionEnable dt data lanes s
  | .requestClear dt data lanes => Sys2Proof.Machine.execRequestClear dt data lanes s
  | .faultClear dt data lanes => Sys2Proof.Machine.execFaultClear dt data lanes s
  | .ringReadIndex dt data lanes => Sys2Proof.Machine.execRingReadIndex dt data lanes s
  | .acceptance dt lanes => Sys2Proof.Machine.execAcceptance dt lanes s
  | .syncErrorCountRead dt lanes => Sys2Proof.Machine.execSyncErrorCountRead dt lanes s
  | .loadWindow dt w => Sys2Proof.Machine.execLoadWindow dt w s
  | .clearWindow dt w => Sys2Proof.Machine.execClearWindow dt w s
  | .queryWindow dt w => Sys2Proof.Machine.execQueryWindow dt w s
  | .loadCompare dt w => Sys2Proof.Machine.execLoadCompare dt w s
  | .clearCompare dt w => Sys2Proof.Machine.execClearCompare dt w s
  | .loadAlias dt w => Sys2Proof.Machine.execLoadAlias dt w s
  | .clearAlias dt w => Sys2Proof.Machine.execClearAlias dt w s
  | .setRing dt w => Sys2Proof.Machine.execSetRing dt w s
  | .setRingWaitEnd => Sys2Proof.Machine.execSetRingWaitEnd s
  | .setTiming dt w => Sys2Proof.Machine.execSetTiming dt w s
  | .setMargin dt w => Sys2Proof.Machine.execSetMargin dt w s
  | .setLinkEnable dt w => Sys2Proof.Machine.execSetLinkEnable dt w s
  | .forceCrossover dt w => Sys2Proof.Machine.execForceCrossover dt w s
  | .snapshotNow dt w => Sys2Proof.Machine.execSnapshotNow dt w s
  | .clearCounters dt w => Sys2Proof.Machine.execClearCounters dt w s
  | .restartLink dt w => Sys2Proof.Machine.execRestartLink dt w s
  | .unknownCommand dt code w => Sys2Proof.Machine.execUnknownCommand dt code w s
  | .jobStart => Sys2Proof.Machine.execJobStart s
  | .maeWordCycleComplete => Sys2Proof.Machine.execMaeWordCycleComplete s
  | .primeRead => Sys2Proof.Machine.execPrimeRead s
  | .frameStart => Sys2Proof.Machine.execFrameStart s
  | .slotStart k => Sys2Proof.Machine.execSlotStart k s
  | .keyAssertion => Sys2Proof.Machine.execKeyAssertion s
  | .keyGuardExpiry => Sys2Proof.Machine.execKeyGuardExpiry s
  | .beaconWindowOpen => Sys2Proof.Machine.execBeaconWindowOpen s
  | .beaconWindowClose => Sys2Proof.Machine.execBeaconWindowClose s
  | .closeWaitTimeout => Sys2Proof.Machine.execCloseWaitTimeout s
  | .tuneExpiry link => Sys2Proof.Machine.execTuneExpiry link s
  | .scanExpiry link => Sys2Proof.Machine.execScanExpiry link s
  | .watchWindowClose => Sys2Proof.Machine.execWatchWindowClose s
  | .watchCloseWaitTimeout => Sys2Proof.Machine.execWatchCloseWaitTimeout s
  | .bstRise dt link => Sys2Proof.Machine.execBstRise dt link s
  | .tuned dt link => Sys2Proof.Machine.execTuned dt link s
  | .sent dt link => Sys2Proof.Machine.execSent dt link s
  | .fault dt link message => Sys2Proof.Machine.execFault dt link message s
  | .received dt link status burst => Sys2Proof.Machine.execReceived dt link status burst s
  | .powerOnReset => Sys2Proof.Machine.execPowerOnReset s
  | .processorRead dt addr lanes bothStrobes => Sys2Proof.Machine.execProcessorRead dt addr lanes bothStrobes s

end Sys2Proof.Machine
end

