-- ==== Sys2Proof/WellFormed.lean ====
section
/-! DEFINITION. Which commands are terms the outside can send. `exec` does not need these checks: it gives
every command a meaning. They say which terms stand for their row and no other. -/

namespace Sys2Proof

/-- A port message type byte of Table 11-9 that a transceiver sends, whole and of the right length:
TUNED, SENT, or RECEIVED. A message that is none of these and not empty is a FAULT report or malformed
(R117, R189). -/
def isQuietMessage : List Byte → Bool
  | [] => true
  | t :: rest =>
    if t = 0x81#8 ∨ t = 0x82#8 then rest.isEmpty
    else if t = 0x83#8 then
      match rest with
      | len :: _ :: burst => burst.length == len.toNat
      | _ => false
    else false

/-- The form that leaves the code to the Control Write Copy. -/
def CmdWrite.isHighByte : CmdWrite → Bool
  | .highByte _ => true
  | .word _ => false
  | .lowByte => false

/-- The well-formed commands: a write row's cycle strobes at least one byte (R4), an unknown command's
code is one Table 11-1 does not list (or the copy's), a FAULT row's message is a FAULT report or malformed,
and a RECEIVED burst fits its length byte. -/
def wellFormed : Instr → Bool
  | .captureWrite _ _ _ lanes => lanes.low || lanes.high
  | .permissionWord _ _ lanes => lanes.low || lanes.high
  | .attentionEnable _ _ lanes => lanes.low || lanes.high
  | .requestClear _ _ lanes => lanes.low || lanes.high
  | .faultClear _ _ lanes => lanes.low || lanes.high
  | .ringReadIndex _ _ lanes => lanes.low || lanes.high
  | .unknownCommand _ code w => w.isHighByte || (0x0F#8).ult code
  | .fault _ _ message => !isQuietMessage message
  | .received _ _ _ burst => decide (burst.length ≤ 255)
  | .startUp _ _ | .vrstAsserted _ | .vrstReleased _ | .processorWrite _ _ _ _ _ | .acceptance _ _
  | .syncErrorCountRead _ _ | .loadWindow _ _ | .clearWindow _ _ | .queryWindow _ _ | .loadCompare _ _
  | .clearCompare _ _ | .loadAlias _ _ | .clearAlias _ _ | .setRing _ _ | .setRingWaitEnd
  | .setTiming _ _ | .setMargin _ _ | .setLinkEnable _ _ | .forceCrossover _ _ | .snapshotNow _ _
  | .clearCounters _ _ | .restartLink _ _ | .jobStart | .maeWordCycleComplete | .primeRead | .frameStart
  | .slotStart _ | .keyAssertion | .keyGuardExpiry | .beaconWindowOpen | .beaconWindowClose
  | .closeWaitTimeout | .tuneExpiry _ | .scanExpiry _ | .watchWindowClose | .watchCloseWaitTimeout
  | .bstRise _ _ | .tuned _ _ | .sent _ _ | .powerOnReset | .processorRead _ _ _ _ => true

end Sys2Proof
end

