-- ==== Sys2Proof/Safety.lean ====
section
/-! DEFINITION. What a sound state of the part is, in the terms the statements use: the invariants the manual
states of its own state, each a proposition about one state, and the conditions under which a processor cycle
is performed. -/

namespace Sys2Proof.Machine

/-! ### Invariants -/

/-- The RAM list stands in its canonical form. -/
def MemoryOk (s : State) : Prop := Memory.wf s.ram

/-- The Control Page base is one CPSEL can give (R2). -/
def PageOk (s : State) : Prop := ∃ c, c ≤ 7 ∧ s.bpu.base = 0xF0000 + 0x2000 * c

/-- Every table has its places: sixteen windows, eight rules, six aliases, nineteen copied words
(R5, R16, R38, Table 8-1). -/
structure TablesOk (s : State) : Prop where
  windows : s.wt.length = 16
  rules : s.ftu.rules.length = 8
  groups : s.dlf.groups.length = 6
  copy : s.bpu.copy.length = 19

/-- Every list is within its limit (R30, R55, R101, R126, R146, R158, R160, R165). The Prime List names CAPTURE
windows, each once, and none while VRST is asserted, which bounds it. -/
structure ListsOk (s : State) : Prop where
  records : s.uq.records.length ≤ Config.recordsMax
  grants : s.ssu.grants.length ≤ Config.grantsMax
  contention : s.ssu.contention.length ≤ Config.contentionMax
  neighbours : s.xu.neighbours.length ≤ Config.neighboursMax
  recent : s.dlf.recent.length ≤ Config.recentMax
  stack : s.mae.stack.length ≤ Config.stackMax
  mirrorList : s.mae.mirrorList.length ≤ Config.mirrorListMax
  staging : s.mae.staging.length ≤ Config.stagingMax
  prime : s.mae.primeList.length ≤ 16
  primeOnce : s.mae.primeList.Nodup
  primeOfCapture : ∀ i ∈ s.mae.primeList, (captureAt s i).isSome = true
  primeInReset : s.vrst = true → s.mae.primeList = []

/-- The ranks of the running job and of the suspended ones below it rise strictly downward (R158). -/
def StackOk (s : State) : Prop :=
  ((s.mae.running.toList ++ s.mae.stack).map fun j => kindRank j.work.kind).Pairwise (· < ·)

/-- The credit Q lies from -4K to 8K (R114 to R116). -/
def CreditOk (s : State) : Prop :=
  -4 * (s.ab.allowance : Int) ≤ s.ab.credit ∧ s.ab.credit ≤ 8 * (s.ab.allowance : Int)

/-- R120: a link is OFF exactly when it is not enabled, not both are PRIMARY, and one is PRIMARY while one is
enabled. -/
structure RolesOk (s : State) : Prop where
  offA : s.xu.linkA.role = .off ↔ s.xu.linkA.enabled = false
  offB : s.xu.linkB.role = .off ↔ s.xu.linkB.enabled = false
  notBoth : ¬(s.xu.linkA.role = .primary ∧ s.xu.linkB.role = .primary)
  one : s.xu.linkA.enabled = true ∨ s.xu.linkB.enabled = true →
    s.xu.linkA.role = .primary ∨ s.xu.linkB.role = .primary

/-- A configured ring fits the address space and its indexes name its slots (R161 to R164). -/
def Ring.Ok (r : Ring) : Prop :=
  4 ≤ r.slots ∧ r.slots ≤ 64 ∧ r.base % 2 = 0 ∧ r.base + 64 * r.slots ≤ Config.ramBytes ∧
    r.w < r.slots ∧ r.rd < r.slots ∧ r.v < r.slots

def RingOk (s : State) : Prop := ∀ r, s.mae.ring = some r → r.Ok

/-- The state while PORN is low: the power-on values, but for the RAM, VRST's level, the model's record of PD
and the waiting commands (R13). -/
def downState (ram : Memory) (vrst : Bool) (pd : Word) (pending : List Instr) : State :=
  { State.reset with ram := ram, vrst := vrst, bpu := { BusPath.reset with pd := pd }, pending := pending }

/-- While PORN is low every block holds its power-on values (R13). -/
def PowerOk (s : State) : Prop :=
  s.porn = false → s = downState s.ram s.vrst s.bpu.pd s.pending

/-! ### When a processor cycle is performed -/

/-- No cycle is held and no MAE word is on the bus, and a ready word, if there is one, is one a processor cycle
goes ahead of (R10 to R12). -/
structure BusOpen (s : State) : Prop where
  hold : s.bpu.hold = none
  onBus : s.bpu.onBus = none
  passes : ∀ b, readyWord s = some b → b.kind ≠ .attention ∧ b.kind ≠ .stop ∧ s.bpu.passOver < 64

/-- The state in which a cycle is performed on an open bus: a ready word it goes ahead of has been passed over
once more (R12). -/
def passed (s : State) : State :=
  if (readyWord s).isSome then { s with bpu.passOver := s.bpu.passOver + 1 } else s

/-- Nothing of the engine is to do before the next tick: no SET RING's wait is over, there is no choice to make, and
no ready word finds the bus free (R10, R158, R161). -/
structure EngineQuiet (s : State) : Prop where
  settled : settle s = s
  bus : readyWord s = none ∨ s.bpu.onBus ≠ none ∨ s.bpu.hold ≠ none

/-- A row that comes `dt` ticks after `before` finds the bus open, and its cycle is performed in `v`. A word that is
ready as ticks pass has begun in them (R10), and the row's cycle is then held for it. -/
def Arrives (dt : Tick) (before v : State) : Prop :=
  BusOpen (elapse dt before) ∧ v = passed (elapse dt before)

/-- The cycle `c` performed in `v` gives `t`: by its row, which finds the bus open and performs it at once, and
equally where it was held and is let through in `v` (the statement `WordReleasesHeldCycle` says when). -/
def Performs (row : Tick → Instr) (c : Cycle) (v t : State) : Prop :=
  (∀ dt before, Arrives dt before v → exec (row dt) before = .next t) ∧ performCycle c v = t

/-- PORN high, VRST not asserted, and a Control Page and a Control Write Copy in their places (R2, R5, R13,
R14). -/
structure CycleReady (v : State) : Prop where
  porn : v.porn = true
  vrst : v.vrst = false
  page : PageOk v
  copy : v.bpu.copy.length = 19

/-- The Command Unit is IDLE in normal mode and will take the Command Word write `w` as the command `code`
(R183, R184). -/
structure CommandReady (code : Byte) (w : CmdWrite) (v : State) : Prop where
  cycle : CycleReady v
  normal : v.passOnly = false
  idle : v.cu.state = .idle
  form : w.isHighByte = true → loByte (copyAt v 0) = code

/-- The Command Word the write hands over (R5). -/
def mergedCommand (code : Byte) (w : CmdWrite) (v : State) : Word :=
  mergeLanes (copyAt v 0) (cmdWriteData code w).1 (cmdWriteData code w).2

/-- The cycle of a Command Word write (R183). -/
def commandCycle (code : Byte) (w : CmdWrite) (v : State) : Cycle :=
  writeCycle (pageBusAddr v 0) (cmdWriteData code w).1 (cmdWriteData code w).2

/-- The state in which a command is carried out: the write, performed in `v`, has reached RAM and the copy, and
the Command Unit is EXECUTING (R5, R183). -/
def takenState (code : Byte) (w : CmdWrite) (v : State) : State :=
  let m := mergedCommand code w v
  { v with
    ram := writeLanes v.ram (pageAddr v 0) (cmdWriteData code w).1 (cmdWriteData code w).2
    bpu.copy := v.bpu.copy.set 0 m
    cu.state := .executing code (commandTag m) }

/-- The rows of Table 11-1's commands, each with its code. -/
def commandRows : List (Byte × (Tick → CmdWrite → Instr)) :=
  [(codeLoadWindow, .loadWindow), (codeClearWindow, .clearWindow), (codeQueryWindow, .queryWindow),
   (codeLoadCompare, .loadCompare), (codeClearCompare, .clearCompare), (codeLoadAlias, .loadAlias),
   (codeClearAlias, .clearAlias), (codeSetRing, .setRing), (codeSetTiming, .setTiming),
   (codeSetMargin, .setMargin), (codeSetLinkEnable, .setLinkEnable),
   (codeForceCrossover, .forceCrossover), (codeSnapshotNow, .snapshotNow),
   (codeClearCounters, .clearCounters), (codeRestartLink, .restartLink)]

/-- A write that strobes at least one byte (R4). -/
def Strobed (lanes : Lanes) : Prop := (lanes.low || lanes.high) = true

/-- The engine is free to work: PORN high, VRST not asserted, nothing held and nothing on the bus. -/
structure EngineReady (s : State) : Prop where
  porn : s.porn = true
  vrst : s.vrst = false
  hold : s.bpu.hold = none
  onBus : s.bpu.onBus = none

/-- The port of link `l` takes and sends messages: PORN high, normal mode, and the link not OFF (R117). -/
structure PortReady (l : Link) (s : State) : Prop where
  porn : s.porn = true
  normal : s.passOnly = false
  role : (linkOf s l).role ≠ .off

/-! ### Records in flight -/

/-- The records would share their place on a return: WINDOW records of one window, or STOP_ACKs (R67). -/
abbrev Record.sharesPlace (r w : Record) : Prop :=
  (r.kind = .window ∧ w.kind = .window ∧ r.window = w.window) ∨ (r.kind = .stopAck ∧ w.kind = .stopAck)

/-- No two records in flight would share a place on their return (R60). -/
def Apart (rs : List Record) : Prop :=
  rs.Pairwise fun r w => r.inFlight = true → w.inFlight = true → ¬r.sharesPlace w

/-- A QUEUED record of the list holds the place `r` would return to (R67). -/
abbrev placeTaken (rs : List Record) (r : Record) : Prop := ∃ w ∈ rs, w.state = .queued ∧ r.sharesPlace w

/-- A record that is AWAIT_ACK. -/
def Record.awaits (r : Record) : Bool := r.inFlight && decide (r.state ≠ .onAir)

/-- The list after its AWAIT_ACK records have returned: each QUEUED in its place, unless a newer record waits there,
and then it is gone (R74). -/
def returned (rs : List Record) : List Record :=
  rs.filterMap fun r =>
    if r.awaits then
      if placeTaken rs r then none else some { r with state := .queued, ackedOnAir := false }
    else some r

/-- The list after the abandonment of the burst: a detached or acknowledged record is gone, any other record of the
burst returns as `returned` says (R67). -/
def abandoned (rs : List Record) : List Record :=
  rs.filterMap fun r =>
    if r.state = .onAir then
      if r.detached = true ∨ r.ackedOnAir = true ∨ placeTaken rs r then none
      else some { r with state := .queued, ackedOnAir := false }
    else some r

/-- An AWAIT_ACK record whose ack-due frame is reached at frame `n` (R69). -/
def Record.dueAt (n : BitVec 6) (r : Record) : Bool :=
  match r.state with
  | .queued => false
  | .onAir => false
  | .awaitAck due => decide ((n - due).toNat ≤ 31)

/-- The list after the timeouts of a close at frame `n`: a due record is gone where a newer one waits in its place or
where it has been selected four times, and is QUEUED again otherwise (R70). -/
def timedOut (n : BitVec 6) (rs : List Record) : List Record :=
  rs.filterMap fun r =>
    if r.dueAt n then
      if placeTaken rs r ∨ 4 ≤ r.attempts then none else some { r with state := .queued }
    else some r

/-! ### Evaluation passes and the end of priming -/

/-- The Condition Flags after a pass over the loaded rules that meet `p`, each giving its flag in ascending rule index
on its own word of the image of `c` (R42, R43). -/
def passFlags (p : Rule → Bool) (c : Capture) (s : State) : BitVec 8 :=
  ((s.ftu.rules.filterMap id).filter p).foldl
    (fun f r => setConditionFlag f r.target (evalRule r (imageWord c r.offset))) s.ftu.flags

/-- The RISE entries that the rises to `flags` fire, flags and windows ascending (R44, R49). -/
def risingEntries (flags : BitVec 8) (s : State) : List Nat :=
  (List.range 8).flatMap fun f =>
    if conditionFlag flags f && !conditionFlag s.ftu.flags f then
      (List.range 16).filter fun j => (captureAt s j).any fun y => decide (y.mode = .rise f)
    else []

/-- `t` is what the end of priming makes of `s`, whose entry `i` has every mark set (R33). The entry is ACTIVE and its
PRIME job ended wherever it was; every rule on the window gives its flag, and each rise fires the RISE entries on its
flag, entry `i` among them; last a trigger that was pending is cleared and fires with the flags as the pass left them.
What an ended job leaves of the model's notes of waiting jobs (log 38) is left open, and the Pass-Over Count stays
or becomes 0, the latter only where the job ran (R12, log 24). -/
def PrimedTo (i : Nat) (s t : State) : Prop :=
  ∃ (e : Entry) (c : Capture) (waits : List JobKind) (mirrorWaits passOver : Nat),
    entryAt s i = some e ∧ e.body = .capture c ∧
    let flags := passFlags (fun r => decide (r.window = i)) c s
    let others := fun (j : Job) => decide (j.work ≠ .prime i)
    let active : State := { s with
      wt := s.wt.set i (some { e with body := .capture { c with state := .active } })
      ftu.flags := flags
      bpu.passOver := passOver
      mae := { s.mae with
        running := s.mae.running.filter others
        stack := s.mae.stack.filter others
        primeList := s.mae.primeList.filter fun k => decide (k ≠ i)
        waits := waits
        mirrorWaits := mirrorWaits } }
    let fired := (risingEntries flags s).foldl (fun x j => fireTrigger j x) active
    (passOver = s.bpu.passOver ∨ (passOver = 0 ∧ s.mae.running.any (fun j => !others j) = true)) ∧
    t = if c.triggerPending then
        fireTrigger i (mapCapture i (fun d => { d with triggerPending := false }) fired)
      else fired

/-! ### The window after a seeding -/

/-- The window that a seeding at the tick `now` leaves where the next frame starts at `fn`: none is open (R90), but
for that of the coming frame where its opening, with compensation `comp` and half width `half`, is set to the present
tick or before, and so follows at once (R79, R83). -/
def openedAtOnce (now fn : Tick) (comp half : Nat) : Option BeaconWindow :=
  let e := fn + BitVec.ofNat 32 comp
  if 0 < tickDiff (e - BitVec.ofNat 32 half) now then none
  else some ⟨e, half, comp, false, 0, false, .notWaiting⟩

/-! ### Tuning and dwelling -/

/-- The link with a TUNE to `ch` sent at the tick `now` (R121). -/
def LinkState.sentTune (now : Tick) (ch : BitVec 4) (k : LinkState) : LinkState :=
  { k with
    condition := .tuning, channel := ch, held := none, nextChannel := none,
    tuneExpiry := some (now + 20000#32), txd := k.txd ++ [[0x01#8, ch.setWidth 8]] }

/-- The READY or TUNING link retuned to `ch`: the TUNE is held while one is outstanding or a burst is on the link, and
else sent (R121). -/
def LinkState.retuned (now : Tick) (ch : BitVec 4) (busy : Bool) (k : LinkState) : LinkState :=
  if k.condition = .tuning ∨ busy = true then { k with nextChannel := some ch } else k.sentTune now ch

/-- Links, dwell and table of `t` are those of `s` after the dwell start of the STANDBY link `l`, which was as `k`
says, on the entry `x` (R127). A watch close that waited has not occurred (log 51). -/
def DwellStarted (l : Link) (k : LinkState) (x : Neighbour) (s t : State) : Prop :=
  t.xu.dwell = some ⟨x.zone, 0, false⟩ ∧ t.xu.watch = none ∧ t.xu.dwellBeacon = none ∧
  t.xu.neighbours =
    (s.xu.neighbours.map fun y => if y.zone = x.zone then { y with good := 0, predicted := none } else y) ∧
  linkOf t (otherLink l) = linkOf s (otherLink l) ∧
  linkOf t l = if k.condition = .ready ∧ k.channel = x.channel then k
    else k.retuned s.ft.tick x.channel (burstOn s l)

/-- The dwell `d` of the STANDBY link `l` counts a frame start (R127): the count goes up; at 8 the next eligible entry
after the dwelt one in table order, wrapping to the first, gets a dwell start, and where there is no other the count
is 0 again. -/
def DwellCounted (l : Link) (d : Dwell) (s t : State) : Prop :=
  let settled := { s.xu with forcedCommand := false, forcedProvision := none }
  (d.frames + 1 < 8 → t.xu = { settled with dwell := some { d with frames := d.frames + 1 } }) ∧
  (∀ pre own post, 8 ≤ d.frames + 1 → s.xu.neighbours = pre ++ own :: post → own.zone = d.zone →
    (∀ y ∈ pre ++ post, y.zone ≠ d.zone) →
    let next := (post ++ pre).find? fun y => decide (y.zone ≠ s.ft.zone)
    (next = none → own.zone ≠ s.ft.zone → t.xu = { settled with dwell := some { d with frames := 0 } }) ∧
    (∀ x, next = some x → DwellStarted l (linkOf s l) x s t))

/-! ### Fault causes -/

/-- The Fault Causes with `c` added, the FAULT request and its ATTENTION job (R176). -/
def withCause (c : FaultCause) (s : State) : State :=
  { s with
    au.causes := s.au.causes ||| causeBit c
    au.requests := s.au.requests ||| requestBit .fault
    mae.attention := s.mae.attention || decide (s.au.requests ||| requestBit .fault ≠ s.au.requests) }

/-! ### The Staging Queue before a full ring -/

/-- R160's test with the ring `r`: while it has no free slot (R162), the INFO messages at the head of the Staging
Queue are dropped, each counted in Ring Overflows, and RING_OVERFLOW is raised. -/
def staleDropped (r : Ring) (s : State) : State :=
  let n := (s.mae.staging.takeWhile fun m => decide (m.cls = .info)).length
  if (r.v + 1) % r.slots ≠ r.rd ∨ n = 0 then s
  else withCause .ringOverflow { s with
    mae.staging := s.mae.staging.drop n
    mae.ringOverflows := min (s.mae.ringOverflows + n) 65535 }

end Sys2Proof.Machine
end

