-- ==== Sys2Proof/Certificates/Slice0/Obligations.lean ====
section
/-! DEFINITION. The statements about the model: invariants every step keeps, and for every command of the table where
it completes and with what effect.

A command finds the state in which the time before it has passed: `elapse dt before` for a command that comes from
outside, `elapse 0#32 before` for a row of the engine, `reachEvent e before` for an event of the clock. The statements
are about that state `s`; where a processor cycle is performed they are about the state `v` it is performed in
(`Arrives`, `Performs`). -/

open Sys2Proof Sys2Proof.Machine

/-! ### The step and the queue -/

/-- A step runs the command at the front of the queue on the rest, and with no command waiting it is one idle
tick (the model's choice, log 2). -/
def Obligations.StepRunsFrontCommand : Prop :=
  ∀ s : State,
    (∀ c rest, s.pending = c :: rest → step s = exec c { s with pending := rest }) ∧
    (s.pending = [] → step s = .next (idleTick s))

/-- No command is refused and none faults: in every state `exec` answers a next state, with the queue of waiting
commands as it was. It does not say what the command did: a row whose event cannot fall only lets time pass (the
model's choice, log 8), and a command the Command Unit cannot take is counted as an overrun (R183). -/
def Obligations.EveryCommandCompletes : Prop :=
  ∀ (c : Instr) (s : State), ∃ t, exec c s = .next t ∧ t.pending = s.pending

/-! ### Invariants -/

/-- The power-on state meets every invariant stated below. -/
def Obligations.ResetMeetsInvariants : Prop :=
  MemoryOk State.reset ∧ PageOk State.reset ∧ PowerOk State.reset ∧ TablesOk State.reset ∧
    ListsOk State.reset ∧ StackOk State.reset ∧ CreditOk State.reset ∧ RolesOk State.reset ∧
    RingOk State.reset

/-- Every step keeps the RAM list in its canonical form. -/
def Obligations.StepKeepsMemory : Prop :=
  ∀ s t : State, MemoryOk s → step s = .next t → MemoryOk t

/-- Every step keeps the Control Page at a base CPSEL can give, and every table at its number of places
(R2, R5, R16, R38). -/
def Obligations.StepKeepsTables : Prop :=
  ∀ s t : State, PageOk s → TablesOk s → step s = .next t → PageOk t ∧ TablesOk t

/-- While PORN is low every block holds its power-on values, whatever commands arrive (R13). The model's own part of
it: the base stays 0xF0000, the identity 0 and the mode normal until start-up (log 3), and a VRST edge changes the
level alone (log 22). -/
def Obligations.StepKeepsPowerDown : Prop :=
  ∀ s t : State, PowerOk s → step s = .next t → PowerOk t

/-- Every step keeps every list within its limit: the uplink records, the grants and contention grants, the
neighbours, the Recent Message List, the Suspension Stack, the MIRROR list, the Staging Queue and the Prime List,
which names each loading CAPTURE window once (R30, R55, R101, R126, R146, R158, R160, R165). That a grant of slot
count 0 takes no place is the model's choice (log 35). -/
def Obligations.StepKeepsLists : Prop :=
  ∀ s t : State, TablesOk s → PowerOk s → ListsOk s → step s = .next t → ListsOk t

/-- Every step keeps each suspended job of lower rank than every job above it and than the running job
(R158). -/
def Obligations.StepKeepsStackOrder : Prop :=
  ∀ s t : State, StackOk s → step s = .next t → StackOk t

/-- Every step keeps the credit Q within -4K and 8K (R114 to R116). -/
def Obligations.StepKeepsCredit : Prop :=
  ∀ s t : State, CreditOk s → step s = .next t → CreditOk t

/-- Every step keeps the link roles as R120 says: at most one PRIMARY, one while a link is enabled, and OFF
exactly where a link is not enabled. -/
def Obligations.StepKeepsRoles : Prop :=
  ∀ s t : State, RolesOk s → step s = .next t → RolesOk t

/-- Every step keeps a configured ring inside the address space with its indexes below N (R161 to R164). -/
def Obligations.StepKeepsRing : Prop :=
  ∀ s t : State, RingOk s → step s = .next t → RingOk t

/-- The mode, the car identity and the base hold from start-up until PORN falls (R180). -/
def Obligations.StrapsHold : Prop :=
  ∀ s t : State, s.porn = true → step s = .next t → t.porn = true →
    t.carid = s.carid ∧ t.passOnly = s.passOnly ∧ t.bpu.base = s.bpu.base

/-! ### Start-up and the resets -/

/-- START_UP from any power-down state. In normal mode the straps are taken, links A and B tune to channels 0
and 8, a JOIN of sequence 1 stands in the queue, and ATTENTION and STATUS are pending; with the straps 0 or 1023
the mode is PASS-ONLY and only the two jobs are pending. Nothing else changes (R180 to R182). The model's own part of
it: the JOIN waits with an empty payload (log 30). -/
def Obligations.StartUp : Prop :=
  ∀ (ram : Memory) (vrst : Bool) (pd : Word) (q : List Instr) (carid : BitVec 10) (cpsel : BitVec 3),
    let s := downState ram vrst pd q
    let tuned := fun (k : LinkState) (ch : BitVec 4) =>
      { k with condition := .tuning, channel := ch, tuneExpiry := some 20000#32, txd := [tuneMessage ch] }
    let up : State := { s with
      porn := true
      carid := carid
      passOnly := decide (carid = 0#10 ∨ carid = 1023#10)
      bpu.base := 0xF0000 + 0x2000 * cpsel.toNat
      mae.attention := true
      mae.status := true }
    (carid ≠ 0#10 → carid ≠ 1023#10 → exec (.startUp carid cpsel) s = .next { up with
      uq.joinSeq := 1#8
      uq.records := [internalRecord .join tagJoin 1#8 .urgent 0#6 []]
      xu.linkA := tuned s.xu.linkA 0#4
      xu.linkB := tuned s.xu.linkB 8#4 }) ∧
    (carid = 0#10 ∨ carid = 1023#10 → exec (.startUp carid cpsel) s = .next up)

/-- POWER_ON_RESET: every block takes its power-on values; RAM keeps its contents, but for the strobed bytes of
a write still held, which is forwarded (R13). -/
def Obligations.PowerOnReset : Prop :=
  ∀ s : State, s.porn = true →
    (s.bpu.hold = none →
      exec .powerOnReset s = .next (downState s.ram s.vrst s.bpu.pd s.pending)) ∧
    (∀ (addr : Addr) (data : Word) (lanes : Lanes), s.bpu.hold = some (writeCycle addr data lanes) →
      exec .powerOnReset s =
        .next (downState (writeLanes s.ram (wordAddr addr) data lanes) s.vrst s.bpu.pd s.pending)) ∧
    (∀ (addr : Addr) (lanes : Lanes), s.bpu.hold = some (readCycle addr lanes) →
      exec .powerOnReset s =
        .next (downState s.ram s.vrst (readWord s.ram (wordAddr addr)) s.pending))

/-- VRST_ASSERTED clears the engine, the copy, the requests, permissions and Enable, the Command Unit and every LOCAL
window, rule and alias, with the rules, flags and records of the LOCAL CAPTURE windows; RADIO windows stay, disarmed,
with their rules and records, and the timing, the links, the credit, the grants, the Stop State, the Fault Causes and
RAM are kept (R14, R35, R54, R145, R168, R179, R186). The model's own part of it: the running job is gone at once,
also with a word of it on the bus (log 5). -/
def Obligations.VehicleResetAsserted : Prop :=
  ∀ (dt : Tick) (before : State),
    let s := elapse dt before
    let lost := fun (i : Nat) => decide (originAt s i = some .localLoad) && (captureAt s i).isSome
    let rulesLost := fun (r : Rule) => decide (r.origin = .localLoad) || lost r.window
    s.porn = true → s.vrst = false → TablesOk s →
    ∃ t, exec (.vrstAsserted dt) before = .next t ∧ t.vrst = true ∧
      t.ram = s.ram ∧ t.ft = s.ft ∧ t.ssu = s.ssu ∧ t.ab = s.ab ∧
      t.xu = { s.xu with forcedCommand := false } ∧
      t.cu = { s.cu with state := .idle } ∧
      t.bpu = { s.bpu with copy := List.replicate 19 0#16, passOver := 0 } ∧
      t.mae = { s.mae with
        running := none, stack := [], waits := [], mirrorWaits := 0, stop := false, result := none,
        status := false, mirrorList := [], primeList := [], staging := [], ring := none, unpublished := none,
        publication := false,
        attention := decide (s.au.requests ≠ 0#6 ∨ s.au.permissions ≠ 0#6 ∨ s.au.enable = true) } ∧
      t.au = { s.au with requests := 0#6, permissions := 0#6, enable := false } ∧
      (∀ i < 16, entryAt s i = none → entryAt t i = none) ∧
      (∀ i < 16, ∀ e, entryAt s i = some e →
        entryAt t i = match e.origin, e.body with
          | .localLoad, _ => none
          | .radioLoad, .capture c => some { e with body := .capture { c with armed := false } }
          | .radioLoad, .mirror _ => some e) ∧
      t.uq = { s.uq with
        records := s.uq.records.filterMap fun r =>
          if (List.range 16).any (fun i => decide (r.window = some i) && lost i) then
            (if r.state = .onAir then some { r with detached := true, window := none } else none)
          else some r } ∧
      (∀ k < 8, ruleAt t k = (ruleAt s k).filter fun r => !rulesLost r) ∧
      (∀ f < 8, conditionFlag t.ftu.flags f =
        (conditionFlag s.ftu.flags f &&
          !(s.ftu.rules.any fun r => r.any fun x => rulesLost x && decide (x.target = f)))) ∧
      t.ftu.gatedTriggers = s.ftu.gatedTriggers ∧
      t.dlf = { s.dlf with groups := s.dlf.groups.map fun g => g.filter fun x => decide (x.origin = .radioLoad) }

/-- VRST_RELEASED places every CAPTURE window in LOADING with its marks clear and appends its PRIME job, requests
STATUS, which a suspended STATUS job takes as its restart, announces a HELD or untaken stop again, and raises FAULT
while a cause remains; all else is kept, and then the engine makes its choice (R36, R156, R158, R167, R169, R179). -/
def Obligations.VehicleResetReleased : Prop :=
  ∀ (dt : Tick) (before : State),
    let s := elapse dt before
    s.porn = true → s.vrst = true → TablesOk s →
    ∃ t, exec (.vrstReleased dt) before = .next (settleEngine t) ∧ t.vrst = false ∧
      (∀ i < 16, ∀ c, captureAt s i = some c →
        captureAt t i = some { c with
          state := .loading, dirty := true, image := c.image.map fun _ => none }) ∧
      (∀ i < 16, captureAt s i = none → entryAt t i = entryAt s i) ∧
      t.mae = { s.mae with
        primeList := s.mae.primeList ++ (List.range 16).filter (fun i => (captureAt s i).isSome)
        status := s.mae.status || !s.mae.stack.any (fun j => j.work.isStatus)
        stack := s.mae.stack.map fun j => if j.work.isStatus then { j with work := .status true } else j
        stop := s.mae.stop || s.au.stop.held || (s.au.stop.recorded && !s.au.accepted)
        attention := s.mae.attention || decide (t.au.requests ≠ s.au.requests) } ∧
      t.au = { s.au with
        accepted := s.au.accepted && !s.au.stop.held
        requests := if s.au.causes = 0#8 then s.au.requests else s.au.requests ||| requestBit .fault } ∧
      t.ram = s.ram ∧ t.ft = s.ft ∧ t.uq = s.uq ∧ t.xu = s.xu ∧ t.ftu = s.ftu ∧ t.ssu = s.ssu ∧ t.ab = s.ab ∧
      t.dlf = s.dlf ∧ t.cu = s.cu ∧ t.bpu = s.bpu ∧ t.porn = s.porn ∧ t.carid = s.carid ∧
      t.passOnly = s.passOnly ∧ t.pending = s.pending

/-! ### The bus path -/

/-- The arbiter: each row of the processor bus sends its cycle; a cycle is held for the word on the bus, for a ready
ATTENTION or STOP word, and for any other ready word once it has been passed over 64 times; otherwise it is performed
at once. In a gap of ticks before the row a ready word of the settled engine begins on the free bus, and where nothing
falls due nothing else happens but the count of the ticks (R10 to R12, R78). That such a word stays on the bus until
its own row, or an idle step, is the model's choice (log 48). -/
def Obligations.ArbiterDecides : Prop :=
  (∀ (c : Cycle) (s : State), s.bpu.hold = none → s.porn = true →
    (∀ b, s.bpu.onBus = some b → processorCycle c s = { s with bpu.hold := some c }) ∧
    (s.bpu.onBus = none →
      (readyWord s = none → processorCycle c s = performCycle c s) ∧
      (∀ b, readyWord s = some b →
        (b.kind = .attention ∨ b.kind = .stop ∨ 64 ≤ s.bpu.passOver →
          processorCycle c s = { s with bpu.onBus := some b, bpu.hold := some c }) ∧
        (b.kind ≠ .attention → b.kind ≠ .stop → s.bpu.passOver < 64 →
          processorCycle c s = performCycle c { s with bpu.passOver := s.bpu.passOver + 1 })))) ∧
  (∀ (dt : Tick) (s : State) (b : BusWord), 0 < dt.toNat → s.porn = true → settle s = s → s.bpu.onBus = none →
    s.bpu.hold = none → readyWord s = some b →
    elapse dt s = elapse dt { s with bpu.onBus := some b } ∧
    ((∀ e ∈ events s, ∀ at_, dueTick s e = some at_ → (dt.toNat : Int) ≤ tickDiff at_ s.ft.tick) →
      elapse dt s = { s with bpu.onBus := some b, ft.tick := s.ft.tick + dt })) ∧
  (∀ (dt : Tick) (before : State),
    let s := elapse dt before
    let page := fun (k : Nat) (data : Word) (lanes : Lanes) =>
      (.next (processorCycle (writeCycle (pageBusAddr s k) data lanes) s) : Host.Outcome State Fault Refusal)
    (∀ addr data lanes both,
      exec (.processorWrite dt addr data lanes both) before =
        .next (processorCycle ⟨both, true, addr, data, lanes⟩ s) ∧
      exec (.captureWrite dt addr data lanes) before =
        .next (processorCycle ⟨false, true, addr, data, lanes⟩ s) ∧
      exec (.processorRead dt addr lanes both) before =
        .next (processorCycle ⟨true, both, addr, 0#16, lanes⟩ s)) ∧
    (∀ lanes,
      exec (.acceptance dt lanes) before = .next (processorCycle (readCycle (pageBusAddr s 32) lanes) s) ∧
      exec (.syncErrorCountRead dt lanes) before =
        .next (processorCycle (readCycle (pageBusAddr s 110) lanes) s)) ∧
    (∀ data lanes,
      exec (.permissionWord dt data lanes) before = page 24 data lanes ∧
      exec (.attentionEnable dt data lanes) before = page 25 data lanes ∧
      exec (.requestClear dt data lanes) before = page 26 data lanes ∧
      exec (.faultClear dt data lanes) before = page 27 data lanes ∧
      exec (.ringReadIndex dt data lanes) before = page 28 data lanes) ∧
    (∀ p ∈ commandRows, ∀ w, exec (p.2 dt w) before = .next (processorCycle (commandCycle p.1 w s) s)) ∧
    (∀ code w, exec (.unknownCommand dt code w) before = .next (processorCycle (commandCycle code w s) s)))

/-- The completion of the MAE word on the bus: the word's own effect, the check of a SET RING that waited for the
word's job, the engine's choice at that word boundary, and then the one held cycle, performed in the state they leave
(R10 to R12, R157, R158, R161). That the check and the choice come before the held cycle is the model's reading (logs
29 and 39). -/
def Obligations.WordReleasesHeldCycle : Prop :=
  ∀ (b : BusWord) (c : Cycle) (before : State),
    let s := elapse 0#32 before
    s.bpu.onBus = some b → s.bpu.hold = some c →
    let v : State := { settle (completeWord b s) with bpu.hold := none }
    v.bpu.onBus = none ∧
    (b.value.isSome = true → exec .maeWordCycleComplete before = .next (performCycle c v)) ∧
    (b.value = none → exec .primeRead before = .next (performCycle c v))

/-- Tables 1-2 and 1-3: the class of a write to each of the 256 Control Page words, and outside the page, in this
order, to a ring slot, a guarded and an open MIRROR window, a CAPTURE window, and any other word. -/
def Obligations.PageWordClasses : Prop :=
  ∀ s : State,
    (∀ k < 256, classify s (pageAddr s k) =
      if (16 ≤ k ∧ k ≤ 23) ∨ (32 ≤ k ∧ k ≤ 34) ∨ (64 ≤ k ∧ k ≤ 159) then .owned
      else if k ≤ 15 ∨ (24 ≤ k ∧ k ≤ 28) then .control k
      else .plain) ∧
    (∀ a, a < s.bpu.base ∨ s.bpu.base + 512 ≤ a →
      let ring := ∃ r, s.mae.ring = some r ∧ r.base ≤ a ∧ a < r.base + 64 * r.slots
      let holds := fun (e : Entry) => e.base ≤ a ∧ a < e.base + 2 * e.length
      let mirror := fun (guarded : Bool) => ∃ i < 16, ∃ e m, entryAt s i = some e ∧ e.body = .mirror m ∧
        m.guarded = guarded ∧ holds e
      let capture := fun (i : Nat) => ∃ e c, entryAt s i = some e ∧ e.body = .capture c ∧ holds e
      (ring → classify s a = .owned) ∧
      (¬ring → mirror true → classify s a = .guarded) ∧
      (¬ring → ¬mirror true → mirror false → classify s a = .mirrorOpen) ∧
      (¬ring → ¬mirror true → ¬mirror false →
        (∀ i < 16, ∀ e, entryAt s i = some e → capture i → (∀ j < i, ¬capture j) →
          classify s a = .capture i ((a - e.base) / 2)) ∧
        ((∀ i < 16, ¬capture i) → classify s a = .plain)))

/-- PROCESSOR_WRITE and CAPTURE_WRITE performed at once or let through: a PLAIN or MIRROR-OPEN write, any write while
PORN is low, and any forwarded write while VRST is asserted change the strobed bytes of RAM and nothing else
(R4, R6, R13, R14). -/
def Obligations.ForwardedWrite : Prop :=
  ∀ (addr : Addr) (data : Word) (lanes : Lanes) (v : State),
    (v.porn = false ∨ classify v (wordAddr addr) = .plain ∨ classify v (wordAddr addr) = .mirrorOpen ∨
      (v.vrst = true ∧ classify v (wordAddr addr) ≠ .owned ∧ classify v (wordAddr addr) ≠ .guarded)) →
    let t : State := { v with ram := writeLanes v.ram (wordAddr addr) data lanes }
    Performs (fun dt => .processorWrite dt addr data lanes false) (writeCycle addr data lanes) v t ∧
      Performs (fun dt => .captureWrite dt addr data lanes) (writeCycle addr data lanes) v t

/-- PROCESSOR_WRITE to an OWNED or MIRROR-GUARDED word: RAM keeps its contents, Guard Violations counts and
GUARD_WRITE is raised, with VRST asserted or not; nothing else changes (R7, R14). -/
def Obligations.SuppressedWrite : Prop :=
  ∀ (addr : Addr) (data : Word) (lanes : Lanes) (v : State), v.porn = true → Strobed lanes →
    classify v (wordAddr addr) = .owned ∨ classify v (wordAddr addr) = .guarded →
    Performs (fun dt => .processorWrite dt addr data lanes false) (writeCycle addr data lanes) v
      (withCause .guardWrite { v with bpu.guardViolations := min (v.bpu.guardViolations + 1) 65535 })

/-- PROCESSOR_WRITE to an argument word, 1 to 15: the strobed bytes reach RAM and are merged into the Control
Write Copy, and nothing else changes (R5). -/
def Obligations.ArgumentWrite : Prop :=
  ∀ (addr : Addr) (data : Word) (lanes : Lanes) (k : Nat) (v : State), CycleReady v → Strobed lanes →
    classify v (wordAddr addr) = .control k → 1 ≤ k → k ≤ 15 →
    Performs (fun dt => .processorWrite dt addr data lanes false) (writeCycle addr data lanes) v { v with
      ram := writeLanes v.ram (wordAddr addr) data lanes
      bpu.copy := v.bpu.copy.set k (mergeLanes (copyAt v k) data lanes) }

/-- PROCESSOR_READ away from the two watched words, and any read while VRST is asserted or PORN is low: the
whole RAM word is returned and nothing else changes. A malformed cycle, with both strobes, and a write cycle that
strobes no byte have no effect when they are performed (R1, R4, R13, R14). -/
def Obligations.PlainReadAndEmptyCycles : Prop :=
  ∀ (addr : Addr) (data : Word) (lanes : Lanes) (v : State),
    ((wordAddr addr ≠ pageAddr v 32 ∧ wordAddr addr ≠ pageAddr v 110) ∨ v.vrst = true ∨ v.porn = false →
      Performs (fun dt => .processorRead dt addr lanes false) (readCycle addr lanes) v
        { v with bpu.pd := readWord v.ram (wordAddr addr) }) ∧
    Performs (fun dt => .processorWrite dt addr data lanes true) ⟨true, true, addr, data, lanes⟩ v v ∧
    Performs (fun dt => .processorRead dt addr lanes true) ⟨true, true, addr, 0#16, lanes⟩ v v ∧
    Performs (fun dt => .processorWrite dt addr data ⟨false, false⟩ false)
      (writeCycle addr data ⟨false, false⟩) v v

/-- CAPTURE_WRITE to word `k` of window `i`. The strobed bytes reach RAM and the image, and the dirty bit is set. In
an ACTIVE entry the rules on the word give their flags in ascending index, each rise then fires the RISE entries on
its flag, flags and windows ascending, and last the entry's own trigger is tested: LAST, WORD, AFTER. In a LOADING
entry only the trigger is tested, and if the write sets the last primed mark priming completes: the entry is ACTIVE
without a PRIME job, every rule on it is evaluated, each rise fires the RISE entries on its flag, this entry among
them, and last a pending trigger is cleared and fires with the flags so left. A trigger that fires is pending in a
LOADING entry or while VRST is asserted; else, at the end of priming as at a write, a closed gate only counts, and an
open one gives a snapshot in the entry's class, or URGENT while its escalate flag is true (R6, R29, R32, R33,
R43 to R47, R49 to R52). At an end of priming the Pass-Over Count follows log 24 and the notes of waiting jobs are
the model's own (log 38). -/
def Obligations.CaptureWriteReachesImage : Prop :=
  (∀ (addr : Addr) (data : Word) (lanes : Lanes) (i k : Nat) (e : Entry) (c : Capture) (v : State),
    CycleReady v → TablesOk v → Strobed lanes → classify v (wordAddr addr) = .capture i k →
    entryAt v i = some e → e.body = .capture c →
    let row := fun (dt : Tick) => Instr.captureWrite dt addr data lanes
    let cycle := writeCycle addr data lanes
    let image := writeImage k data lanes c.image
    let copied : State := { v with
      ram := writeLanes v.ram (wordAddr addr) data lanes
      wt := v.wt.set i (some { e with body := .capture { c with image := image, dirty := true } }) }
    let tested := fun (x : State) =>
      match c.mode with
      | .last => if k = e.length - 1 then fireTrigger i x else x
      | .word j => if k = j then fireTrigger i x else x
      | .after j =>
        if c.armed then fireTrigger i (mapCapture i (fun y => { y with armed := false }) x)
        else if k = j then mapCapture i (fun y => { y with armed := true }) x
        else x
      | .period _ => x
      | .rise _ => x
    (c.state = .active →
      let flags := passFlags (fun r => decide (r.window = i ∧ r.offset = k)) { c with image := image } v
      Performs row cycle v
        (tested ((risingEntries flags v).foldl (fun x j => fireTrigger j x) { copied with ftu.flags := flags }))) ∧
    (c.state = .loading → image.any Option.isNone = true → Performs row cycle v (tested copied)) ∧
    (c.state = .loading → image.all Option.isSome = true →
      ∃ t, Performs row cycle v t ∧ PrimedTo i (tested copied) t)) ∧
  (∀ (j : Nat) (e : Entry) (c : Capture) (x : State), entryAt x j = some e → e.body = .capture c →
    let opened := ∀ g, c.gate = some g → conditionFlag x.ftu.flags g.flag = g.sense
    (c.state = .loading ∨ x.vrst = true → fireTrigger j x =
      { x with wt := x.wt.set j (some { e with body := .capture { c with triggerPending := true } }) }) ∧
    (c.state = .active → x.vrst = false →
      (¬opened → fireTrigger j x =
        { x with ftu.gatedTriggers := min (x.ftu.gatedTriggers + 1) 65535 }) ∧
      (opened → fireTrigger j x = offer
        { kind := .window, window := some j, tag := e.tag, seq := c.seq + 1#8,
          cls := if c.escalate.any (conditionFlag x.ftu.flags) then .urgent else c.cls
          flags := x.ftu.flags, created := x.ft.frame, attempts := 0, ackedOnAir := false, detached := false,
          state := .queued, payload := c.image.map fun b => b.getD 0#8, oversize := false }
        { x with
          wt := x.wt.set j (some { e with body := .capture { c with seq := c.seq + 1#8, dirty := false } }) })))

/-- PERMISSION_WORD and ATTENTION_ENABLE: the merged word sets the six permission flags, or Enable from its
lowest bit. REQUEST_CLEAR clears the named request flags and no other, without an acceptance; FAULT_CLEAR removes
the named causes and no other; bytes not strobed name nothing. A changed flag requests an ATTENTION job, and
nothing else changes. ATTN is asserted exactly while Enable is set and some class has both its flags
(R5, R171, R172, R175, R176). -/
def Obligations.AttentionWords : Prop :=
  (∀ (data : Word) (lanes : Lanes) (v : State), CycleReady v → Strobed lanes →
    let p := mergeLanes (copyAt v 16) data lanes
    let e := mergeLanes (copyAt v 17) data lanes
    let n := mergeLanes 0#16 data lanes
    let requests := v.au.requests &&& ~~~(n.setWidth 6)
    let cycle := fun (k : Nat) => writeCycle (pageBusAddr v k) data lanes
    Performs (fun dt => .permissionWord dt data lanes) (cycle 24) v { v with
        ram := writeLanes v.ram (pageAddr v 24) data lanes
        bpu.copy := v.bpu.copy.set 16 p
        au.permissions := p.setWidth 6
        mae.attention := v.mae.attention || decide (v.au.permissions ≠ p.setWidth 6) } ∧
    Performs (fun dt => .attentionEnable dt data lanes) (cycle 25) v { v with
        ram := writeLanes v.ram (pageAddr v 25) data lanes
        bpu.copy := v.bpu.copy.set 17 e
        au.enable := e.getLsbD 0
        mae.attention := v.mae.attention || decide (v.au.enable ≠ e.getLsbD 0) } ∧
    Performs (fun dt => .requestClear dt data lanes) (cycle 26) v { v with
        ram := writeLanes v.ram (pageAddr v 26) data lanes
        au.requests := requests
        mae.attention := v.mae.attention || decide (v.au.requests ≠ requests) } ∧
    Performs (fun dt => .faultClear dt data lanes) (cycle 27) v { v with
        ram := writeLanes v.ram (pageAddr v 27) data lanes
        au.causes := v.au.causes &&& ~~~(n.setWidth 8) }) ∧
  (∀ v : State, v.attn = true ↔ v.au.enable = true ∧ ∃ c : RequestClass,
    v.au.requests &&& requestBit c ≠ 0#6 ∧ v.au.permissions &&& requestBit c ≠ 0#6)

/-- RING_READ_INDEX: without a ring the value is disregarded; with one, a value of N or above is clamped to
N - 1 and counted, and the value becomes Rd if it lies on the way from Rd to W, else it is refused and counted
once. Where the ring has no free slot still, the INFO messages at the head of the Staging Queue are dropped, Ring
Overflows counts each, and RING_OVERFLOW is raised. Nothing else changes (R5, R160, R162, R164). -/
def Obligations.RingReadIndex : Prop :=
  ∀ (data : Word) (lanes : Lanes) (v : State), CycleReady v → Strobed lanes →
    let n := mergeLanes (copyAt v 18) data lanes
    let row := fun (dt : Tick) => Instr.ringReadIndex dt data lanes
    let cycle := writeCycle (pageBusAddr v 28) data lanes
    let w : State := { v with
      ram := writeLanes v.ram (pageAddr v 28) data lanes, bpu.copy := v.bpu.copy.set 18 n }
    (v.mae.ring = none → Performs row cycle v w) ∧
    (∀ r, v.mae.ring = some r →
      let x := min n.toNat (r.slots - 1)
      let onWay := (x + r.slots - r.rd) % r.slots ≤ (r.w + r.slots - r.rd) % r.slots
      let faults := if r.slots ≤ n.toNat ∨ ¬onWay then min (v.mae.indexFaults + 1) 65535 else v.mae.indexFaults
      0 < r.slots →
      (onWay → Performs row cycle v
        (staleDropped { r with rd := x } { w with mae.ring := some { r with rd := x }, mae.indexFaults := faults })) ∧
      (¬onWay → Performs row cycle v { w with mae.indexFaults := faults }))

/-- While VRST is asserted the writes of the processor-written words reach RAM and are handed to no block: the
five words 24 to 28 and every Command Word row (R14). -/
def Obligations.ControlWritesInVehicleReset : Prop :=
  ∀ (data : Word) (lanes : Lanes) (v : State), v.porn = true → v.vrst = true → PageOk v →
    let put := fun (k : Nat) (w : Word) (l : Lanes) => { v with ram := writeLanes v.ram (pageAddr v k) w l }
    let cycle := fun (k : Nat) => writeCycle (pageBusAddr v k) data lanes
    Performs (fun dt => .permissionWord dt data lanes) (cycle 24) v (put 24 data lanes) ∧
    Performs (fun dt => .attentionEnable dt data lanes) (cycle 25) v (put 25 data lanes) ∧
    Performs (fun dt => .requestClear dt data lanes) (cycle 26) v (put 26 data lanes) ∧
    Performs (fun dt => .faultClear dt data lanes) (cycle 27) v (put 27 data lanes) ∧
    Performs (fun dt => .ringReadIndex dt data lanes) (cycle 28) v (put 28 data lanes) ∧
    (∀ p ∈ commandRows, ∀ w, Performs (fun dt => p.2 dt w) (commandCycle p.1 w v) v
      (put 0 (cmdWriteData p.1 w).1 (cmdWriteData p.1 w).2)) ∧
    (∀ code w, Performs (fun dt => .unknownCommand dt code w) (commandCycle code w v) v
      (put 0 (cmdWriteData code w).1 (cmdWriteData code w).2))

/-- ACCEPTANCE: the read returns the RAM word; where it names a class whose request flag is set, that flag and
Enable are cleared and an ATTENTION job is requested, and for STOP the Stop-accepted bit is set and a STOP_ACK
offered; otherwise nothing but PD changes (R8, R174). -/
def Obligations.Acceptance : Prop :=
  ∀ (lanes : Lanes) (s : State), CycleReady s →
    let row := fun (dt : Tick) => Instr.acceptance dt lanes
    let cycle := readCycle (pageBusAddr s 32) lanes
    let v := readWord s.ram (pageAddr s 32)
    let read : State := { s with bpu.pd := v }
    let accept := fun (c : RequestClass) =>
      { read with
        au.requests := s.au.requests &&& ~~~(requestBit c)
        au.enable := false
        mae.attention := true }
    (∀ c, classOfValue v = some c → s.au.requests &&& requestBit c ≠ 0#6 →
      (c ≠ .stop → Performs row cycle s (accept c)) ∧
      (c = .stop → Performs row cycle s
        (offer (stopAckRecord s.au.stop.seq s.au.stop.source s.au.stop.kind s.ft.frame)
          { accept .stop with au.accepted := true }))) ∧
    ((∀ c, classOfValue v = some c → s.au.requests &&& requestBit c = 0#6) →
      Performs row cycle s read)

/-- SYNC_ERROR_COUNT_READ: the read returns the RAM word and sets the Sync Error Count to 0 (R9). -/
def Obligations.SyncErrorCountRead : Prop :=
  ∀ (lanes : Lanes) (v : State), CycleReady v →
    Performs (fun dt => .syncErrorCountRead dt lanes) (readCycle (pageBusAddr v 110) lanes) v { v with
      bpu.pd := readWord v.ram (pageAddr v 110)
      ft.syncErrors := 0 }

/-! ### The Command Unit -/

/-- Each of the fifteen command rows, with the Command Unit IDLE in normal mode, performed at once or let through: the
write reaches RAM and the copy, and the command of its code is carried out in that state on the argument words 1 to
15 (R5, R183, R184). -/
def Obligations.CommandsRunWhenIdle : Prop :=
  ∀ (w : CmdWrite) (v : State), ∀ p ∈ commandRows, CommandReady p.1 w v →
    Performs (fun dt => p.2 dt w) (commandCycle p.1 w v) v
      (runCommand p.1 ((v.bpu.copy.drop 1).take 15) (takenState p.1 w v))

/-- The replies without an effect: a code Table 11-1 does not list gives BAD_CODE, every command in PASS-ONLY
mode gives PASS_ONLY, and a command while the Command Unit is not IDLE is counted and raises CMD_OVERRUN. The
RESULT job's words are words 17 to 23 and then word 16. A Command Word of code 0 is no command: its write reaches RAM
and the copy alone (R183, R184, Table 11-3). -/
def Obligations.CommandAnswers : Prop :=
  (∀ (dt : Tick) (code : Byte) (w : CmdWrite) (before s : State), Arrives dt before s → CycleReady s →
    (w.isHighByte = true → loByte (copyAt s 0) = code) →
    let u := takenState code w s
    let reply := fun (result : Byte) =>
      { u with mae.result := some ⟨s.mae.publication, [mkWord 0#8 code, 0#16, 0#16, 0#16, 0#16, 0#16, 0#16,
          mkWord ((commandTag (mergedCommand code w s)).setWidth 8) result]⟩ }
    let counted := withCause .cmdOverrun
      { u with cu := { s.cu with overruns := min (s.cu.overruns + 1) 65535 } }
    (s.cu.state = .idle → s.passOnly = false → 0x0F < code.toNat →
      exec (.unknownCommand dt code w) before = .next (reply 2#8)) ∧
    (s.cu.state = .idle → s.passOnly = true →
      (0x0F < code.toNat → exec (.unknownCommand dt code w) before = .next (reply 11#8)) ∧
      (∀ row, (code, row) ∈ commandRows → exec (row dt w) before = .next (reply 11#8))) ∧
    (s.cu.state ≠ .idle →
      (0x0F < code.toNat → exec (.unknownCommand dt code w) before = .next counted) ∧
      (∀ row, (code, row) ∈ commandRows → exec (row dt w) before = .next counted))) ∧
  (∀ (addr : Addr) (data : Word) (lanes : Lanes) (v : State), CycleReady v → Strobed lanes →
    wordAddr addr = pageAddr v 0 → loByte (mergeLanes (copyAt v 0) data lanes) = 0#8 →
    Performs (fun dt => .processorWrite dt addr data lanes false) (writeCycle addr data lanes) v { v with
      ram := writeLanes v.ram (pageAddr v 0) data lanes
      bpu.copy := v.bpu.copy.set 0 (mergeLanes (copyAt v 0) data lanes) })

/-- SET_TIMING and SET_MARGIN: 0xFFFF leaves a constant, another value is stored, clamped to its range; the
result says whether one was clamped, and nothing else changes (R82, R134, Table 5-3). -/
def Obligations.TimingAndMargin : Prop :=
  ∀ (dt : Tick) (w : CmdWrite) (before s : State), Arrives dt before s →
    let range := fun (v : Word) (lo hi : Nat) => v = 0xFFFF#16 ∨ (lo ≤ v.toNat ∧ v.toNat ≤ hi)
    let value := fun (v : Word) (lo hi old : Nat) =>
      if v = 0xFFFF#16 then old else if v.toNat < lo then lo else if hi < v.toNat then hi else v.toNat
    (CommandReady codeSetTiming w s →
      let u := takenState codeSetTiming w s
      let v := copyAt s
      let k := s.ft.timing
      let set : State := { u with ft.timing :=
        { comp := value (v 1) 0 4000 k.comp, lead := value (v 2) 100 1000 k.lead,
          keyGuard := value (v 3) 100 2000 k.keyGuard, overhead := value (v 4) 0 4000 k.overhead,
          byteTime := value (v 5) 8 1000 k.byteTime } }
      let inRange := range (v 1) 0 4000 ∧ range (v 2) 100 1000 ∧ range (v 3) 100 2000 ∧
        range (v 4) 0 4000 ∧ range (v 5) 8 1000
      (inRange → exec (.setTiming dt w) before = .next (replyCommand .done [] set)) ∧
      (¬inRange → exec (.setTiming dt w) before = .next (replyCommand .doneClamped [] set))) ∧
    (CommandReady codeSetMargin w s →
      let u := takenState codeSetMargin w s
      let m := (copyAt s 1).toNat
      (m ≤ 31 → exec (.setMargin dt w) before = .next (replyCommand .done [] { u with xu.margin := m })) ∧
      (31 < m → exec (.setMargin dt w) before = .next (replyCommand .doneClamped [] { u with xu.margin := 31 })))

/-- LOAD_ALIAS and CLEAR_ALIAS: the checks in their order, and the place set or emptied with nothing else
changed (R144, R145). -/
def Obligations.AliasCommands : Prop :=
  ∀ (dt : Tick) (w : CmdWrite) (before s : State), Arrives dt before s →
    let i := (copyAt s 1).toNat
    let address := (copyAt s 2).toNat
    let mask := copyAt s 3
    (CommandReady codeLoadAlias w s →
      let u := takenState codeLoadAlias w s
      let put := fun (g : Option GroupEntry) => { u with dlf.groups := s.dlf.groups.set i g }
      let bad := 128 ≤ mask.toNat ∨ (mask ≠ 0#16 ∧ (address < 1024 ∨ 2047 < address))
      (5 < i → exec (.loadAlias dt w) before = .next (replyCommand .badIndex [] u)) ∧
      (i ≤ 5 → bad → exec (.loadAlias dt w) before = .next (replyCommand .badField [] u)) ∧
      (i ≤ 5 → ¬bad → mask = 0#16 → exec (.loadAlias dt w) before = .next (replyCommand .done [] (put none))) ∧
      (i ≤ 5 → ¬bad → mask ≠ 0#16 →
        exec (.loadAlias dt w) before =
          .next (replyCommand .done [] (put (some ⟨.localLoad, address, mask.setWidth 7⟩))))) ∧
    (CommandReady codeClearAlias w s →
      let u := takenState codeClearAlias w s
      (5 < i → exec (.clearAlias dt w) before = .next (replyCommand .badIndex [] u)) ∧
      (i ≤ 5 → exec (.clearAlias dt w) before =
        .next (replyCommand .done [] { u with dlf.groups := s.dlf.groups.set i none })))

/-- LOAD_WINDOW's checks in the order of Table 2-4, each refused load changing nothing: index, fields, tag, overlap
and Capture Store. A load with no bad field gives the entry spelled out, with the values Tables 2-2 and 2-3 give at
load (R18, R19, R21, R28). That a gate or escalate field of none names no flag is the model's choice (log 15). -/
def Obligations.LoadWindowChecks : Prop :=
  ∀ (dt : Tick) (w : CmdWrite) (before s : State), Arrives dt before s → CommandReady codeLoadWindow w s →
    let u := takenState codeLoadWindow w s
    let refused := fun (r : ResultCode) => exec (.loadWindow dt w) before = .next (replyCommand r [] u)
    let low := fun (n : Nat) => (loByte (copyAt s n)).toNat
    let high := fun (n : Nat) => (hiByte (copyAt s n)).toNat
    let i := low 1
    let kind := high 1
    let base := (copyAt s 2).toNat + 65536 * ((copyAt s 3).toNat % 16)
    let length := low 4
    let mode := low 5
    let param := high 5
    let badCapture := 4 < mode ∨ ((mode = 1 ∨ mode = 2) ∧ length ≤ param) ∨
      (mode = 3 ∧ (param = 0 ∨ 64 < param)) ∨ (mode = 4 ∧ 7 < param) ∨
      2 < high 6 ∨ (high 6 ≠ 0 ∧ 7 < low 6) ∨ 1 < high 7 ∨ (high 7 = 1 ∧ 7 < low 7) ∨ 2 < low 8 ∨
      1 < high 8 ∨ (high 8 = 1 ∧ mode ≠ 3)
    let badMirror := 255 < (copyAt s 6).toNat ∨ ((copyAt s 5).getLsbD 1 = true ∧ length = 1)
    let bad := 1 < kind ∨ base % 2 = 1 ∨ length = 0 ∨ 64 < length ∨ 1048576 < base + 2 * length ∨
      0xF0 ≤ high 4 ∨ (kind = 0 ∧ badCapture) ∨ (kind = 1 ∧ badMirror)
    let args := (s.bpu.copy.drop 1).take 15
    (15 < i → refused .badIndex) ∧
    (i ≤ 15 → bad → refused .badField) ∧
    (¬bad → kind = 0 → entryOfArgs .localLoad args =
      some ⟨.localLoad, base, length, hiByte (copyAt s 4), .capture
        { state := .loading
          mode := if mode = 0 then .last else if mode = 1 then .word param else if mode = 2 then .after param
            else if mode = 3 then .period param else .rise param
          changedOnly := decide (high 8 = 1)
          gate := if high 6 = 0 then none else some ⟨low 6, decide (high 6 = 1)⟩
          escalate := if high 7 = 0 then none else some (low 7)
          cls := if low 8 = 0 then .urgent else if low 8 = 1 then .routine else .bulk
          seq := 0#8, dirty := true, armed := false, triggerPending := false, periodCount := 0
          image := List.replicate (2 * length) none }⟩) ∧
    (¬bad → kind = 1 → entryOfArgs .localLoad args =
      some ⟨.localLoad, base, length, hiByte (copyAt s 4),
        .mirror ⟨(copyAt s 5).getLsbD 0, (copyAt s 5).getLsbD 1, (copyAt s 6).toNat, 0, false⟩⟩) ∧
    (∀ e, i ≤ 15 → entryOfArgs .localLoad args = some e →
      let sameTag := ∃ j < 16, j ≠ i ∧ ∃ x, entryAt s j = some x ∧
        x.body.isCapture = e.body.isCapture ∧ x.tag = e.tag
      let meets := fun (b n : Nat) => base < b + n ∧ b < base + 2 * length
      let overlap := (∃ j < 16, j ≠ i ∧ ∃ x, entryAt s j = some x ∧ meets x.base (2 * x.length)) ∨
        meets s.bpu.base 512 ∨ ∃ r, s.mae.ring = some r ∧ meets r.base (64 * r.slots)
      let others := ((s.wt.set i none).map entryStore).sum
      (sameTag → refused .dupTag) ∧
      (¬sameTag → overlap → refused .overlap) ∧
      (¬sameTag → ¬overlap → e.body.isCapture = true → 1024 < others + length → refused .noSpace))

/-- LOAD_WINDOW passed, with the entry `e` that `LoadWindowChecks` spells out: the index is first cleared, with every
effect `ClearWindowEmpties` gives a clear, then the entry stands there, and a CAPTURE entry's PRIME job is last in
the Prime List. No other entry changes, and nothing else but what the clear takes with it (R20, R22, R28 to R30; the
gate and escalate fields by log 15). -/
def Obligations.LoadWindowPlaces : Prop :=
  ∀ (dt : Tick) (w : CmdWrite) (e : Entry) (before s : State), Arrives dt before s →
    CommandReady codeLoadWindow w s → TablesOk s →
    let u := takenState codeLoadWindow w s
    let i := (loByte (copyAt s 1)).toNat
    let x := clearEntry i u
    i ≤ 15 → entryOfArgs .localLoad ((s.bpu.copy.drop 1).take 15) = some e →
    tagTaken s i e = false → overlaps s i e = false → storeShort s i e = false →
    e.origin = .localLoad ∧
    (∀ c, e.body = .capture c → exec (.loadWindow dt w) before = .next (replyCommand .done [] { x with
      wt := s.wt.set i (some e)
      mae.primeList := (s.mae.primeList.filter fun k =>
        !(captureAt s i).isSome || decide (k ≠ i)) ++ [i] })) ∧
    (∀ m, e.body = .mirror m → exec (.loadWindow dt w) before =
      .next (replyCommand .done [] { x with wt := s.wt.set i (some e) })) ∧
    (∀ j < 16, j ≠ i → entryAt x j = entryAt s j) ∧
    (entryAt s i = none → x = u)

/-- CLEAR_WINDOW: an index above 15 is refused; otherwise the index is empty, and with it go the window's records
(ON_AIR ones are detached), its compare rules with their flags, and its engine jobs; RAM and the other entries, rules,
records and jobs stay (R23 to R27, R159). The model's own part of it: a running job of the window is gone at once,
also with a word of it on the bus, which completes alone (log 5), and the notes of the jobs that wait at a full stack
change only where the stack is full or a MIRROR window is cleared (log 38). -/
def Obligations.ClearWindowEmpties : Prop :=
  ∀ (dt : Tick) (w : CmdWrite) (before s : State), Arrives dt before s → CommandReady codeClearWindow w s →
    TablesOk s →
    (15 < (copyAt s 1).toNat → exec (.clearWindow dt w) before =
      .next (replyCommand .badIndex [] (takenState codeClearWindow w s))) ∧
    ((copyAt s 1).toNat ≤ 15 → exec (.clearWindow dt w) before =
      .next (replyCommand .done [] (clearEntry (copyAt s 1).toNat (takenState codeClearWindow w s)))) ∧
    (∀ i ≤ 15, ∀ u : State, u.wt.length = 16 → u.ftu.rules.length = 8 →
      let t := clearEntry i u
      let kept := fun (p : Work → Bool) =>
        { u.mae with
          waits := t.mae.waits
          mirrorWaits := t.mae.mirrorWaits
          running := u.mae.running.filter fun j => !p j.work
          stack := u.mae.stack.filter fun j => !p j.work }
      (entryAt u i = none → t = u) ∧
      ((captureAt u i).isSome = true →
        t.wt = u.wt.set i none ∧
        t.uq = { u.uq with
          records := u.uq.records.filterMap fun r =>
            if r.window ≠ some i then some r
            else if r.state = .onAir then some { r with detached := true, window := none } else none } ∧
        (∀ k < 8, ruleAt t k = (ruleAt u k).filter fun r => decide (r.window ≠ i)) ∧
        (∀ f < 8, conditionFlag t.ftu.flags f = (conditionFlag u.ftu.flags f &&
          !(u.ftu.rules.any fun r => r.any fun x => decide (x.window = i ∧ x.target = f)))) ∧
        t.ftu.gatedTriggers = u.ftu.gatedTriggers ∧
        t.mae = { kept (fun k => decide (k = .prime i)) with
          primeList := u.mae.primeList.filter fun k => decide (k ≠ i) }) ∧
      ((mirrorAt u i).isSome = true →
        t.wt = u.wt.set i none ∧ t.uq = u.uq ∧ t.ftu = u.ftu ∧
        t.mae = { kept (fun k => match k with
            | .mirror j _ _ => decide (j = i)
            | .age j => decide (j = i)
            | .attention | .stop _ | .result _ | .ring _ _ _ | .status _ | .prime _ => false) with
          mirrorList := u.mae.mirrorList.filter fun j => decide (j.index ≠ i) }) ∧
      t.bpu = { u.bpu with passOver := t.bpu.passOver } ∧
      (t.mae.running = u.mae.running → t.bpu.passOver = u.bpu.passOver ∧
        (u.mae.stack.length < 2 → t.mae.waits = u.mae.waits ∧
          ((mirrorAt u i).isNone = true → t.mae.mirrorWaits = u.mae.mirrorWaits))) ∧
      t.ram = u.ram ∧ t.ft = u.ft ∧ t.ssu = u.ssu ∧ t.ab = u.ab ∧ t.xu = u.xu ∧ t.dlf = u.dlf ∧
      t.au = u.au ∧ t.cu = u.cu)

/-- The origin rules: a RADIO load or clear at an index that holds a LOCAL entry gives OWNED and changes nothing; over
a RADIO entry or an empty index it is never OWNED; a LOCAL load never is; and the entry a load places has the load's
origin (R20). The same of compare rules, after the checks of index and fields: a RADIO load or clear at a place that
holds a LOCAL rule gives OWNED; any other load places the rule with its own origin, and where its window is LOADING or
VRST is asserted nothing is evaluated, an old target flag that differs going false and no other flag changing; any
other clear empties the place and sets its flag false (R39, R40, R41). And of aliases: a RADIO load at a place that
holds a LOCAL entry gives OWNED, also one with the empty mask that is the head-end's clear; any other load sets or
empties the place (R144). -/
def Obligations.LoadOrigins : Prop :=
  (∀ (args : List Word) (s : State) (origin : Origin) (e : Entry), s.wt.length = 16 →
    let i := (loByte (argWord args 1)).toNat
    i ≤ 15 → entryOfArgs origin args = some e →
    (origin = .radioLoad → originAt s i = some .localLoad → loadWindow origin args s = (s, .owned)) ∧
    (origin = .localLoad ∨ originAt s i ≠ some .localLoad → (loadWindow origin args s).2 ≠ .owned) ∧
    ((loadWindow origin args s).2 = .done → originAt (loadWindow origin args s).1 i = some origin) ∧
    (∀ k, argNat k 1 = i → originAt s i = some .localLoad → clearWindow .radioLoad k s = (s, .owned))) ∧
  (∀ (args : List Word) (s : State) (origin : Origin), s.ftu.rules.length = 8 →
    let i := (argWord args 1).toNat
    let held := (ruleAt s i).map Rule.origin
    let owned := origin = .radioLoad ∧ held = some .localLoad
    ruleOfArgs .radioLoad args s =
      (ruleOfArgs .localLoad args s).map (fun r => { r with origin := .radioLoad }) ∧
    (7 < i → loadCompare origin args s = (s, .badIndex) ∧ clearCompare origin args s = (s, .badIndex)) ∧
    (i ≤ 7 → ruleOfArgs origin args s = none → loadCompare origin args s = (s, .badField)) ∧
    (∀ r, i ≤ 7 → ruleOfArgs origin args s = some r →
      let flags := match ruleAt s i with
        | some old =>
          if old.target = r.target then s.ftu.flags else setConditionFlag s.ftu.flags old.target false
        | none => s.ftu.flags
      (owned → loadCompare origin args s = (s, .owned)) ∧
      (¬owned → r.origin = origin ∧ (loadCompare origin args s).2 = .done ∧
        ruleAt (loadCompare origin args s).1 i = some r) ∧
      (¬owned → s.vrst = true ∨ (∀ c, captureAt s r.window = some c → c.state = .loading) →
        loadCompare origin args s =
          ({ s with ftu := { s.ftu with rules := s.ftu.rules.set i (some r), flags := flags } }, .done))) ∧
    (i ≤ 7 →
      (owned → clearCompare origin args s = (s, .owned)) ∧
      (¬owned → held = none → clearCompare origin args s = (s, .done)) ∧
      (∀ r, ¬owned → ruleAt s i = some r → clearCompare origin args s =
        ({ s with ftu := { s.ftu with
          rules := s.ftu.rules.set i none
          flags := setConditionFlag s.ftu.flags r.target false } }, .done)))) ∧
  (∀ (args : List Word) (s : State) (origin : Origin),
    let i := (argWord args 1).toNat
    let address := (argWord args 2).toNat
    let mask := argWord args 3
    let owned := origin = .radioLoad ∧ (groupAt s i).map GroupEntry.origin = some .localLoad
    let put : Option GroupEntry := if mask = 0#16 then none else some ⟨origin, address, mask.setWidth 7⟩
    let bad := 128 ≤ mask.toNat ∨ (mask ≠ 0#16 ∧ (address < 1024 ∨ 2047 < address))
    (5 < i → loadGroup origin args s = (s, .badIndex)) ∧
    (i ≤ 5 → bad → loadGroup origin args s = (s, .badField)) ∧
    (i ≤ 5 → ¬bad → owned → loadGroup origin args s = (s, .owned)) ∧
    (i ≤ 5 → ¬bad → ¬owned → loadGroup origin args s =
      ({ s with dlf.groups := s.dlf.groups.set i put }, .done)))

/-- LOAD_COMPARE and CLEAR_COMPARE: the checks in their order; a loaded rule replaces the place's old one, a different
old target flag goes false, and the rule is evaluated at once where its window is ACTIVE; a rise of the flag at that
evaluation fires the RISE entries on it in ascending window; a clear empties the place and sets the target flag false,
which fires nothing (R39 to R41, R43, R44, R49). -/
def Obligations.CompareCommands : Prop :=
  ∀ (dt : Tick) (w : CmdWrite) (before s : State), Arrives dt before s → TablesOk s →
    let i := (copyAt s 1).toNat
    let window := (copyAt s 2).toNat
    let offset := (copyAt s 3).toNat
    let target := (hiByte (copyAt s 5)).toNat
    (CommandReady codeLoadCompare w s →
      let u := takenState codeLoadCompare w s
      let refused := fun (r : ResultCode) => exec (.loadCompare dt w) before = .next (replyCommand r [] u)
      (7 < i → refused .badIndex) ∧
      (i ≤ 7 → (15 < window ∨ captureAt s window = none ∨
        (∃ e, entryAt s window = some e ∧ e.length ≤ offset) ∨ 2 < (loByte (copyAt s 4)).toNat ∨
        1 < (hiByte (copyAt s 4)).toNat ∨ 5 < (loByte (copyAt s 5)).toNat ∨ 7 < target) →
        refused .badField) ∧
      (∀ (e : Entry) (c : Capture) (width : Width) (signed : Bool) (test : Test), i ≤ 7 → window ≤ 15 →
        entryAt s window = some e → e.body = .capture c → offset < e.length →
        widthOfCode (loByte (copyAt s 4)) = some width → boolOfCode (hiByte (copyAt s 4)) = some signed →
        testOfCode (loByte (copyAt s 5)) = some test → target ≤ 7 →
        let r : Rule := ⟨.localLoad, window, offset, width, signed, test, copyAt s 6, target⟩
        let flags := match ruleAt s i with
          | some old =>
            if old.target = target then s.ftu.flags else setConditionFlag s.ftu.flags old.target false
          | none => s.ftu.flags
        (c.state = .loading → exec (.loadCompare dt w) before =
          .next (replyCommand .done []
            { u with ftu := { s.ftu with rules := s.ftu.rules.set i (some r), flags := flags } })) ∧
        (c.state = .active →
          let x : State :=
            { u with ftu := { s.ftu with rules := s.ftu.rules.set i (some r), flags := flags } }
          let risen := setConditionFlag flags target (evalRule r (imageWord c offset))
          exec (.loadCompare dt w) before = .next (replyCommand .done []
            ((risingEntries risen x).foldl (fun y j => fireTrigger j y) { x with ftu.flags := risen }))))) ∧
    (CommandReady codeClearCompare w s →
      let u := takenState codeClearCompare w s
      (7 < i → exec (.clearCompare dt w) before = .next (replyCommand .badIndex [] u)) ∧
      (i ≤ 7 → ruleAt s i = none → exec (.clearCompare dt w) before = .next (replyCommand .done [] u)) ∧
      (∀ r, i ≤ 7 → ruleAt s i = some r → exec (.clearCompare dt w) before =
        .next (replyCommand .done [] { u with ftu := { s.ftu with
          rules := s.ftu.rules.set i none
          flags := setConditionFlag s.ftu.flags r.target false } })))

/-- The result a rule gives its target flag: the six tests of Table 3-3 on the low byte, the high byte or the
whole of the image word at its offset, signed or not, whatever flags and whatever rest of the image stand
(R42). -/
def Obligations.RuleTests : Prop :=
  ∀ (r : Rule) (c : Capture) (low high : Byte) (flags : BitVec 8) (s : State), r.target < 8 →
    captureAt s r.window = some c → c.image[2 * r.offset]? = some (some low) →
    c.image[2 * r.offset + 1]? = some (some high) →
    let bits : Nat := match r.width with
      | .low8 => low.toNat
      | .high8 => high.toNat
      | .word16 => low.toNat + 256 * high.toNat
    let size : Nat := match r.width with
      | .low8 => 256
      | .high8 => 256
      | .word16 => 65536
    let const : Nat := match r.width with
      | .low8 => r.const.toNat % 256
      | .high8 => r.const.toNat % 256
      | .word16 => r.const.toNat
    let value : Int := if r.signed = true ∧ size ≤ 2 * bits then (bits : Int) - size else bits
    (conditionFlag (evalInto s flags r) r.target = true) ↔ match r.test with
      | .eq => bits = const
      | .ne => bits ≠ const
      | .gez => 0 ≤ value
      | .gtz => 0 < value
      | .ltz => value < 0
      | .lez => value ≤ 0

/-- QUERY_WINDOW changes nothing and returns the entry's description; SNAPSHOT_NOW takes one snapshot of an
ACTIVE CAPTURE entry, its sequence counted and its dirty bit cleared, and offers the record before the reply;
both check the index, then the entry. An offered record, of whatever kind, supersedes the QUEUED record of its window
or the QUEUED STOP_ACK in its place, renews a QUEUED JOIN, or else joins at the tail; at 24 records a BULK record is
dropped, a ROUTINE record evicts the oldest QUEUED BULK record or is dropped, an URGENT one evicts the oldest QUEUED
BULK, else ROUTINE, record or is dropped, and each counts a Queue Drop and raises QUEUE_DROP
(R52, R53, R61 to R64, R187, Table 11-3). -/
def Obligations.QueryAndSnapshot : Prop :=
  (∀ (dt : Tick) (w : CmdWrite) (before s : State), Arrives dt before s → TablesOk s →
    let i := (copyAt s 1).toNat
    (CommandReady codeQueryWindow w s →
      let u := takenState codeQueryWindow w s
      (15 < i → exec (.queryWindow dt w) before = .next (replyCommand .badIndex [] u)) ∧
      (i ≤ 15 → entryAt s i = none → exec (.queryWindow dt w) before = .next (replyCommand .notActive [] u)) ∧
      (∀ e, i ≤ 15 → entryAt s i = some e →
        ∃ kind detail, exec (.queryWindow dt w) before = .next (replyCommand .done
            [kind, word (e.base % 65536), word (e.base / 65536), mkWord e.tag (BitVec.ofNat 8 e.length),
              detail, word (freeStore s)] u) ∧
          kind.getLsbD 0 = decide (e.origin = .radioLoad) ∧
          kind.getLsbD 1 = (mirrorAt s i).isSome ∧
          (∀ c, captureAt s i = some c → kind.getLsbD 2 = decide (c.state = .active) ∧
            loByte detail = c.seq ∧ detail.getLsbD 8 = c.dirty ∧ detail.getLsbD 9 = c.armed ∧
            detail.getLsbD 10 = c.triggerPending) ∧
          (∀ m, mirrorAt s i = some m → m.age ≤ 255 → kind.getLsbD 2 = true ∧
            (loByte detail).toNat = m.age ∧ detail.getLsbD 8 = m.staleReported))) ∧
    (CommandReady codeSnapshotNow w s →
      let u := takenState codeSnapshotNow w s
      (15 < i → exec (.snapshotNow dt w) before = .next (replyCommand .badIndex [] u)) ∧
      (i ≤ 15 → (∀ c, captureAt s i = some c → c.state = .loading) →
        exec (.snapshotNow dt w) before = .next (replyCommand .notActive [] u)) ∧
      (∀ e c, i ≤ 15 → entryAt s i = some e → e.body = .capture c → c.state = .active →
        let record : Record :=
          { kind := .window, window := some i, tag := e.tag, seq := c.seq + 1#8,
            cls := match c.escalate with
              | some f => if conditionFlag s.ftu.flags f then .urgent else c.cls
              | none => c.cls
            flags := s.ftu.flags, created := s.ft.frame, attempts := 0, ackedOnAir := false,
            detached := false, state := .queued, payload := c.image.map fun b => b.getD 0#8,
            oversize := false }
        let after := { e with body := .capture { c with seq := c.seq + 1#8, dirty := false } }
        let cleaned : State := { u with wt := s.wt.set i (some after) }
        exec (.snapshotNow dt w) before = .next (replyCommand .done [] (offer record cleaned)) ∧
        ((∀ r ∈ s.uq.records, r.kind = .window → r.window = some i → r.state ≠ .queued) →
          s.uq.records.length < 24 →
          offer record cleaned = { cleaned with uq.records := s.uq.records ++ [record] })))) ∧
    (∀ (r : Record) (x : State),
      let rs := x.uq.records
      let dropped := withCause .queueDrop { x with uq.queueDrops := min (x.uq.queueDrops + 1) 65535 }
      let evicts := fun (cls : RecordClass) => ∀ pre old post, rs = pre ++ old :: post → old.state = .queued →
        old.cls = cls → (∀ y ∈ pre, y.state = .queued → y.cls ≠ cls) →
        offer r x = { dropped with uq := { dropped.uq with records := pre ++ post ++ [r] } }
      let holds := fun (cls : RecordClass) => ∃ y ∈ rs, y.state = .queued ∧ y.cls = cls
      let merges := fun (y : Record) => y.state = .queued ∧ (r.sharesPlace y ∨ (r.kind = .join ∧ y.kind = .join))
      (∀ pre old post, rs = pre ++ old :: post → merges old → (∀ y ∈ pre, ¬merges y) →
        (r.kind ≠ .join → offer r x = { x with uq := { x.uq with
          records := pre ++ { old with
            seq := r.seq, cls := r.cls, flags := r.flags, created := r.created, payload := r.payload,
            attempts := 0, oversize := false } :: post
          superseded := min (x.uq.superseded + 1) 65535 } }) ∧
        (r.kind = .join → offer r x = { x with uq := { x.uq with
          records := pre ++
            { old with seq := r.seq, created := r.created, attempts := 0, oversize := false } :: post } })) ∧
      ((∀ y ∈ rs, ¬merges y) →
        (rs.length < 24 → offer r x = { x with uq := { x.uq with records := rs ++ [r] } }) ∧
        (24 ≤ rs.length →
          (r.cls = .bulk → offer r x = dropped) ∧
          (r.cls = .routine → evicts .bulk ∧ (¬holds .bulk → offer r x = dropped)) ∧
          (r.cls = .urgent → evicts .bulk ∧ (¬holds .bulk → evicts .routine) ∧
            (¬holds .bulk → ¬holds .routine → offer r x = dropped)))))

/-- CLEAR_COUNTERS: the 23 counters of block words 21 to 43 and the Sync Error Count become 0, the spent count
and everything else stay (R187). -/
def Obligations.CountersCleared : Prop :=
  ∀ (dt : Tick) (w : CmdWrite) (before s : State), Arrives dt before s → CommandReady codeClearCounters w s →
    let u := takenState codeClearCounters w s
    ∃ t, exec (.clearCounters dt w) before = .next (replyCommand .done [] t) ∧
      counterList t = List.replicate 23 0 ∧ t.ft.syncErrors = 0 ∧
      (∀ k, 21 ≤ k → k ≤ 43 → statusWord t k = 0#16) ∧ statusWord t 14 = 0#16 ∧
      t.ram = u.ram ∧ t.bpu = { u.bpu with guardViolations := 0 } ∧ t.wt = s.wt ∧ t.au = s.au ∧
      t.cu = { u.cu with overruns := 0 } ∧ t.porn = s.porn ∧ t.vrst = s.vrst ∧ t.carid = s.carid ∧
      t.passOnly = s.passOnly ∧ t.pending = s.pending ∧
      t.ft = { u.ft with coChannel := 0, renumbers := 0, syncErrors := 0 } ∧
      t.uq.records = s.uq.records ∧ t.uq.joinSeq = s.uq.joinSeq ∧ t.ftu.rules = s.ftu.rules ∧
      t.ftu.flags = s.ftu.flags ∧ t.ssu.grants = s.ssu.grants ∧ t.ssu.contention = s.ssu.contention ∧
      t.ssu.burst = s.ssu.burst ∧ t.ab = { s.ab with overrun := 0 } ∧
      t.xu = { s.xu with crossovers := 0 } ∧ t.dlf.groups = s.dlf.groups ∧ t.dlf.recent = s.dlf.recent ∧
      t.mae = { s.mae with
        stagingDrops := 0, ringOverflows := 0, indexFaults := 0, mirrorClamps := 0, mirrorDrops := 0 }

/-- SET_RING with no COMMAND or INFO job in progress, and the end of a waiting SET_RING's wait: N = 0 removes
the ring and empties the Staging Queue, counting each message; a bad N or base gives BAD_FIELD, an overlap
OVERLAP; otherwise the ring is configured empty and its publication is due in the same RESULT job. While such a
job is running or suspended SET_RING waits, and its wait does not end. What the row SET_RING_WAIT_END does is done too
before a held cycle and before any tick passes, ahead of the engine's choice (R161, R185; that order by log 39). -/
def Obligations.RingConfigured : Prop :=
  (∀ y z : State, elapse 0#32 y = y → exec .setRingWaitEnd y = .next z → settle y = settleEngine z) ∧
  ∀ (c : Instr) (u : State) (base slots : Nat) (before s : State),
    ((∃ dt w, c = .setRing dt w ∧ Arrives dt before s ∧ CommandReady codeSetRing w s ∧
        u = takenState codeSetRing w s ∧
        base = (copyAt s 1).toNat + 65536 * ((copyAt s 2).toNat % 16) ∧ slots = (copyAt s 3).toNat) ∨
      (c = .setRingWaitEnd ∧ s = elapse 0#32 before ∧ u = s ∧
        ∃ code tag, s.cu.state = .waiting code tag (.ringIdle base slots))) →
    (anyRingJob s.mae = true →
      (c = .setRingWaitEnd → exec c before = .next s) ∧
      (∀ dt w, c = .setRing dt w →
        let tag := commandTag (mergedCommand codeSetRing w s)
        exec c before = .next { u with cu.state := .waiting codeSetRing tag (.ringIdle base slots) })) ∧
    (anyRingJob s.mae = false →
    let bad := slots < 4 ∨ 64 < slots ∨ base % 2 = 1 ∨ 1048576 < base + 64 * slots
    let meets := fun (b n : Nat) => base < b + n ∧ b < base + 64 * slots
    let overlap := (∃ j < 16, ∃ x, entryAt s j = some x ∧ meets x.base (2 * x.length)) ∨
      meets s.bpu.base 512
    (slots = 0 → exec c before = .next (replyCommand .done [] { u with mae := { s.mae with
      ring := none, unpublished := none, staging := []
      stagingDrops := min (s.mae.stagingDrops + s.mae.staging.length) 65535 } })) ∧
    (slots ≠ 0 → bad → exec c before = .next (replyCommand .badField [] u)) ∧
    (¬bad → overlap → exec c before = .next (replyCommand .overlap [] u)) ∧
    (¬bad → ¬overlap → exec c before = .next (replyCommand .done [] { u with mae := { s.mae with
      ring := some ⟨base, slots, 0, 0, 0⟩, unpublished := none, publication := true } })))

/-! ### The links by command, and the resets that empty the queue -/

/-- SET_LINK_ENABLE and FORCE_CROSSOVER. The checks come in their order. Disabling a link that is OFF changes nothing;
disabling the STANDBY link ends its dwell and leaves a burst on the PRIMARY link alone; disabling the PRIMARY link
abandons its burst, hands the role to an enabled other link, which scans, or leaves no PRIMARY link, and enters SEARCH
with the LINK request raised, which returns every AWAIT_ACK record. Enabling retunes a scanning link to its start
channel and a PRIMARY link to its own, the TUNE held while one is outstanding or a burst is on the link, and waits for
it; a STANDBY link keeps its dwell, or starts one on the first eligible entry and waits where that takes a TUNE, and
is answered at once where it takes none. A forced crossover waits for the frame start, or gives NO_CANDIDATE in SEARCH
(R67, R74, R96, R121, R124, R127, R131, R135, R136, R185). The model's own part of it: a TUNING link stays TUNING (log
11), an answer at once carries the link's condition as data (log 12), the new PRIMARY link's A8 is 0 (log 27), a scan
that begins drops a scan expiry still running (log 40), and a beacon-window close that waits as the PRIMARY link is
disabled (log 47), or a watch close that waits as a dwell ends or starts (log 51), does not occur. -/
def Obligations.LinkCommands : Prop :=
  ∀ (dt : Tick) (w : CmdWrite) (before s : State), Arrives dt before s →
    (CommandReady codeSetLinkEnable w s →
      let u := takenState codeSetLinkEnable w s
      let tag := commandTag (mergedCommand codeSetLinkEnable w s)
      let number := (copyAt s 1).toNat
      let value := (copyAt s 2).toNat
      (1 < number → exec (.setLinkEnable dt w) before = .next (replyCommand .badIndex [] u)) ∧
      (number ≤ 1 → 1 < value → exec (.setLinkEnable dt w) before = .next (replyCommand .badField [] u)) ∧
      (∀ l, linkOfNumber number = some l →
        let k := linkOf s l
        let off : LinkState := { k with
          enabled := false, role := .off, condition := .ready, held := none, nextChannel := none,
          tuneExpiry := none, scanExpiry := none, a8 := 0, txFaults := 0 }
        (value = 0 →
          (k.role = .off → exec (.setLinkEnable dt w) before =
            .next (replyCommand .done [word (conditionCode k.condition)] u)) ∧
          (k.role = .standby →
            (∀ b, s.ssu.burst = some b → b.link = otherLink l ∧ (linkOf s b.link).role = .primary ∧
              (b.phase = .prepared → (linkOf s b.link).condition = .ready)) →
            ∃ t, exec (.setLinkEnable dt w) before = .next (replyCommand .done [0#16] t) ∧
              linkOf t l = off ∧ linkOf t (otherLink l) = linkOf s (otherLink l) ∧ t.xu.dwell = none ∧
              t.ram = u.ram ∧ t.ft = u.ft ∧ t.uq = s.uq ∧ t.ssu = s.ssu ∧ t.ab = s.ab ∧ t.wt = s.wt ∧
              t.au = s.au ∧ t.xu.neighbours = s.xu.neighbours) ∧
          (k.role = .primary → RolesOk s → (∀ b, s.ssu.burst = some b → b.link = l) →
            ∃ t, exec (.setLinkEnable dt w) before = .next t ∧
              t.mae.result = some ⟨s.mae.publication, resultWords .done codeSetLinkEnable tag [0#16]⟩ ∧
              linkOf t l = off ∧
              linkOf t (otherLink l) = (let o := linkOf s (otherLink l)
                let p := { o with role := .primary, a8 := 0 }
                if o.enabled = false then o
                else if o.condition = .txFault ∨ o.condition = .portFault then p
                else { p with scanExpiry := none }.retuned s.ft.tick (startChannel (otherLink l)) false) ∧
              (s.ssu.burst = none → s.xu.forcedProvision = none → Apart s.uq.records →
                t.uq.records = returned s.uq.records ∧ t.uq.superseded = min 65535 (s.uq.superseded +
                  (s.uq.records.filter fun r => r.awaits && decide (placeTaken s.uq.records r)).length)) ∧
              (s.ssu.burst ≠ none → s.xu.forcedProvision = none → Apart s.uq.records →
                t.uq.records = returned (abandoned s.uq.records)) ∧
              t.ssu.burst = none ∧ t.ssu.grants = [] ∧ t.ssu.contention = [] ∧ t.ab.restart = true ∧
              t.ft.lock = .search ∧ (s.ft.lock ≠ .search → t.ft.next = none ∧ t.ft.window = none) ∧
              t.xu.dwell = none ∧ t.au.requests &&& requestBit .link ≠ 0#6 ∧
              t.ram = u.ram ∧ t.wt = s.wt ∧ t.ftu = s.ftu ∧ t.dlf = s.dlf)) ∧
        (value = 1 →
          let role := if k.role = .off then
              (if (linkOf s (otherLink l)).enabled then .standby else .primary) else k.role
          let marked := { k with
            enabled := true, role := role, txFaults := 0
            condition := if k.condition = .tuning then .tuning else .ready }
          let held := decide (k.condition = .tuning) || burstOn s l
          let code := word (conditionCode marked.condition)
          let waits := fun (t : State) => exec (.setLinkEnable dt w) before = .next t ∧
            t.cu.state = .waiting codeSetLinkEnable tag (.linkTune l held) ∧ t.mae.result = s.mae.result
          (s.ft.lock = .search → ∃ t, waits t ∧
            linkOf t l = { marked with scanExpiry := none }.retuned s.ft.tick (startChannel l) held ∧
            linkOf t (otherLink l) = linkOf s (otherLink l) ∧
            t.ram = u.ram ∧ t.uq = s.uq ∧ t.ssu = s.ssu ∧ t.wt = s.wt) ∧
          (s.ft.lock ≠ .search → role = .primary → ∃ t, waits t ∧
            linkOf t l = marked.retuned s.ft.tick k.channel held ∧
            linkOf t (otherLink l) = linkOf s (otherLink l) ∧ t.ram = u.ram ∧ t.uq = s.uq ∧ t.ssu = s.ssu) ∧
          (s.ft.lock ≠ .search → role = .standby →
            ((∀ n ∈ s.xu.neighbours, n.zone = s.ft.zone) →
              ∃ t, exec (.setLinkEnable dt w) before = .next (replyCommand .done [code] t) ∧
                linkOf t l = marked ∧ t.xu.dwell = none ∧ t.ft = u.ft ∧ t.ram = u.ram) ∧
            (∀ n, RolesOk s → dwelt s = some n → n.zone ≠ s.ft.zone →
              ∃ t, exec (.setLinkEnable dt w) before = .next (replyCommand .done [code] t) ∧
                linkOf t l = marked ∧ linkOf t (otherLink l) = linkOf s (otherLink l) ∧
                t.xu.dwell = s.xu.dwell ∧ t.xu.watch = s.xu.watch ∧ t.xu.neighbours = s.xu.neighbours ∧
                t.ft = u.ft ∧ t.ram = u.ram) ∧
            (∀ x, RolesOk s → (∀ n, dwelt s = some n → n.zone = s.ft.zone) →
              s.xu.neighbours.find? (fun y => decide (y.zone ≠ s.ft.zone)) = some x →
              ∃ t, DwellStarted l marked x s t ∧ t.ft = u.ft ∧ t.ram = u.ram ∧
                (marked.condition = .ready ∧ k.channel = x.channel →
                  exec (.setLinkEnable dt w) before = .next (replyCommand .done [code] t)) ∧
                (¬(marked.condition = .ready ∧ k.channel = x.channel) → waits t)))))) ∧
    (CommandReady codeForceCrossover w s →
      let u := takenState codeForceCrossover w s
      (s.ft.lock = .search →
        exec (.forceCrossover dt w) before = .next (replyCommand .noCandidate [] u)) ∧
      (s.ft.lock ≠ .search → exec (.forceCrossover dt w) before = .next { u with
        xu.forcedCommand := true
        cu.state := .waiting codeForceCrossover (commandTag (mergedCommand codeForceCrossover w s))
          .crossover }))

/-- RESTART_LINK: the queue holds the detached ON_AIR records and a new JOIN, faults are cleared on the enabled
links, which scan from their start channels, and the lock state is SEARCH with no grants; windows, rules,
roles, neighbours and the credit are kept (R75, R96, R137, R187). The model's own part of it: a link that is TUNING
stays TUNING with its start channel held (log 11), the new JOIN waits with an empty payload (log 30), and
neither a beacon-window close (log 47) nor a watch close (log 51) that waits occurs. -/
def Obligations.LinkRestarted : Prop :=
  ∀ (dt : Tick) (w : CmdWrite) (before s : State), Arrives dt before s → CommandReady codeRestartLink w s →
    (s.uq.records.filter fun r => decide (r.state = .onAir)).length < 24 →
    s.xu.forcedCommand = false → s.xu.forcedProvision = none →
    let u := takenState codeRestartLink w s
    ∃ t, exec (.restartLink dt w) before = .next (replyCommand .done [] t) ∧
      t.uq.joinSeq = s.uq.joinSeq + 1#8 ∧
      t.uq.records = ((s.uq.records.filter fun r => decide (r.state = .onAir)).map fun r =>
          { r with detached := true, window := none }) ++
        [internalRecord .join 0xF0#8 (s.uq.joinSeq + 1#8) .urgent s.ft.frame []] ∧
      t.ft.lock = .search ∧ (s.ft.lock ≠ .search → t.ft.next = none ∧ t.ft.window = none) ∧
      t.ssu = { s.ssu with grants := [], contention := [] } ∧ t.ab = { s.ab with restart := true } ∧
      t.xu.dwell = none ∧ t.xu.neighbours = s.xu.neighbours ∧ t.xu.margin = s.xu.margin ∧
      t.xu.crossovers = s.xu.crossovers ∧
      (∀ l, (linkOf t l).role = (linkOf s l).role ∧ (linkOf t l).enabled = (linkOf s l).enabled ∧
        (linkOf t l).a8 = (linkOf s l).a8 ∧
        ((linkOf s l).enabled = false → linkOf t l = linkOf s l) ∧
        ((linkOf s l).enabled = true → burstOn s l = false →
          (linkOf t l).condition = .tuning ∧ (linkOf t l).txFaults = 0 ∧
          ((linkOf s l).condition ≠ .tuning →
            (linkOf t l).channel = (match l with | .a => 0#4 | .b => 8#4)) ∧
          ((linkOf s l).condition = .tuning →
            (linkOf t l).nextChannel = some (match l with | .a => 0#4 | .b => 8#4)))) ∧
      t.ram = u.ram ∧ t.wt = s.wt ∧ t.ftu = s.ftu ∧ t.dlf = s.dlf ∧ t.au = s.au

/-- RECEIVED with a new RESET message performs the network reset: every RADIO window, rule and alias is cleared, the
queue is emptied but for detached ON_AIR records and a new JOIN, the grants are cleared and the credit restarts; LOCAL
entries, the timing, the links, the ring, the requests and RAM are kept. Cleared too is every rule on a RADIO CAPTURE
window; the target flag of every cleared rule is false, no other flag changes, and no trigger fires (R37, R54, R75,
R102, R116, R141, R145, R149, R153). The model's own part of it: the PRIME and MIRROR jobs of the cleared windows end
with them, listed, running or suspended, and no other job does (log 43), with the notes of waiting jobs (log 38) and
the Pass-Over Count (log 24) as such an end leaves them, and the new JOIN waits with an empty payload (log 30). -/
def Obligations.NetworkResetClears : Prop :=
  (∀ (dt : Tick) (l : Link) (status : Byte) (burst : List Byte) (m : CarMessage) (before : State),
    let s := elapse dt before
    PortReady l s → status.getLsbD 7 = true → s.ft.lock ≠ .search → (linkOf s l).role = .primary →
    (linkOf s l).condition = .ready ∨ (linkOf s l).condition = .txFault →
    parseBurst burst = .downlink s.ft.zone [m] → m.kind = 6#3 → m.payload.length ≤ 56 →
    accepts s .reset m.destination = true → (⟨s.ft.zone, m.destination, m.seq, .reset⟩ : Recent) ∉ s.dlf.recent →
    exec (.received dt l status burst) before = .next (releaseWatch l (releaseClose l (networkReset
      { putLink l { linkOf s l with held := none } s with
        dlf.recent := addRecent ⟨s.ft.zone, m.destination, m.seq, .reset⟩ s.dlf.recent })))) ∧
  (∀ s : State, TablesOk s →
    (s.uq.records.filter fun r => decide (r.state = .onAir)).length < 24 →
    let t := networkReset s
    let lost := fun (i : Nat) => decide (originAt s i = some .radioLoad)
    let lostCapture := fun (i : Nat) => lost i && (captureAt s i).isSome
    let ruleLost := fun (r : Rule) => decide (r.origin = .radioLoad) || lostCapture r.window
    let jobKept := fun (j : Job) => match j.work with
      | .prime i => !lostCapture i
      | .mirror i _ _ | .age i => !(lost i && (mirrorAt s i).isSome)
      | .attention | .stop _ | .result _ | .ring _ _ _ | .status _ => true
    (∀ i < 16, entryAt t i = if lost i then none else entryAt s i) ∧
    (∀ k < 8, ruleAt t k = (ruleAt s k).filter fun r => !ruleLost r) ∧
    (∀ f < 8, conditionFlag t.ftu.flags f =
      (conditionFlag s.ftu.flags f &&
        !(s.ftu.rules.any fun r => r.any fun x => ruleLost x && decide (x.target = f)))) ∧
    t.ftu.gatedTriggers = s.ftu.gatedTriggers ∧
    t.mae = { s.mae with
      running := s.mae.running.filter jobKept
      stack := s.mae.stack.filter jobKept
      primeList := s.mae.primeList.filter fun i => !lostCapture i
      mirrorList := s.mae.mirrorList.filter fun j => !(lost j.index && (mirrorAt s j.index).isSome)
      waits := t.mae.waits
      mirrorWaits := t.mae.mirrorWaits } ∧
    t.bpu = { s.bpu with passOver := t.bpu.passOver } ∧
    (s.mae.running.all jobKept = true → t.bpu.passOver = s.bpu.passOver) ∧
    (∀ g, some g ∈ t.dlf.groups ↔ some g ∈ s.dlf.groups ∧ g.origin = .localLoad) ∧
    t.uq = { s.uq with
      joinSeq := s.uq.joinSeq + 1#8
      records := ((s.uq.records.filter fun r => decide (r.state = .onAir)).map fun r =>
          { r with detached := true, window := none }) ++
        [internalRecord .join 0xF0#8 (s.uq.joinSeq + 1#8) .urgent s.ft.frame []] } ∧
    t.ssu = { s.ssu with grants := [], contention := [] } ∧
    t.ab = { s.ab with credit := s.ab.allowance, restart := true } ∧
    t.ft = s.ft ∧ t.xu = s.xu ∧ t.au = s.au ∧ t.cu = s.cu ∧ t.dlf.recent = s.dlf.recent ∧ t.ram = s.ram)

/-! ### The Memory Access Engine -/

/-- JOB_START is the engine's choice. A pending job of higher rank preempts the running one while the stack holds
fewer than two, and runs; one that found the stack full waits for the running job's end, also where an abandonment
then frees a place; with no job running the highest pending job runs, unless the top of the stack ranks as high, and
then that resumes; with nothing to do the engine is idle. Each kind of job starts at word 0 with its values as R155,
R163 and R165 fix them. A ring job that takes the last free slot drops the INFO messages then first in the queue, and
the ATTENTION job that this makes pending preempts it in the same choice (R155, R156, R158, R160, R162, R163, R165,
R167). That the choice is made again where a job ends as it starts, and is made at the other moments log 29 names, is
the model's reading, and so is which jobs wait at a full stack (log 38). -/
def Obligations.JobChoice : Prop :=
  ∀ before : State,
    let s := elapse 0#32 before
    exec .jobStart before = .next (settleEngine s) ∧
    (EngineReady s →
      (∀ j, (chooseJob s).mae.running = some j →
        (∀ k, highestFree (chooseJob s) = some k → kindRank j.work.kind ≤ kindRank k) ∨
          2 ≤ (chooseJob s).mae.stack.length →
        settleEngine s = chooseJob s) ∧
      (s.mae.running = none → s.mae.stack = [] → highestPending s = none → settleEngine s = s) ∧
      (∀ j, s.mae.running = some j →
        (∀ k, highestFree s = some k → kindRank j.work.kind ≤ kindRank k) ∨ 2 ≤ s.mae.stack.length →
        settleEngine s = s) ∧
      (∀ j i, s.mae.running = some j → 2 ≤ s.mae.stack.length →
        (j.work.isPrimeOf i = false → let t := dropPrime i s
          t.mae.running = some j ∧ (∀ k, k ≠ .prime → isPending t k = isPending s k) ∧ settleEngine t = t) ∧
        (j.work.isMirrorOf i = false → let t := dropMirror i s
          t.mae.running = some j ∧ (∀ k, k ≠ .mirror → isPending t k = isPending s k) ∧ settleEngine t = t)) ∧
      (s.mae.waits = [] → s.mae.mirrorWaits = 0 → highestFree s = highestPending s) ∧
      (∀ j rest, s.mae.running = none → s.mae.stack = j :: rest →
        (∀ k, highestPending s = some k → kindRank j.work.kind ≤ kindRank k) →
        (j.work.kind ≠ .prime → j.work ≠ .status true →
          settleEngine s = { s with mae.running := some j, mae.stack := rest }) ∧
        (∀ i e c n, j.work = .prime i → entryAt s i = some e → e.body = .capture c →
          nextUnprimed c e.length j.done = some n →
          settleEngine s = { s with mae.running := some j, mae.stack := rest }) ∧
        (j.work = .status true → settleEngine s = { s with
          mae.running := some ⟨.status false, 0⟩
          mae.stack := rest
          mae.refresh := s.mae.refresh + 1#16 })) ∧
      (∀ (k : JobKind) (x : State),
        (s.mae.running = none ∧ highestPending s = some k ∧
            (∀ j rest, s.mae.stack = j :: rest → kindRank k < kindRank j.work.kind) ∧ x = s) ∨
          (∃ j, s.mae.running = some j ∧ highestFree s = some k ∧ kindRank k < kindRank j.work.kind ∧
            s.mae.stack.length < 2 ∧ x = { s with mae.stack := j :: s.mae.stack, mae.running := none }) →
        (k = .attention → settleEngine s =
          { x with mae.attention := false, mae.running := some ⟨.attention, 0⟩ }) ∧
        (k = .stop → settleEngine s =
          { x with mae.stop := false, mae.running := some ⟨.stop (stopWords s.au.stop), 0⟩ }) ∧
        (∀ r, k = .result → s.mae.result = some r → settleEngine s =
          { x with mae.result := none, mae.running := some ⟨.result r, 0⟩ }) ∧
        (∀ cls r m rest, k = ringKind cls → s.mae.ring = some r →
          takeStaged cls s.mae.staging = some (m, rest) →
          let t : State := { x with
            mae.staging := rest
            mae.ring := some { r with v := (r.v + 1) % r.slots }
            mae.running := some ⟨.ring cls r.v (recordWords m), 0⟩ }
          let y := staleDropped { r with v := (r.v + 1) % r.slots } t
          settleEngine s =
            if y.mae.attention = true ∧ .attention ∉ s.mae.waits ∧ x.mae.stack.length < 2 then { y with
              mae.attention := false
              mae.stack := ⟨.ring cls r.v (recordWords m), 0⟩ :: x.mae.stack
              mae.running := some ⟨.attention, 0⟩ }
            else y) ∧
        (∀ i rest, k = .mirror → s.mae.mirrorList = .age i :: rest → settleEngine s =
          { x with mae.mirrorList := rest, mae.running := some ⟨.age i, 0⟩ }) ∧
        (∀ i offset words rest e m, k = .mirror → s.mae.mirrorList = .data i offset words :: rest →
          entryAt s i = some e → mirrorAt s i = some m →
          let kept := words.take ((if m.ageWord then e.length - 1 else e.length) - offset)
          kept ≠ [] → settleEngine s = { x with
            mae.mirrorList := rest
            mae.running := some ⟨.mirror i offset kept, 0⟩
            mae.mirrorClamps := if kept.length < words.length then min (s.mae.mirrorClamps + 1) 65535
              else s.mae.mirrorClamps }) ∧
        (k = .status → settleEngine s = { x with
          mae.status := false
          mae.running := some ⟨.status false, 0⟩
          mae.refresh := s.mae.refresh + 1#16 }) ∧
        (∀ i rest c e n, k = .prime → s.mae.primeList = i :: rest → captureAt s i = some c →
          entryAt s i = some e → nextUnprimed c e.length 0 = some n → settleEngine s =
            { x with mae.primeList := rest, mae.running := some ⟨.prime i, 0⟩ })))

/-- MAE_WORD_CYCLE_COMPLETE of a write word of the running job: the word reaches RAM at the address and with the value
of Table 9-2, the Pass-Over Count is 0, and the job goes on at its next word. The first clauses spell those values
out: the Attention Word by the highest class requested and permitted, the Stop Slot and an inbound record word by
word, the Result Area, and the 64 words of the Status Block (R173, Tables 11-2 to 11-6). At the last word the job is
over: STOP is raised unless another STOP job is pending, the Command Unit is IDLE with RESULT raised, the Age is 0.
Then the engine makes its choice, at the word boundary (R12, R155, R157, R163, R165, R173, R178, R184; the choice by
log 29). -/
def Obligations.WordsWritten : Prop :=
  (∀ au : Attention,
    let both := fun (n : Nat) => au.requests.getLsbD n && au.permissions.getLsbD n
    (∀ n < 6, both n = true → (∀ m < n, both m = false) → attentionValue au = BitVec.ofNat 16 (n + 1)) ∧
    ((∀ n < 6, both n = false) → attentionValue au = 0x00FF#16)) ∧
  (∀ st : StopState,
    let kind : Byte := if st.recorded = false then 0#8 else if st.kind = .hold then 1#8 else 2#8
    (stopWords st).length = 32 ∧
    (stopWords st).take 4 = [(st.reason ++ kind : BitVec 16), st.source.setWidth 16,
      (st.frame.setWidth 8 ++ st.seq : BitVec 16), (BitVec.ofNat 8 st.text.length ++ st.zone : BitVec 16)] ∧
    (∀ k < 28, (stopWords st).getD (4 + k) 0#16 =
      (st.text.getD (2 * k + 1) 0#8 ++ st.text.getD (2 * k) 0#8 : BitVec 16))) ∧
  (∀ m : Staged,
    let cls : Byte := if m.cls = .command then 1#8 else 2#8
    (recordWords m).length = 32 ∧
    (recordWords m).take 4 = [(BitVec.ofNat 8 m.payload.length ++ cls : BitVec 16), m.source.setWidth 16,
      (m.frame.setWidth 8 ++ m.seq : BitVec 16), (0#8 ++ m.zone : BitVec 16)] ∧
    (∀ k < 28, (recordWords m).getD (4 + k) 0#16 =
      (m.payload.getD (2 * k + 1) 0#8 ++ m.payload.getD (2 * k) 0#8 : BitVec 16))) ∧
  (∀ (result : ResultCode) (code : Byte) (tag : BitVec 4) (data : List Word),
    resultWords result code tag data = (0#8 ++ code : BitVec 16) ::
      (List.range 6).map (fun k => data.getD k 0#16) ++ [(tag.setWidth 8 ++ resultByte result : BitVec 16)]) ∧
  (∀ s : State,
    let bytes := fun (high low : Byte) => (high ++ low : BitVec 16)
    let byte := fun (n : Nat) => BitVec.ofNat 8 n
    let number := fun (n : Nat) => BitVec.ofNat 16 n
    let lock : Byte := match s.ft.lock with
      | .search => 0#8
      | .acquire => 1#8
      | .locked => 2#8
      | .holdover => 3#8
    let primary : Byte :=
      if s.xu.linkA.role = .primary then 0#8 else if s.xu.linkB.role = .primary then 1#8 else 0xFF#8
    let state := fun (k : LinkState) =>
      (match k.condition with
        | .ready => 0
        | .tuning => 1
        | .txFault => 2
        | .portFault => 3) +
      4 * (match k.role with
        | .primary => 0
        | .standby => 1
        | .off => 2)
    let average := fun (k : LinkState) => match k.role with
      | .primary => k.a8
      | .standby => ((s.xu.dwell.bind fun d => s.xu.neighbours.find? fun n => decide (n.zone = d.zone)).map
          Neighbour.a8).getD 0
      | .off => 0
    let covered := (List.range 127).filter fun k =>
      s.ssu.grants.any fun g => decide (g.first ≤ k ∧ k < g.first + g.count)
    let stored := (((s.wt.filterMap id).filter fun e => e.body.isCapture).map Entry.length).sum
    let counters := [s.bpu.guardViolations, s.ftu.gatedTriggers, s.uq.superseded, s.uq.queueDrops,
      s.uq.strayAcks, s.uq.undelivered, s.ft.coChannel, s.ft.renumbers, s.ssu.unusedGrants, s.ssu.oversizeWaits,
      s.ab.overrun, s.xu.crossovers, s.dlf.downlinkErrors, s.dlf.foreignDownlinks, s.dlf.truncations,
      s.dlf.duplicates, s.dlf.mirrorMisses, s.mae.stagingDrops, s.mae.ringOverflows, s.mae.indexFaults,
      s.mae.mirrorClamps, s.mae.mirrorDrops, s.cu.overruns]
    statusWord s 0 = s.mae.refresh ∧ statusWord s 63 = s.mae.refresh ∧
    statusWord s 1 = bytes lock (if s.passOnly then 1#8 else 0#8) ∧
    statusWord s 2 = bytes (s.ft.frame.setWidth 8) s.ft.zone ∧
    statusWord s 3 = bytes (byte s.ft.miss) primary ∧
    statusWord s 4 = bytes (s.xu.linkA.channel.setWidth 8) (byte (state s.xu.linkA)) ∧
    statusWord s 5 = bytes (s.xu.linkB.channel.setWidth 8) (byte (state s.xu.linkB)) ∧
    statusWord s 6 = number (average s.xu.linkA) ∧ statusWord s 7 = number (average s.xu.linkB) ∧
    statusWord s 8 = bytes (byte s.ssu.contention.length) (byte s.ssu.grants.length) ∧
    statusWord s 9 = number covered.length ∧ statusWord s 10 = number s.ab.allowance ∧
    statusWord s 11 = BitVec.ofInt 16 s.ab.credit ∧ statusWord s 12 = number s.ab.earnedLatch ∧
    statusWord s 13 = number s.ab.spentLatch ∧ statusWord s 14 = number s.ft.syncErrors ∧
    statusWord s 15 = s.au.causes.setWidth 16 ∧
    statusWord s 16 = number (s.au.stop.held.toNat + 2 * s.au.stop.recorded.toNat + 4 * s.au.accepted.toNat) ∧
    statusWord s 17 = number (1024 - stored) ∧
    statusWord s 18 = bytes (byte s.mae.staging.length) (byte s.uq.records.length) ∧
    (∀ n < 16, (statusWord s 19).getLsbD n = (entryAt s n).isSome ∧
      (statusWord s 20).getLsbD n =
        ((mirrorAt s n).isSome || (captureAt s n).any fun c => decide (c.state = .active))) ∧
    (∀ k < 23, statusWord s (21 + k) = number (counters.getD k 0)) ∧
    (∀ k, 44 ≤ k → k ≤ 62 → statusWord s k = 0#16)) ∧
  ∀ (j : Job) (b : BusWord) (v : Word) (before : State),
    let s := elapse 0#32 before
    let at_ := fun (k : Nat) => s.bpu.base + 2 * k
    EngineReady s → s.mae.running = some j → jobWord s j = some b → b.value = some v →
    ∃ t, exec .maeWordCycleComplete before = .next (settle t) ∧
      let goesOn := t.mae.running = some { j with done := j.done + 1 }
      t.ram = writeWord s.ram b.addr v ∧ t.bpu = { s.bpu with passOver := 0 } ∧
      t.mae.stack = s.mae.stack ∧
      t.ft = s.ft ∧ t.uq = s.uq ∧ t.ssu = s.ssu ∧ t.ab = s.ab ∧ t.xu = s.xu ∧ t.dlf = s.dlf ∧
      t.ftu = s.ftu ∧ t.au.causes = s.au.causes ∧ t.au.stop = s.au.stop ∧
      (j.work = .attention →
        (j.done = 0 → b.addr = at_ 32 ∧ v = attentionValue s.au ∧ t.au.deposited = v ∧ goesOn) ∧
        (j.done = 1 → b.addr = at_ 33 ∧ v = s.au.requests.setWidth 16 ∧ t.mae.running = none)) ∧
      (∀ words, j.work = .stop words → b.addr = at_ (64 + j.done) ∧ v = words.getD j.done 0#16 ∧
        (j.done + 1 < words.length → goesOn ∧ t.au = s.au) ∧
        (words.length ≤ j.done + 1 → t.mae.running = none ∧ t.au.requests =
          (if s.mae.stop = true then s.au.requests else s.au.requests ||| requestBit .stop))) ∧
      (∀ r, j.work = .result r →
        let n := if r.publish then j.done - 1 else j.done
        let last := if r.publish then r.words.length else r.words.length - 1
        (r.publish = true → j.done = 0 → b.addr = at_ 34 ∧ v = 0#16 ∧ t.mae.publication = false) ∧
        (r.publish = false ∨ 0 < j.done →
          b.addr = at_ (if n = 7 then 16 else 17 + n) ∧ v = r.words.getD n 0#16) ∧
        (j.done < last → goesOn ∧ t.cu = s.cu) ∧
        (last ≤ j.done → t.mae.running = none ∧ t.cu.state = .idle ∧
          t.au.requests = s.au.requests ||| requestBit .result)) ∧
      (∀ cls slot words ring, j.work = .ring cls slot words → s.mae.ring = some ring → j.done < 31 →
        b.addr = ring.base + 64 * slot + 2 * j.done ∧ v = words.getD j.done 0#16 ∧ goesOn ∧
        t.mae.ring = s.mae.ring ∧ t.au = s.au) ∧
      (∀ i offset words e, j.work = .mirror i offset words → entryAt s i = some e →
        b.addr = e.base + 2 * (offset + j.done) ∧ v = words.getD j.done 0#16 ∧
        (j.done + 1 < words.length → goesOn ∧ t.wt = s.wt) ∧
        (words.length ≤ j.done + 1 → t.mae.running = none ∧ ∀ m, mirrorAt s i = some m →
          mirrorAt t i = some { m with age := 0, staleReported := false } ∧
          (m.ageWord = true → s.mae.mirrorList.length < 8 → .age i ∈ t.mae.mirrorList))) ∧
      (∀ i, j.work = .age i → t.mae.running = none ∧ t.wt = s.wt ∧ t.au = s.au ∧
        ∀ e m, entryAt s i = some e → mirrorAt s i = some m →
          b.addr = e.base + 2 * (e.length - 1) ∧ v = word m.age) ∧
      (∀ r, j.work = .status r → b.addr = at_ (96 + j.done) ∧ v = statusWord s j.done ∧
        (j.done < 63 → goesOn) ∧ (63 ≤ j.done → t.mae.running = none) ∧ t.au = s.au)

/-- The end of an inbound record. Its last word sends a record in slot W on to the index word and leaves any
other record finished and unpublished, W unmoved. The index word moves W past this slot, and past the next where
that record is finished, and raises each published record's request. Then the engine makes its choice (R163; the
choice by log 29). -/
def Obligations.RingPublished : Prop :=
  ∀ (cls : RingClass) (slot : Nat) (words : List Word) (r : Ring) (before : State),
    let s := elapse 0#32 before
    EngineReady s → r.Ok → s.mae.ring = some r →
    let w1 := (r.w + 1) % r.slots
    let indexed := fun (w : Nat) => writeWord s.ram (s.bpu.base + 68) (word w)
    let gives := fun (t : State) => exec .maeWordCycleComplete before = .next (settle t)
    (s.mae.running = some ⟨.ring cls slot words, 31⟩ → ∃ t, gives t ∧
      t.ram = writeWord s.ram (r.base + 64 * slot + 62) (words.getD 31 0#16) ∧ t.mae.ring = some r ∧
      t.au = s.au ∧ t.cu = s.cu ∧
      (slot = r.w → t.mae.running = some ⟨.ring cls slot words, 32⟩ ∧
        t.mae.unpublished = s.mae.unpublished) ∧
      (slot ≠ r.w → t.mae.running = none ∧ t.mae.unpublished = some (slot, cls))) ∧
    (s.mae.running = some ⟨.ring cls slot words, 32⟩ →
      ((∀ c, s.mae.unpublished ≠ some (w1, c)) → ∃ t, gives t ∧
        t.ram = indexed w1 ∧ t.mae.running = none ∧ t.mae.ring = some { r with w := w1 } ∧
        t.mae.unpublished = s.mae.unpublished ∧ t.cu = s.cu ∧
        t.au.requests = s.au.requests ||| requestBit (ringRequest cls)) ∧
      (∀ c, s.mae.unpublished = some (w1, c) → ∃ t, gives t ∧
        t.ram = indexed ((w1 + 1) % r.slots) ∧ t.mae.running = none ∧
        t.mae.ring = some { r with w := (w1 + 1) % r.slots } ∧ t.mae.unpublished = none ∧ t.cu = s.cu ∧
        t.au.requests = s.au.requests ||| requestBit (ringRequest cls) ||| requestBit (ringRequest c)))

/-- PRIME_READ: the word read fills the unprimed bytes of the lowest unprimed word at or above the job's offset and no
other byte; with every byte primed the entry is ACTIVE, the job ends, every rule on the window is evaluated, each rise
fires the RISE entries on its flag, and a pending trigger is cleared and fires through its gate, in the escalated
class while the pass left its escalate flag true; else the job goes on above the word read while an unprimed word
remains there, and nothing else changes. RAM is not written. Then the engine makes its choice (R30, R33, R44, R49 to
R52). The model's own part of it: the moment of the choice (log 29), the notes of waiting jobs (log 38), and that a
word which a processor write has primed whole is not read, though its read was ready (log 44). -/
def Obligations.PrimeFills : Prop :=
  ∀ (i n k : Nat) (e : Entry) (c : Capture) (before : State),
    let s := elapse 0#32 before
    EngineReady s → s.mae.running = some ⟨.prime i, n⟩ → entryAt s i = some e → e.body = .capture c →
    c.state = .loading → nextUnprimed c e.length n = some k →
    let v := readWord s.ram (e.base + 2 * k)
    ∃ t image, exec .primeRead before = .next (settle t) ∧ t.ram = s.ram ∧ image.length = c.image.length ∧
      (∀ x, image[x]? =
        if c.image[x]? = some none ∧ x = 2 * k then some (some (loByte v))
        else if c.image[x]? = some none ∧ x = 2 * k + 1 then some (some (hiByte v))
        else c.image[x]?) ∧
      let d := { c with image := image }
      let filled : State := { s with
        wt := s.wt.set i (some { e with body := .capture d })
        bpu.passOver := 0
        mae.running := some ⟨.prime i, k + 1⟩ }
      (image.all Option.isSome = true → PrimedTo i filled t) ∧
      (image.all Option.isSome = false →
        (nextUnprimed d e.length (k + 1) ≠ none → t = filled) ∧
        (nextUnprimed d e.length (k + 1) = none → t.mae.running = none ∧ t.wt = filled.wt ∧ t.uq = s.uq ∧
          t.ftu = s.ftu))

/-! ### Frame starts and slots -/

/-- The passing of time while the engine has nothing to do, and FRAME_START with no crossover. Ticks that pass with
nothing due are counted; a frame start that falls due among them occurs at Fn, or at once where Fn is past, and the
start of slot 0 follows it. FRAME_START at Fn gives the frame's start, number, period, slots and length, the credit
and its latches, the grants beyond the S of the frame so begun and a STATUS request. Each mirror age goes up; one that
reaches its limit is reported once and raises MIRROR_STALE with FAULT, no other cause but QUEUE_DROP is raised, and
the age jobs of the windows with an age word are listed in ascending window, none twice and none beyond eight. Each
PERIOD entry counts and at its count fires, a pending trigger in a LOADING entry or under VRST, else, unless it is
changed-only and not dirty, through its gate to a snapshot, the records offered in ascending window. A pending forced
request gets NO_CANDIDATE; the dwell counts its frame, at eight goes on to the next eligible entry, and without a
dwell the links are untouched (R34, R48, R78, R79, R81, R104, R115, R127, R131, R165, R166, R176). The model's own
part of it: in a passing of time an event due just at its end has not occurred, of the events of one tick the frame
start occurs first (log 1), a word on the bus does not complete as time passes (log 48), and a watch close that waits
as the dwell goes on to another entry does not occur (log 51). -/
def Obligations.FrameStarts : Prop :=
  (∀ (dt : Tick) (s : State), s.porn = true → EngineQuiet s →
    ((∀ e ∈ events s, ∀ at_, dueTick s e = some at_ → (dt.toNat : Int) ≤ tickDiff at_ s.ft.tick) →
      elapse dt s = { s with ft.tick := s.ft.tick + dt }) ∧
    (∀ fn, s.ft.lock ≠ .search → s.ft.next = some fn → tickDiff fn s.ft.tick < dt.toNat →
      (∀ e ∈ events s, ∀ at_, dueTick s e = some at_ → tickDiff fn s.ft.tick ≤ tickDiff at_ s.ft.tick) →
      let x := frameStartAt fn { s with ft.tick := if 0 < tickDiff fn s.ft.tick then fn else s.ft.tick }
      let y := slotStartAt 0#6 x
      let rest := dt.toNat - max 0 (tickDiff fn s.ft.tick)
      EngineQuiet x → slotDue x 0 = some fn →
      (∀ e ∈ events x, e ≠ .slotStart 0#6 → ∀ at_, dueTick x e = some at_ → rest ≤ tickDiff at_ x.ft.tick) →
      EngineQuiet y →
      (∀ e ∈ events y, ∀ at_, dueTick y e = some at_ → rest ≤ tickDiff at_ y.ft.tick) →
      elapse dt s = { y with ft.tick := s.ft.tick + dt })) ∧
  (∀ (fn : Tick) (before : State),
    let s := reachEvent .frameStart before
    s.ft.next = some fn → s.ft.lock ≠ .search → tickDiff fn s.ft.tick ≤ 0 →
    (∀ l d n, (linkOf s l).role = .standby → s.xu.dwell = some d → d.heard = true → dwelt s = some n →
      let p := linkOf s (otherLink l)
      s.xu.forcedCommand = false ∧ s.xu.forcedProvision = none ∧ p.condition ≠ .txFault ∧
        p.condition ≠ .portFault ∧
        ¬((linkOf s l).condition = .ready ∧ 4 ≤ n.good ∧ p.a8 + 8 * s.xu.margin ≤ n.a8)) →
    let f := s.ft
    let stale := fun (m : Mirror) =>
      decide (m.staleLimit ≠ 0) && decide (m.staleLimit ≤ min 255 (m.age + 1)) && !m.staleReported
    let reported := (List.range 16).any fun i => (mirrorAt s i).any stale
    let begun := match f.layout with
      | some y => if y.skip = 0 then y.slots else f.slots
      | none => f.slots
    let beyond := ((List.range 127).filter fun k => decide (begun ≤ k) &&
      s.ssu.grants.any fun g => decide (g.first ≤ k ∧ k < g.first + g.count)).length
    let fires := fun (c : Capture) (n : Nat) => decide (n ≤ c.periodCount + 1) &&
      !(decide (c.state = .active) && !s.vrst && c.changedOnly && !c.dirty)
    let waits := fun (c : Capture) => decide (c.state = .loading) || s.vrst
    let opened := fun (c : Capture) => c.gate.all fun g => conditionFlag s.ftu.flags g.flag == g.sense
    let snapped := fun (c : Capture) (n : Nat) => fires c n && !waits c && opened c
    let windows := fun (p : Capture → Nat → Bool) => (List.range 16).filter fun i =>
      (captureAt s i).any fun c => match c.mode with
        | .period n => p c n
        | .last | .word _ | .after _ | .rise _ => false
    let closed := (windows fun c n => fires c n && !waits c && !opened c).length
    let answered := fun (q : UplinkQueue) (frame : BitVec 6) => match s.xu.forcedProvision with
      | some seq => (offerTo q (internalRecord .provisionReply 0xF2#8 seq .routine frame [10#8])).1
      | none => q
    ∃ t, exec .frameStart before = .next t ∧
      t.ft.start = fn ∧ t.ft.next = some (fn + BitVec.ofNat 32 t.ft.period) ∧
      t.ft.slotLength = t.ft.period / t.ft.slots ∧
      (∀ n, f.pendingFrame = some n → t.ft.frame = n) ∧
      (f.pendingFrame = none → t.ft.frame = f.frame + 1#6) ∧ t.ft.pendingFrame = none ∧
      (f.layout = none → t.ft.period = f.period ∧ t.ft.slots = f.slots ∧ t.ft.layout = none) ∧
      (∀ y, f.layout = some y → y.skip = 0 →
        t.ft.period = y.period ∧ t.ft.slots = y.slots ∧ t.ft.layout = none) ∧
      (∀ y, f.layout = some y → 0 < y.skip → t.ft.period = f.period ∧ t.ft.slots = f.slots ∧
        t.ft.layout = some { y with skip := y.skip - 1 }) ∧
      t.ft.tick = f.tick ∧ t.ft.nextSlot = 0 ∧
      t.ft.lock = f.lock ∧ t.ft.zone = f.zone ∧ t.ft.good = f.good ∧ t.ft.miss = f.miss ∧
      t.ab = { s.ab with
        earnedLatch := s.ab.allowance, spentLatch := s.ab.spent, spent := 0
        credit := min (s.ab.credit + s.ab.allowance) (8 * s.ab.allowance) } ∧
      (∀ i < 16, ∀ m, mirrorAt s i = some m → mirrorAt t i = some { m with
        age := min 255 (m.age + 1), staleReported := m.staleReported || stale m }) ∧
      t.au.causes ||| causeBit .queueDrop =
        s.au.causes ||| causeBit .queueDrop ||| (if reported then causeBit .mirrorStale else 0#8) ∧
      (reported = true → t.au.requests &&& requestBit .fault ≠ 0#6) ∧
      t.mae.mirrorList = (List.range 16).foldl (fun js i =>
        if (mirrorAt s i).any Mirror.ageWord && !decide (.age i ∈ js) && decide (js.length < 8) then js ++ [.age i]
        else js) s.mae.mirrorList ∧
      (∀ i < 16, ∀ c, captureAt s i = some c →
        (∀ n, c.mode = .period n → captureAt t i = some { c with
          periodCount := if c.periodCount + 1 < n then c.periodCount + 1 else 0
          triggerPending := c.triggerPending || (fires c n && waits c)
          seq := if snapped c n then c.seq + 1#8 else c.seq
          dirty := c.dirty && !snapped c n }) ∧
        ((∀ n, c.mode ≠ .period n) → captureAt t i = some c)) ∧
      t.ftu = { s.ftu with gatedTriggers :=
        if closed = 0 then s.ftu.gatedTriggers else min (s.ftu.gatedTriggers + closed) 65535 } ∧
      t.uq = answered ((windows snapped).foldl (fun q i =>
        match entryAt s i, captureAt s i with
        | some e, some c => (offerTo q (windowRecord i e.tag s.ftu.flags t.ft.frame c)).1
        | _, _ => q) s.uq) t.ft.frame ∧
      t.ssu = { s.ssu with unusedGrants := min (s.ssu.unusedGrants + beyond) 65535 } ∧
      (t.mae.status = true ∨ ∃ j ∈ t.mae.stack, j.work = .status true) ∧
      t.ram = s.ram ∧ t.dlf = s.dlf ∧
      (s.xu.forcedCommand = false → t.cu = s.cu ∧ t.mae.result = s.mae.result) ∧
      (∀ code tag, s.xu.forcedCommand = true → s.cu.state = .waiting code tag .crossover →
        t.cu = { s.cu with state := .executing code tag } ∧
        t.mae.result = some ⟨s.mae.publication, resultWords .noCandidate code tag []⟩) ∧
      (s.xu.dwell = none → t.xu = { s.xu with forcedCommand := false, forcedProvision := none }) ∧
      (∀ l d, RolesOk s → (linkOf s l).role = .standby → s.xu.dwell = some d →
        (linkOf s l).condition = .ready ∨ (linkOf s l).condition = .tuning → DwellCounted l d s t))

/-- FRAME_START with a qualified STANDBY link on entry `n`: a forced request, a faulted PRIMARY, or the ordinary
conditions cross over to it. The roles swap, the timing is seeded from the Dwell Beacon at A - C and advanced by whole
periods with the frame number, a window of the coming frame whose opening is then due or past opens at once, the lock
state follows the entry's good count, with a Sync Error Count of 0 where it is LOCKED, the grants are gone, every
AWAIT_ACK record has returned, and a new JOIN and the LINK request are made; a pending FORCE CROSSOVER gets DONE as
its result and a pending provisioning operation DONE as its reply, which joins behind the JOIN; and the new STANDBY
link, unless it is faulted, starts a dwell on the first eligible entry. Otherwise the roles stay and the dwell counts
its frame, and after eight goes on to the next eligible entry in table order, from the last back to the first (R74,
R79, R83, R90, R93, R127, R130 to R133, R152). The model's own part of it: the decision comes before the dwell's
count, so that a dwell can cross over at its eighth frame start (log 13), the new JOIN waits with an empty payload
(log 30), the seed is advanced wherever the end of its frame is not after the tick (log 49), and a watch close that
waits as the dwell ends or goes on to another entry does not occur (log 51). -/
def Obligations.CrossoverDecided : Prop :=
  ∀ (fn : Tick) (l : Link) (d : Dwell) (n : Neighbour) (b : DwellBeacon) (a : Tick) (before : State),
    let s := reachEvent .frameStart before
    s.ft.next = some fn → s.ft.lock ≠ .search → tickDiff fn s.ft.tick ≤ 0 → RolesOk s →
    (linkOf s l).role = .standby → (linkOf s l).condition = .ready ∨ (linkOf s l).condition = .tuning →
    s.xu.dwell = some d → d.heard = true → dwelt s = some n → s.xu.dwellBeacon = some b →
    n.lastArrival = some a →
    let p := linkOf s (otherLink l)
    let forced := s.xu.forcedCommand = true ∨ s.xu.forcedProvision ≠ none
    let faulted := p.condition = .txFault ∨ p.condition = .portFault
    let ordinary := (linkOf s l).condition = .ready ∧ 4 ≤ n.good ∧ p.a8 + 8 * s.xu.margin ≤ n.a8
    let seed := a - BitVec.ofNat 32 s.ft.timing.comp
    let ahead := (s.ft.tick - seed).toInt
    let periods := if ahead < 0 then 0 else ahead.toNat / b.period
    (forced ∨ faulted ∨ ordinary → ∃ t, exec .frameStart before = .next t ∧
      (linkOf t l).role = .primary ∧ (linkOf t l).a8 = n.a8 ∧ (linkOf t (otherLink l)).role = .standby ∧
      t.ft.start = seed + BitVec.ofNat 32 (periods * b.period) ∧
      t.ft.frame = b.frame + BitVec.ofNat 6 periods ∧
      t.ft.zone = n.zone ∧ t.ft.period = b.period ∧ t.ft.slots = b.slots ∧
      t.ft.slotLength = b.period / b.slots ∧
      t.ft.next = some (t.ft.start + BitVec.ofNat 32 b.period) ∧
      t.ft.window = openedAtOnce s.ft.tick (t.ft.start + BitVec.ofNat 32 b.period) s.ft.timing.comp
        (if 3 ≤ n.good then 500 else 2000) ∧
      t.ft.lock = (if 3 ≤ n.good then .locked else .acquire) ∧
      t.ft.good = (if 3 ≤ n.good then 0 else n.good) ∧ t.ft.miss = 0 ∧
      t.ft.syncErrors = (if 3 ≤ n.good then 0 else s.ft.syncErrors) ∧
      t.ssu.grants = [] ∧ t.ssu.contention = [] ∧ t.uq.joinSeq = s.uq.joinSeq + 1#8 ∧
      (∀ r ∈ t.uq.records, r.awaits = false) ∧
      (s.ssu.burst = none → Apart s.uq.records →
        (∀ i < 16, ∀ c, captureAt s i = some c → ∀ k, c.mode ≠ .period k) →
        (∀ r ∈ returned s.uq.records, r.kind = .join → r.state ≠ .queued) →
        (returned s.uq.records).length < 24 →
        let joined := returned s.uq.records ++
          [internalRecord .join 0xF0#8 (s.uq.joinSeq + 1#8) .urgent t.ft.frame []]
        t.uq.records = match s.xu.forcedProvision with
          | none => joined
          | some seq => (offerTo { s.uq with records := joined }
              (internalRecord .provisionReply 0xF2#8 seq .routine t.ft.frame [0#8])).1.records) ∧
      (∀ code tag, s.xu.forcedCommand = true → s.cu.state = .waiting code tag .crossover →
        t.cu = { s.cu with state := .executing code tag } ∧
        t.mae.result = some ⟨s.mae.publication, resultWords .done code tag []⟩) ∧
      (s.ssu.burst = none →
        let left := { p with role := .standby, a8 := 0 }
        (s.xu.forcedCommand = false → t.cu = s.cu ∧ t.mae.result = s.mae.result) ∧
        (∀ x, ¬faulted → s.xu.neighbours.find? (fun y => decide (y.zone ≠ n.zone)) = some x →
          DwellStarted (otherLink l) left x
            (putLink l { linkOf s l with role := .primary, a8 := n.a8 } s) t) ∧
        (faulted ∨ (∀ y ∈ s.xu.neighbours, y.zone = n.zone) →
          t.xu.dwell = none ∧ t.xu.watch = none ∧ t.xu.dwellBeacon = none ∧
          t.xu.neighbours = s.xu.neighbours ∧ linkOf t (otherLink l) = left ∧
          linkOf t l = { linkOf s l with role := .primary, a8 := n.a8 })) ∧
      t.au.requests &&& requestBit .link ≠ 0#6 ∧
      t.xu.crossovers = min (s.xu.crossovers + 1) 65535 ∧
      t.xu.forcedCommand = false ∧ t.xu.forcedProvision = none ∧ t.ram = s.ram) ∧
    (¬forced → ¬faulted → ¬ordinary → ∃ t, exec .frameStart before = .next t ∧
      (∀ k, (linkOf t k).role = (linkOf s k).role) ∧ t.xu.crossovers = s.xu.crossovers ∧
      t.ft.zone = s.ft.zone ∧ t.ft.lock = s.ft.lock ∧ t.uq.joinSeq = s.uq.joinSeq ∧ DwellCounted l d s t)

/-- SLOT_START of slot `k`, due and not yet served. A slot no list covers sends nothing. A granted slot that is not
usable is counted, with a burst in flight or not. In a usable granted slot the QUEUED and eligible records are taken
URGENT by age, ROUTINE and BULK in list order; each that fits the Capacity and passes the credit test joins the
burst, and one that no empty burst could hold is marked and counted oversize; the chosen records go ON_AIR, the SEND
carries exactly the burst's bytes, at most the Capacity, and its key and expiry ticks follow the slot's start; with
none chosen nothing is sent. A contention slot, with no grant held and in the car's turn, is served alike for the
QUEUED JOIN alone (R60, R65, R103 to R109, Table 11-7). The model's own part of it: a record's header holds its
attempts after they are counted (log 14), a slot start already past when its frame began at once is late and prepares
nothing (log 17), and neither does one with a burst in flight, uncounted (log 26). -/
def Obligations.SlotServed : Prop :=
  (∀ (k : BitVec 6) (fn : Tick) (before : State),
    let s := reachEvent (.slotStart k) before
    let f := s.ft
    let start := f.start + BitVec.ofNat 32 (k.toNat * f.slotLength)
    let fixed := f.timing.lead + f.timing.keyGuard + f.timing.overhead
    let cap := if f.slotLength ≤ fixed then 0 else min 255 ((f.slotLength - fixed) / f.timing.byteTime)
    let u : State := { s with ft.nextSlot := k.toNat + 1 }
    let usable := fun (l : Link) => primaryLink s = some l ∧ (linkOf s l).condition = .ready ∧
      (f.lock = .locked ∨ (f.lock = .holdover ∧ f.miss ≤ 4)) ∧ 2 ≤ k.toNat
    let idle := tickDiff start f.tick < 0 ∨ s.ssu.burst ≠ none
    let pack := fun (p : Packing) (c : Candidate) =>
      let cost := 6 + (sendPayload s c.2).length
      let running : Int := p.packed + cost
      if cap < p.packed + cost then
        if cap < cost + 4 ∧ c.2.oversize = false then { p with oversize := p.oversize ++ [c.1] } else p
      else if s.ab.allowance = 0 ∨ c.2.cls = .urgent ∨ (c.2.cls = .routine ∧ running ≤ s.ab.credit) ∨
          (c.2.cls = .bulk ∧ (s.ab.allowance : Int) ≤ s.ab.credit - running) then
        { p with packed := p.packed + cost, chosen := p.chosen ++ [c.1] }
      else p
    let served := fun (l : Link) (cs : List Candidate) (t : State) =>
      let p := cs.foldl pack ⟨4, [], []⟩
      let marked : State := if p.oversize = [] then u else withCause .oversize { u with
        uq.records := s.uq.records.mapIdx fun i r => if i ∈ p.oversize then { r with oversize := true } else r
        ssu.oversizeWaits := min (s.ssu.oversizeWaits + p.oversize.length) 65535 }
      let aired := marked.uq.records.mapIdx fun i r =>
        if i ∈ p.chosen then
          { r with state := .onAir, attempts := min 4 (r.attempts + 1), payload := sendPayload s r }
        else r
      let head : List Byte := [(3#2 ++ f.frame : BitVec 8), hiByte (s.carid ++ k : BitVec 16),
        loByte (s.carid ++ k : BitVec 16), BitVec.ofNat 8 p.chosen.length]
      let body := (p.chosen.filterMap fun i => aired[i]?).flatMap fun r =>
        [r.tag, r.seq, r.flags, (classCode r.cls ++ r.created : BitVec 8), BitVec.ofNat 8 r.payload.length,
          BitVec.ofNat 8 r.attempts] ++ r.payload
      let burst : Burst :=
        { phase := .prepared, link := l, slotStart := start
          keyTick := start + BitVec.ofNat 32 f.timing.lead
          expiryTick := start + BitVec.ofNat 32 (f.slotLength - f.timing.keyGuard)
          length := p.packed }
      (p.chosen = [] → t = marked) ∧
      (p.chosen ≠ [] → (head ++ body).length = p.packed ∧ p.packed ≤ cap ∧
        t = putLink l { linkOf s l with
            txd := (linkOf s l).txd ++ [0x02#8 :: BitVec.ofNat 8 p.packed :: (head ++ body)] }
          { marked with uq.records := aired, ssu.burst := some burst })
    f.lock ≠ .search → f.next = some fn → tickBefore start fn = true → tickDiff start f.tick ≤ 0 →
    k.toNat < f.slots → f.nextSlot ≤ k.toNat →
    (covers s.ssu.grants k.toNat = false → covers s.ssu.contention k.toNat = false →
      exec (.slotStart k) before = .next u) ∧
    (covers s.ssu.grants k.toNat = true →
      ((∀ l, ¬usable l) → exec (.slotStart k) before =
        .next { u with ssu.unusedGrants := min (s.ssu.unusedGrants + 1) 65535 }) ∧
      (∀ l, usable l →
        (idle → exec (.slotStart k) before = .next u) ∧
        (¬idle → ∃ t, exec (.slotStart k) before = .next t ∧ served l (candidates s) t))) ∧
    (covers s.ssu.grants k.toNat = false → covers s.ssu.contention k.toNat = true →
      (s.ssu.grants ≠ [] ∨ f.frame.toNat % 4 ≠ s.carid.toNat % 4 ∨ (∀ l, ¬usable l) ∨ idle →
        exec (.slotStart k) before = .next u) ∧
      (∀ l, s.ssu.grants = [] → f.frame.toNat % 4 = s.carid.toNat % 4 → usable l → ¬idle →
        ∃ t, exec (.slotStart k) before = .next t ∧
          served l ((candidates s).filter fun c => decide (c.2.kind = .join)) t))) ∧
  (∀ s : State,
    let age := fun (r : Record) => (s.ft.frame - r.created).toNat
    let inFlight := fun (r : Record) => ∃ x ∈ s.uq.records, x.window = r.window ∧ x.state ≠ .queued
    (∀ c : Candidate, c ∈ candidates s ↔ s.uq.records[c.1]? = some c.2 ∧ c.2.state = .queued ∧
      (c.2.kind = .window → ¬inFlight c.2)) ∧
    (candidates s).Pairwise fun c d =>
      (c.2.cls = .urgent ∧ d.2.cls ≠ .urgent) ∨ (c.2.cls = .routine ∧ d.2.cls = .bulk) ∨
      (c.2.cls = .urgent ∧ d.2.cls = .urgent ∧
        (age d.2 < age c.2 ∨ (age d.2 = age c.2 ∧ c.1 < d.1))) ∨
      (c.2.cls = d.2.cls ∧ c.2.cls ≠ .urgent ∧ c.1 < d.1))

/-- KEY_ASSERTION, SENT and KEY_GUARD_EXPIRY. The key needs a PRIMARY, READY link and charges the burst's bytes, Q
stopping at -4K with the rest counted as overrun; else the burst is abandoned uncharged. A SENT report completes the
KEYED burst record by record and clears the transmit faults; one from a link on which no burst is KEYED, with a
PREPARED burst there, another link's burst or none at all, does nothing. The expiry abandons it and counts a transmit
fault, the third in a row giving TX-FAULT and LINK_FAULT. At either end a held next channel is sent if the link is
READY then, and is held on if not. The records of an abandoned burst return to QUEUED, unless they are detached,
acknowledged, or a newer record waits in their place. KEYA and KEYB are asserted exactly while a KEYED burst is on
their link (R66, R67, R110 to R114, R121, R122). The model's own part of it: KEY_ASSERTION of a burst already KEYED
has no effect, not even on the Tick Counter (log 8), and a next channel that the burst's end finds on a link that is
not READY, the third fault's TX-FAULT included, is held on (log 50). -/
def Obligations.BurstKeyed : Prop :=
  let tuned := fun (k : LinkState) (ch : BitVec 4) (faults : Nat) (tick : Tick) => { k with
    channel := ch, condition := .tuning, held := none, nextChannel := none, tuneExpiry := some (tick + 20000#32)
    txFaults := faults, txd := k.txd ++ [[0x01#8, ch.setWidth 8]] }
  (∀ (s : State) (l : Link), s.key l = true ↔ ∃ b, s.ssu.burst = some b ∧ b.phase = .keyed ∧ b.link = l) ∧
  (∀ (b : Burst) (before : State),
    let s := reachEvent .key before
    s.ssu.burst = some b → b.phase = .prepared → tickDiff b.keyTick s.ft.tick ≤ 0 →
    let k := linkOf s b.link
    let q := s.ab.credit - b.length
    let floor : Int := -4 * s.ab.allowance
    (k.role = .primary → k.condition = .ready → exec .keyAssertion before = .next { s with
      ssu.burst := some { b with phase := .keyed }
      ab := { s.ab with
        spent := min (s.ab.spent + b.length) 65535
        credit := if s.ab.allowance = 0 then s.ab.credit else max floor q
        overrun := if s.ab.allowance ≠ 0 ∧ q < floor
          then min (s.ab.overrun + (floor - q).toNat) 65535 else s.ab.overrun } }) ∧
    (k.role ≠ .primary ∨ k.condition ≠ .ready → ∃ t, exec .keyAssertion before = .next t ∧
      t.ssu.burst = none ∧ t.ft.tick = s.ft.tick ∧ t.ab = s.ab ∧ t.wt = s.wt ∧ t.ram = s.ram ∧
      (linkOf t b.link).txFaults = k.txFaults ∧ (∀ r ∈ t.uq.records, r.state ≠ .onAir) ∧
      (Apart s.uq.records → t.uq.records = abandoned s.uq.records))) ∧
  (∀ (b : Burst) (before : State), before.ssu.burst = some b → b.phase = .keyed →
    exec .keyAssertion before = .next before) ∧
  (∀ (dt : Tick) (b : Burst) (before : State),
    let s := elapse dt before
    let k := linkOf s b.link
    let done : UplinkQueue := { s.uq with
      superseded := min s.uq.superseded 65535, undelivered := min s.uq.undelivered 65535
      records := s.uq.records.filterMap fun r =>
        if r.state ≠ .onAir then some r
        else if r.detached = true ∨ r.ackedOnAir = true ∨ r.kind = .join ∨ r.cls ≠ .urgent then none
        else some { r with state := .awaitAck (s.ft.frame + 2#6) } }
    s.ssu.burst = some b → b.phase = .keyed → PortReady b.link s →
    (k.nextChannel = none ∨ k.condition ≠ .ready → exec (.sent dt b.link) before =
      .next (putLink b.link { k with txFaults := 0 } { s with ssu.burst := none, uq := done })) ∧
    (∀ ch, k.nextChannel = some ch → k.condition = .ready → ∃ t, exec (.sent dt b.link) before = .next t ∧
      linkOf t b.link = tuned k ch 0 s.ft.tick ∧ linkOf t (otherLink b.link) = linkOf s (otherLink b.link) ∧
      t.ssu = { s.ssu with burst := none } ∧ t.uq = done ∧ t.ft.tick = s.ft.tick ∧ t.ab = s.ab ∧ t.wt = s.wt ∧
      t.ram = s.ram ∧ t.mae = s.mae ∧ t.au = s.au)) ∧
  (∀ (dt : Tick) (l : Link) (before : State),
    let s := elapse dt before
    (∀ b, s.ssu.burst = some b → b.phase = .keyed → b.link ≠ l) → exec (.sent dt l) before = .next s) ∧
  (∀ (b : Burst) (before : State),
    let s := reachEvent .keyGuard before
    let k := linkOf s b.link
    s.ssu.burst = some b → b.phase = .keyed → tickDiff b.expiryTick s.ft.tick ≤ 0 →
    ∃ t, exec .keyGuardExpiry before = .next t ∧ t.ssu.burst = none ∧ t.ft.tick = s.ft.tick ∧
      (linkOf t b.link).txFaults = min 3 (k.txFaults + 1) ∧
      (k.condition = .ready → 2 ≤ k.txFaults → (linkOf t b.link).condition = .txFault ∧
        t.au.causes &&& causeBit .linkFault ≠ 0#8 ∧ t.au.requests &&& requestBit .fault ≠ 0#6) ∧
      (k.condition ≠ .ready → (linkOf t b.link).condition = k.condition) ∧
      (k.condition ≠ .ready ∨ 2 ≤ k.txFaults → (linkOf t b.link).nextChannel = k.nextChannel) ∧
      (k.condition = .ready → k.txFaults < 2 →
        (k.nextChannel = none → (linkOf t b.link).condition = .ready) ∧
        (∀ ch, k.nextChannel = some ch → linkOf t b.link = tuned k ch (k.txFaults + 1) s.ft.tick)) ∧
      (∀ r ∈ t.uq.records, r.state ≠ .onAir) ∧
      (Apart s.uq.records → t.uq.records = abandoned s.uq.records ∧
        t.uq.superseded = min 65535 (s.uq.superseded + (s.uq.records.filter fun r => r.isOnAir &&
          !r.detached && !r.ackedOnAir && decide (placeTaken s.uq.records r)).length)) ∧
      t.ab = s.ab ∧ t.wt = s.wt ∧ t.ram = s.ram)

/-! ### Windows of time -/

/-- BEACON_WINDOW_OPEN, BEACON_WINDOW_CLOSE and CLOSE_WAIT_TIMEOUT. The window opens around T0 + C with the half width
of the lock state. A close waits while an arrival within it is unpaired. When it occurs the PRIMARY link's A8 takes
the quality or 0; the due AWAIT_ACK records return, are superseded by a newer record, or, selected four times, are
undelivered; a JOIN is created where there is neither a grant nor a JOIN; and a window without a taken beacon is a
miss: LOCKED goes to HOLDOVER, the eighth miss of HOLDOVER and the fourth of ACQUIRE to SEARCH, which leaves no record
AWAIT_ACK (R69 to R71, R74, R77, R83, R84, R92 to R94, R123, Table 5-4). The model's own part of it: a close whose
wait has ended is the next BEACON_WINDOW_CLOSE (log 9), a close row while the close waits, or a timeout row while none
waits, has no effect (log 8), also where the tick the close waits for has been replaced (log 52), and the new JOIN
waits with an empty payload (log 30). -/
def Obligations.BeaconWindows : Prop :=
  (∀ before : State,
    let s := reachEvent .windowOpen before
    s.ft.lock ≠ .search → s.ft.window = none →
    let half := match s.ft.lock with
      | .locked => 500
      | .holdover => min (500 + 250 * s.ft.miss) 2000
      | .acquire => 2000
      | .search => 0
    let opened := fun (t0 : Tick) (begun : Bool) =>
      let e := t0 + BitVec.ofNat 32 s.ft.timing.comp
      tickDiff (e - BitVec.ofNat 32 half) s.ft.tick ≤ 0 →
      exec .beaconWindowOpen before = .next { s with
        ft.window := some ⟨e, half, s.ft.timing.comp, false, 0, begun, .notWaiting⟩
        ft.windowOpened := begun || s.ft.windowOpened }
    (s.ft.windowOpened = false → opened s.ft.start true) ∧
    (∀ fn, s.ft.windowOpened = true → s.ft.next = some fn → opened fn false)) ∧
  (∀ (w : BeaconWindow) (before : State),
    let s := reachEvent .windowClose before
    s.ft.window = some w → w.wait = .notWaiting → arrivalPending w s = true →
    tickDiff (w.expected + BitVec.ofNat 32 w.half) s.ft.tick ≤ 0 →
    exec .beaconWindowClose before = .next { s with ft.window := some { w with wait := .waiting } }) ∧
  (∀ (w : BeaconWindow) (before : State), before.ft.window = some w →
    (w.wait = .waiting → exec .beaconWindowClose before = .next before) ∧
    (w.wait ≠ .waiting → exec .closeWaitTimeout before = .next before)) ∧
  (∀ (c : Instr) (w : BeaconWindow) (before s : State), s.ft.window = some w →
    (c = .beaconWindowClose ∧ s = reachEvent .windowClose before ∧
        ((w.wait = .notWaiting ∧ arrivalPending w s = false) ∨ w.wait = .ended) ∧
        tickDiff (w.expected + BitVec.ofNat 32 w.half) s.ft.tick ≤ 0) ∨
      (c = .closeWaitTimeout ∧ s = reachEvent .closeTimeout before ∧ w.wait = .waiting ∧
        tickDiff (w.expected + BitVec.ofNat 32 (w.half + 20000)) s.ft.tick ≤ 0) →
    let rs := s.uq.records
    let due := rs.filter (Record.dueAt s.ft.frame)
    let lost := (due.filter fun r => !decide (placeTaken rs r) && decide (4 ≤ r.attempts)).length
    let joins := ∃ r ∈ timedOut s.ft.frame rs, r.kind = .join ∧ r.detached = false
    let ends := w.taken = false ∧
      ((s.ft.lock = .holdover ∧ 7 ≤ s.ft.miss) ∨ (s.ft.lock = .acquire ∧ 3 ≤ s.ft.miss))
    ∃ t, exec c before = .next t ∧ t.ft.window = none ∧ t.ft.tick = s.ft.tick ∧ t.ram = s.ram ∧
      t.wt = s.wt ∧ t.ab.credit = s.ab.credit ∧
      (∀ l, primaryLink s = some l →
        (linkOf t l).a8 = (linkOf s l).a8 - (linkOf s l).a8 / 8 + (if w.taken then w.quality else 0)) ∧
      (Apart rs → ¬ends →
        (s.ssu.grants ≠ [] ∨ joins → t.uq.records = timedOut s.ft.frame rs ∧ t.uq.joinSeq = s.uq.joinSeq) ∧
        (s.ssu.grants = [] → ¬joins → (timedOut s.ft.frame rs).length < 24 →
          t.uq.records = timedOut s.ft.frame rs ++
            [internalRecord .join 0xF0#8 (s.uq.joinSeq + 1#8) .urgent s.ft.frame []])) ∧
      (Apart rs → t.uq.undelivered = min 65535 (s.uq.undelivered + lost) ∧
        (0 < lost → t.au.causes &&& causeBit .undelivered ≠ 0#8 ∧
          t.au.requests &&& requestBit .fault ≠ 0#6) ∧
        (¬ends → t.uq.superseded =
          min 65535 (s.uq.superseded + (due.filter fun r => decide (placeTaken rs r)).length))) ∧
      (s.ssu.grants = [] → (∀ r ∈ rs, r.kind ≠ .join) → t.uq.joinSeq = s.uq.joinSeq + 1#8) ∧
      (s.ssu.grants ≠ [] → t.uq.joinSeq = s.uq.joinSeq) ∧
      (w.taken = true → t.ft.lock = s.ft.lock ∧ t.ft.miss = s.ft.miss ∧ t.ft.good = s.ft.good) ∧
      (w.taken = false →
        (s.ft.lock = .locked → t.ft.lock = .holdover ∧ t.ft.miss = 1) ∧
        (s.ft.lock = .holdover → s.ft.miss < 7 →
          t.ft.lock = .holdover ∧ t.ft.miss = s.ft.miss + 1) ∧
        (s.ft.lock = .acquire → s.ft.miss < 3 →
          t.ft.lock = .acquire ∧ t.ft.miss = s.ft.miss + 1 ∧ t.ft.good = 0) ∧
        (ends → t.ft.lock = .search ∧ t.ft.next = none ∧ t.ssu.grants = [] ∧ t.ssu.contention = [] ∧
          t.ab.restart = true ∧ t.xu.dwell = none ∧ ∀ r ∈ t.uq.records, r.awaits = false)))

/-- The standby watch. A RECEIVED beacon of the dwelt zone gives the Dwell Beacon and the heard mark; the first of
the dwell starts the prediction, one on time is taken into the window, a second one there changes no more, and one
off its prediction starts the prediction anew with a good count of 0; any other report is discarded.
WATCH_WINDOW_CLOSE and WATCH_CLOSE_WAIT_TIMEOUT: a watch close waits while an arrival within it is unpaired; when it
occurs, the dwelt entry's A8, good count and prediction follow the taken mark, the window opens again, and nothing
else changes (R119, R128, R129). The model's own part of it: a close whose wait has ended is the next
WATCH_WINDOW_CLOSE (log 9), a close row while the close waits has no effect (log 8), also where the tick it waits for
has been replaced (log 52), and a close that waits when a beacon off its prediction opens the window anew is dropped
(log 45). -/
def Obligations.WatchWindows : Prop :=
  (∀ (dt : Tick) (l : Link) (status : Byte) (burst : List Byte) (x : Neighbour) (before : State),
    let s := elapse dt before
    PortReady l s → s.ft.lock ≠ .search → (linkOf s l).role = .standby → (linkOf s l).condition = .ready →
    RolesOk s → status.getLsbD 7 = true → dwelt s = some x →
    let paired := putLink l { linkOf s l with held := none } s
    let gives := fun (t : State) => exec (.received dt l status burst) before = .next (releaseWatch l t)
    let change := fun (f : Neighbour → Neighbour) => s.xu.neighbours.map fun n => if n.zone = x.zone then f n else n
    (∀ (a : Tick) (b : Beacon), (linkOf s l).held = some a → parseBurst burst = .beacon b → b.zone = x.zone →
      40000 ≤ b.period → b.period ≤ 1000000 → 4 ≤ b.slots → b.slots ≤ 64 → 2000 ≤ b.period / b.slots →
      let next := some (a + BitVec.ofNat 32 s.ft.period)
      let used : State := { paired with
        xu.dwell := s.xu.dwell.map fun d => { d with heard := true }
        xu.dwellBeacon := some ⟨b.frame, b.period, b.slots⟩ }
      (x.predicted = none → gives { used with
        xu.watch := some ⟨false, 0, .notWaiting⟩
        xu.neighbours := change fun n => { n with lastArrival := some a, predicted := next } }) ∧
      (∀ p w, x.predicted = some p → s.xu.watch = some w →
        let error := (a - p).toInt
        (-2000 ≤ error → error ≤ 2000 →
          (w.taken = false → gives { used with
            xu.watch := some { w with taken := true, quality := status.toNat % 64 }
            xu.neighbours := change fun n => { n with lastArrival := some a } }) ∧
          (w.taken = true → gives used)) ∧
        (error < -2000 ∨ 2000 < error → gives { used with
          xu.watch := some ⟨false, 0, .notWaiting⟩
          xu.neighbours := change fun n => { n with good := 0, lastArrival := some a, predicted := next } }))) ∧
    ((linkOf s l).held = none ∨ (∀ b, parseBurst burst = .beacon b → b.zone ≠ x.zone ∨
        ¬(40000 ≤ b.period ∧ b.period ≤ 1000000 ∧ 4 ≤ b.slots ∧ b.slots ≤ 64 ∧ 2000 ≤ b.period / b.slots)) →
      gives paired)) ∧
  (∀ (c : Instr) (x : Neighbour) (p : Tick) (w : WatchWindow) (before s : State),
    dwelt s = some x → s.xu.watch = some w → x.predicted = some p →
    let judged : State := { s with
      xu.watch := some ⟨false, 0, .notWaiting⟩
      xu.neighbours := s.xu.neighbours.map fun n =>
        if n.zone ≠ x.zone then n
        else if w.taken = true then { n with
          a8 := n.a8 - n.a8 / 8 + w.quality, good := min 255 (n.good + 1)
          predicted := n.lastArrival.map fun a => a + BitVec.ofNat 32 s.ft.period }
        else { n with
          a8 := n.a8 - n.a8 / 8, good := 0
          predicted := n.predicted.map fun a => a + BitVec.ofNat 32 s.ft.period } }
    (c = .watchWindowClose → s = reachEvent .watchClose before → tickDiff (p + 2000#32) s.ft.tick ≤ 0 →
      (w.wait = .notWaiting → watchPending p s = true →
        exec c before = .next { s with xu.watch := some { w with wait := .waiting } }) ∧
      (w.wait = .notWaiting → watchPending p s = false → exec c before = .next judged) ∧
      (w.wait = .ended → exec c before = .next judged)) ∧
    (c = .watchCloseWaitTimeout → s = reachEvent .watchTimeout before → w.wait = .waiting →
      tickDiff (p + 22000#32) s.ft.tick ≤ 0 → exec c before = .next judged) ∧
    (s = before → w.wait = .waiting → exec .watchWindowClose before = .next before))

/-! ### The link ports -/

/-- BST_RISE, TUNED and SCAN_EXPIRY. A rise is held on a READY or TX-FAULT link and ignored otherwise. TUNED makes a
TUNING link READY, starts a scan's listening time in SEARCH, sends a held next channel instead, and answers the SET
LINK ENABLE that waits for it. A scan expiry tunes to the next channel, 15 wrapping to 0 (R118, R121, R124, R136). A
SET LINK ENABLE that waits with its TUNE held waits from then on for the TUNED of the TUNE that is sent, whichever
retune held it last (the model's choice, log 12), and a rise that replaces the tick a close waits for does not end the
wait (the model's choice, log 52). -/
def Obligations.TuningAndScanning : Prop :=
  (∀ (dt : Tick) (l : Link) (before : State),
    let s := elapse dt before
    PortReady l s → RolesOk s →
    let k := linkOf s l
    let scan := if s.ft.lock = .search then some (s.ft.tick + 1000000#32) else k.scanExpiry
    let ready : LinkState := { k with condition := .ready, tuneExpiry := none, scanExpiry := scan }
    (k.condition = .ready ∨ k.condition = .txFault →
      exec (.bstRise dt l) before = .next (putLink l { k with held := some s.ft.tick } s)) ∧
    (k.condition = .tuning ∨ k.condition = .portFault → exec (.bstRise dt l) before = .next s) ∧
    (k.condition ≠ .tuning → exec (.tuned dt l) before = .next s) ∧
    (k.condition = .tuning → k.nextChannel = none → (∀ a b h, s.cu.state ≠ .waiting a b (.linkTune l h)) →
      exec (.tuned dt l) before = .next (putLink l ready s)) ∧
    (∀ a b, k.condition = .tuning → k.nextChannel = none → s.cu.state = .waiting a b (.linkTune l false) →
      exec (.tuned dt l) before = .next (replyCommand .done [0#16] (putLink l ready s))) ∧
    (∀ ch, k.condition = .tuning → k.nextChannel = some ch → (∀ a b, s.cu.state ≠ .waiting a b (.linkTune l false)) →
      ∃ t, exec (.tuned dt l) before = .next t ∧ linkOf t l = { k with
          channel := ch, condition := .tuning, held := none, nextChannel := none,
          tuneExpiry := some (s.ft.tick + 20000#32), scanExpiry := scan,
          txd := k.txd ++ [[0x01#8, ch.setWidth 8]] } ∧
        linkOf t (otherLink l) = linkOf s (otherLink l) ∧ t.uq = s.uq ∧ t.ram = s.ram ∧
        (∀ a b, s.cu.state = .waiting a b (.linkTune l true) →
          t.cu.state = .waiting a b (.linkTune l false)) ∧
        ((∀ a b, s.cu.state ≠ .waiting a b (.linkTune l true)) → t.cu = s.cu))) ∧
  (∀ (l : Link) (due : Tick) (before : State),
    let s := reachEvent (.scanExpiry l) before
    PortReady l s → RolesOk s →
    let k := linkOf s l
    s.ft.lock = .search → k.condition = .ready → s.ssu.burst = none → k.scanExpiry = some due →
    tickDiff due s.ft.tick ≤ 0 →
    ∃ t, exec (.scanExpiry l) before = .next t ∧ linkOf t l = { k with
        channel := k.channel + 1#4, condition := .tuning, held := none, nextChannel := none,
        tuneExpiry := some (s.ft.tick + 20000#32), scanExpiry := none,
        txd := k.txd ++ [[0x01#8, (k.channel + 1#4).setWidth 8]] } ∧
      t.ft.tick = s.ft.tick ∧
      linkOf t (otherLink l) = linkOf s (otherLink l) ∧ t.uq = s.uq ∧ t.ram = s.ram)

/-- FAULT and TUNE_EXPIRY put the link in PORT-FAULT with nothing held or due, raise LINK_FAULT and answer the SET
LINK ENABLE that waits for the link; a PREPARED burst on the link is abandoned. A link in PORT-FAULT stays as it is
(log 10), and an expiry that is not to come does nothing (log 8) (R67, R110, R117, R121, R122, R136). -/
def Obligations.PortFaults : Prop :=
  (∀ (c : Instr) (l : Link) (before s : State), PortReady l s →
    let k := linkOf s l
    ((∃ dt message, c = .fault dt l message ∧ wellFormed c = true ∧ s = elapse dt before) ∨
      (∃ due, c = .tuneExpiry l ∧ s = reachEvent (.tuneExpiry l) before ∧ k.tuneExpiry = some due ∧
        k.condition = .tuning ∧ tickDiff due s.ft.tick ≤ 0)) →
    (k.condition = .portFault → exec c before = .next s) ∧
    (k.condition ≠ .portFault → ∃ t, exec c before = .next t ∧
      linkOf t l = { k with
        condition := .portFault, held := none, nextChannel := none, tuneExpiry := none,
        scanExpiry := none } ∧
      t.au.causes &&& causeBit .linkFault ≠ 0#8 ∧ t.au.requests &&& requestBit .fault ≠ 0#6 ∧
      t.ft.tick = s.ft.tick ∧ t.ft.lock = s.ft.lock ∧ t.ram = s.ram ∧ t.wt = s.wt ∧ t.ab = s.ab ∧
      (k.role = .standby → t.xu.dwell = none) ∧
      (∀ b, s.ssu.burst = some b → b.link = l → b.phase = .prepared → t.ssu.burst = none ∧
        (Apart s.uq.records → t.uq.records = abandoned s.uq.records)) ∧
      (∀ a tag h, s.cu.state = .waiting a tag (.linkTune l h) →
        t.cu.state = .executing a tag ∧
        t.mae.result = some ⟨s.mae.publication, resultWords .done a tag [3#16]⟩))) ∧
  (∀ (l : Link) (before : State), (linkOf before l).tuneExpiry = none →
    exec (.tuneExpiry l) before = .next before)

/-- RECEIVED reports that change nothing but the pairing of the held arrival tick, or only count: a link TUNING
or in PORT-FAULT, a bad report in SEARCH or on the STANDBY link, an uplink burst, a beacon without an arrival
tick, a malformed beacon, a second beacon in a window, a co-channel or an out-of-window beacon, a downlink burst of
another zone, and bad or broken reports on the PRIMARY link (R85, R86, R98, R99, R118, R119, R138, R139, R141). That a
beacon too short for its fixed fields or a count byte, and a downlink burst of fewer than 3 bytes, are broken is the
model's choice (log 36). -/
def Obligations.ReportsSetAside : Prop :=
  ∀ (dt : Tick) (l : Link) (status : Byte) (burst : List Byte) (before : State),
    let s := elapse dt before
    PortReady l s →
    let k := linkOf s l
    let paired := releaseWatch l (releaseClose l (putLink l { k with held := none } s))
    let gives := fun (t : State) => exec (.received dt l status burst) before = .next t
    let heard := s.ft.lock ≠ .search ∧ k.role = .primary ∧ (k.condition = .ready ∨ k.condition = .txFault)
    let whole := fun (b : Beacon) =>
      40000 ≤ b.period ∧ b.period ≤ 1000000 ∧ 4 ≤ b.slots ∧ b.slots ≤ 64 ∧ 2000 ≤ b.period / b.slots
    (k.condition = .tuning ∨ k.condition = .portFault → gives paired) ∧
    (status.getLsbD 7 = false → s.ft.lock = .search ∨ k.role = .standby → gives paired) ∧
    (heard → status.getLsbD 7 = true → parseBurst burst = .uplink → gives paired) ∧
    (∀ b, heard → status.getLsbD 7 = true → parseBurst burst = .beacon b →
      (k.held = none ∨ ¬whole b → gives paired) ∧
      (∀ a, k.held = some a → whole b →
        let follows := s.ft.lock = .locked ∨ s.ft.lock = .holdover
        let inWindow := fun (w : BeaconWindow) => -(w.half : Int) ≤ (a - w.expected).toInt ∧
          (a - w.expected).toInt ≤ w.half
        (follows → b.zone ≠ s.ft.zone →
          gives { paired with ft.coChannel := min (s.ft.coChannel + 1) 65535 }) ∧
        (∀ w, b.zone = s.ft.zone ∨ ¬follows → s.ft.window = some w → inWindow w → w.taken = true →
          gives paired) ∧
        (follows → b.zone = s.ft.zone → (∀ w, s.ft.window = some w → ¬inWindow w) →
          gives { paired with ft.syncErrors := min 255 (s.ft.syncErrors + 1) }))) ∧
    (heard → status.getLsbD 7 = false ∨ parseBurst burst = .broken →
      gives { paired with dlf.downlinkErrors := min (s.dlf.downlinkErrors + 1) 65535 }) ∧
    (∀ zone ms, heard → status.getLsbD 7 = true → parseBurst burst = .downlink zone ms → zone ≠ s.ft.zone →
      gives { paired with dlf.foreignDownlinks := min (s.dlf.foreignDownlinks + 1) 65535 })

/-- RECEIVED beacons that are taken. The take steers, checks the frame number, lays the beacon's layout by,
distributes the content (acks, grants, allowance, neighbours) and makes the lock transition. In LOCKED and HOLDOVER
the next frame start moves by the error over 4, truncated toward zero and limited to 64 ticks either way, and HOLDOVER
becomes LOCKED. In ACQUIRE the frame's own start is placed at A - C, at once a frame start where the frame has not
begun, and the third good beacon gives LOCKED; a beacon out of the window or of another zone seeds anew. In SEARCH the
take seeds the timing at A - C, makes the link PRIMARY with A8 = 8q and enters ACQUIRE with a good count of 1 and the
LINK request, and the other link, if it can, dwells on the first entry of the neighbour list; a window opening that a
seeding puts at the present tick or before follows at once (R68, R72, R79, R83, R85 to R94, R101, R116, R125 to R127,
R140). The model's own part of it: the full correction uses the C its window opened with (log 18), an ack entry is
compared on all its sixteen identity bits (log 16), at the take that ends a search the link becomes PRIMARY before the
content is distributed (log 41), a grant of slot count 0 takes no place in a list (log 35), in ACQUIRE a beacon late
for its window is taken, acks included (log 46), and a watch close that waits as the neighbour list ends or moves the
dwell does not occur (log 51). -/
def Obligations.BeaconTaken : Prop :=
  ∀ (dt : Tick) (l : Link) (status : Byte) (burst : List Byte) (a : Tick) (b : Beacon) (before : State),
    let s := elapse dt before
    PortReady l s → RolesOk s → status.getLsbD 7 = true → parseBurst burst = .beacon b →
    40000 ≤ b.period → b.period ≤ 1000000 → 4 ≤ b.slots → b.slots ≤ 64 → 2000 ≤ b.period / b.slots →
    let k := linkOf s l
    let q := status.toNat % 64
    let f := s.ft
    let other := linkOf s (otherLink l)
    k.held = some a →
    let names := fun (id : BitVec 10) (n : Nat) =>
      ((b.grants.filter fun g => decide (g.identity = id ∧ g.count ≠ 0)).map
        fun g => (⟨g.first, min g.count 64⟩ : Grant)).take n
    let acked := b.acks.foldl (fun (u : UplinkQueue) (e : AckEntry) =>
      let meets := fun (r : Record) => decide (r.tag = e.tag ∧ r.seq = e.seq)
      if e.identity ≠ s.carid.setWidth 16 then u
      else if u.records.any meets then
        { u with
          records := u.records.filterMap fun r =>
            if meets r = false then some r
            else if r.state = .onAir then some { r with ackedOnAir := true } else none }
      else { u with strayAcks := min (u.strayAcks + 1) 65535 }) s.uq
    let joined : UplinkQueue :=
      if b.grants.any (fun g => decide (g.identity = s.carid)) then
        { acked with
          records := acked.records.filter fun r => decide (¬(r.kind = .join ∧ r.state = .queued)) }
      else acked
    let allowed : Airtime := { s.ab with
      allowance := b.allowance, restart := false
      credit := if s.ab.restart then (b.allowance : Int)
        else if b.allowance = s.ab.allowance then s.ab.credit
        else max (-4 * (b.allowance : Int)) (min s.ab.credit (8 * b.allowance)) }
    let kept := b.neighbours.foldl (fun (es : List NeighbourEntry) e =>
      if e.zone = b.zone ∨ (∃ x ∈ es, x.zone = e.zone) ∨ 4 ≤ es.length then es else es ++ [e]) []
    let listed := fun (t : State) =>
      t.ssu.grants = names s.carid 8 ∧ t.ssu.contention = names 1023#10 4 ∧
      t.xu.neighbours.map (fun n => (n.zone, n.channel)) = kept.map (fun e => (e.zone, e.channel)) ∧
      (∀ n ∈ t.xu.neighbours,
        (∀ o, s.xu.neighbours.find? (fun o => decide (o.zone = n.zone)) = some o →
          n.a8 = o.a8 ∧ n.lastArrival = o.lastArrival) ∧
        ((∀ o ∈ s.xu.neighbours, o.zone ≠ n.zone) → n.a8 = 0 ∧ n.good = 0 ∧ n.lastArrival = none ∧
          n.predicted = none)) ∧
      t.ram = s.ram ∧ t.wt = s.wt ∧ t.ftu = s.ftu ∧ t.dlf = s.dlf ∧ t.cu = s.cu
    let inWindow := fun (w : BeaconWindow) => f.window = some w ∧ -(w.half : Int) ≤ (a - w.expected).toInt ∧
      (a - w.expected).toInt ≤ w.half
    let marked := fun (w : BeaconWindow) => some { w with
      taken := true, quality := q, wait := if w.wait = .waiting then .ended else w.wait }
    let numbered := fun (w : BeaconWindow) (t : State) =>
      if b.frame = (if w.begun then f.frame else f.frame + 1#6) then
        t.ft.frame = f.frame ∧ t.ft.pendingFrame = f.pendingFrame ∧ t.ft.renumbers = f.renumbers
      else t.ft.renumbers = min (f.renumbers + 1) 65535 ∧
        (w.begun = true → t.ft.frame = b.frame ∧ t.ft.pendingFrame = f.pendingFrame) ∧
        (w.begun = false → t.ft.frame = f.frame ∧ t.ft.pendingFrame = some b.frame)
    let steady := fun (w : BeaconWindow) (t : State) =>
      t.ft.window = marked w ∧ numbered w t ∧ t.ft.start = f.start ∧ t.ft.zone = f.zone ∧
      t.ft.layout = some ⟨b.period, b.slots, if w.begun then 0 else 1⟩ ∧
      t.ft.period = f.period ∧ t.ft.slots = f.slots ∧ t.ft.slotLength = f.slotLength ∧
      t.uq = joined ∧ t.ab = allowed ∧ t.ssu.burst = s.ssu.burst ∧ listed t
    let seeded := fun (t : State) =>
      t.ft.start = a - BitVec.ofNat 32 f.timing.comp ∧
      t.ft.next = some (t.ft.start + BitVec.ofNat 32 b.period) ∧
      t.ft.frame = b.frame ∧ t.ft.zone = b.zone ∧ t.ft.period = b.period ∧ t.ft.slots = b.slots ∧
      t.ft.slotLength = b.period / b.slots ∧ t.ft.layout = none ∧ t.ft.pendingFrame = none ∧
      t.ft.window = openedAtOnce f.tick (t.ft.start + BitVec.ofNat 32 b.period) f.timing.comp 2000 ∧
      t.ft.windowOpened = true ∧ t.ft.renumbers = f.renumbers ∧
      t.ft.lock = .acquire ∧ t.ft.good = 1 ∧ t.ft.miss = 0
    let gives := fun (t : State) => exec (.received dt l status burst) before = .next t
    let heard := k.role = .primary ∧ (k.condition = .ready ∨ k.condition = .txFault)
    let seed := a - BitVec.ofNat 32 f.timing.comp
    (∀ w fn, heard → f.lock = .locked ∨ f.lock = .holdover → inWindow w → w.taken = false →
      f.next = some fn → b.zone = f.zone →
      let c := max (-64) (min 64 ((a - w.expected).toInt.tdiv 4))
      0 < tickDiff (fn + BitVec.ofInt 32 c) f.tick →
      ∃ t, gives t ∧ steady w t ∧ t.ft.next = some (fn + BitVec.ofInt 32 c) ∧ t.ft.lock = .locked ∧
        (f.lock = .locked → t.ft.good = f.good ∧ t.ft.miss = f.miss ∧ t.ft.syncErrors = f.syncErrors) ∧
        (f.lock = .holdover → t.ft.good = 0 ∧ t.ft.miss = 0 ∧ t.ft.syncErrors = 0)) ∧
    (∀ w, heard → f.lock = .acquire → inWindow w → w.taken = false → b.zone = f.zone →
      let own := a - BitVec.ofNat 32 w.comp
      let locks := fun (t : State) =>
        (f.good < 2 → t.ft.lock = .acquire ∧ t.ft.good = f.good + 1 ∧ t.ft.miss = 0) ∧
        (2 ≤ f.good → t.ft.lock = .locked ∧ t.ft.good = 0 ∧ t.ft.miss = 0 ∧ t.ft.syncErrors = 0)
      (w.begun = true → 0 < tickDiff (own + BitVec.ofNat 32 f.period) f.tick →
        ∃ t, gives t ∧ steady w t ∧ t.ft.next = some (own + BitVec.ofNat 32 f.period) ∧ locks t) ∧
      (w.begun = false → tickDiff own f.tick ≤ 0 → f.pendingFrame = none → s.xu.dwell = none →
        ∃ t, gives t ∧ locks t ∧ t.ft.start = own ∧ t.ft.next = some (own + BitVec.ofNat 32 f.period) ∧
          t.ft.period = f.period ∧ t.ft.slots = f.slots ∧ t.ft.frame = b.frame ∧ t.ft.nextSlot = 0 ∧
          t.ft.layout = some ⟨b.period, b.slots, 0⟩ ∧
          (∃ x, t.ft.window = some x ∧ x.taken = true ∧ x.quality = q ∧ x.begun = true) ∧
          t.ssu.grants = names s.carid 8 ∧ t.ssu.contention = names 1023#10 4 ∧
          t.ab = { allowed with
            earnedLatch := b.allowance, spentLatch := s.ab.spent, spent := 0
            credit := min (allowed.credit + b.allowance) (8 * b.allowance) } ∧ t.ram = s.ram)) ∧
    (heard → f.lock = .acquire →
      (∀ w, ¬inWindow w) ∨ (∃ w, inWindow w ∧ w.taken = false ∧ b.zone ≠ f.zone) →
      0 < tickDiff (seed + BitVec.ofNat 32 b.period) f.tick →
      ∃ t, gives t ∧ seeded t ∧ t.uq = joined ∧ t.ab = allowed ∧ t.ssu.burst = s.ssu.burst ∧
        (listed t) ∧ linkOf t l = { k with held := none }) ∧
    (f.lock = .search → k.enabled = true → k.condition = .ready →
      0 < tickDiff (seed + BitVec.ofNat 32 b.period) f.tick →
      ∃ t, gives t ∧ seeded t ∧
        (linkOf t l).role = .primary ∧ (linkOf t l).a8 = 8 * q ∧ (linkOf t l).scanExpiry = none ∧
        (other.enabled = true → (linkOf t (otherLink l)).role = .standby ∧
          (linkOf t (otherLink l)).scanExpiry = none) ∧
        (s.ssu.burst = none → t.uq = joined ∧ t.ab = allowed ∧ listed t ∧
          let left := if other.enabled then { other with role := .standby, a8 := 0, scanExpiry := none } else other
          let dwells := other.enabled = true ∧ (other.condition = .ready ∨ other.condition = .tuning)
          (∀ e rest, dwells → kept = e :: rest →
            t.xu.dwell = some ⟨e.zone, 0, false⟩ ∧ t.xu.watch = none ∧ t.xu.dwellBeacon = none ∧
            (∀ n ∈ t.xu.neighbours, n.zone = e.zone → n.good = 0 ∧ n.predicted = none) ∧
            linkOf t (otherLink l) =
              if left.condition = .ready ∧ left.channel = e.channel then left
              else left.retuned f.tick e.channel false) ∧
          (¬dwells ∨ kept = [] → t.xu.dwell = none ∧ t.xu.watch = none ∧ t.xu.dwellBeacon = none ∧
            linkOf t (otherLink l) = left)) ∧
        t.ssu.grants = names s.carid 8 ∧ t.ssu.contention = names 1023#10 4 ∧
        t.ab.allowance = b.allowance ∧ (s.ab.restart = true → t.ab.credit = b.allowance) ∧
        t.au.requests &&& requestBit .link ≠ 0#6 ∧ t.ram = s.ram ∧ t.wt = s.wt) ∧
    (∀ w fn d, heard → f.lock = .locked → inWindow w → w.taken = false → f.next = some fn → b.zone = f.zone →
      0 < tickDiff (fn + BitVec.ofInt 32 (max (-64) (min 64 ((a - w.expected).toInt.tdiv 4)))) f.tick →
      other.role = .standby → other.condition = .ready → s.xu.dwell = some d →
      ∃ t, gives t ∧
        (∀ o e, dwelt s = some o → kept.find? (fun e => decide (e.zone = d.zone)) = some e →
          (e.channel = o.channel → t.xu.dwell = s.xu.dwell ∧ t.xu.watch = s.xu.watch ∧
            t.xu.dwellBeacon = s.xu.dwellBeacon ∧ linkOf t (otherLink l) = other) ∧
          (e.channel ≠ o.channel → t.xu.dwell = some ⟨d.zone, 0, false⟩ ∧ t.xu.watch = none ∧
            t.xu.dwellBeacon = none)) ∧
        (∀ e rest, (∀ x ∈ kept, x.zone ≠ d.zone) → kept = e :: rest →
          t.xu.dwell = some ⟨e.zone, 0, false⟩ ∧ t.xu.watch = none ∧ t.xu.dwellBeacon = none ∧
          (other.channel ≠ e.channel → burstOn s (otherLink l) = false →
            (linkOf t (otherLink l)).channel = e.channel ∧
            (linkOf t (otherLink l)).condition = .tuning ∧
            (linkOf t (otherLink l)).txd = other.txd ++ [[0x01#8, e.channel.setWidth 8]])) ∧
        (kept = [] → t.xu.dwell = none ∧ t.xu.watch = none))

/-- RECEIVED downlink bursts of whole structure and of the Current Zone: their messages are examined one after
another, each to its end. A message of no kind is counted; one above 56 bytes keeps 56 and is counted. It is accepted
at the car identity, at 1023 unless it is a PROVISION, or at an alias whose mask has its kind, and else dropped. A
message in the Recent Message List is a duplicate and only counted, but for a repeated stop already accepted, which is
acknowledged again. A new one joins the list, the oldest of seventeen leaving, and goes to its block: a stop becomes
the Stop State, not accepted and not requested until its STOP job is done; a COMMAND or INFO message joins the Staging
Queue, COMMAND ahead of INFO, or is dropped and counted, and where the ring has no free slot the INFO messages at the
queue's head are dropped, counted in Ring Overflows, with RING_OVERFLOW raised; a MIRROR message lists a job for the
window of its tag; a PROVISION is carried out with origin RADIO and answered, and a RESET resets (R141 to R153, R160,
R162, R165, R177). -/
def Obligations.MessagesRouted : Prop :=
  (∀ (dt : Tick) (l : Link) (status : Byte) (burst : List Byte) (ms : List CarMessage) (before : State),
    let s := elapse dt before
    PortReady l s → status.getLsbD 7 = true → s.ft.lock ≠ .search → (linkOf s l).role = .primary →
    (linkOf s l).condition = .ready ∨ (linkOf s l).condition = .txFault →
    parseBurst burst = .downlink s.ft.zone ms →
    exec (.received dt l status burst) before = .next (releaseWatch l (releaseClose l
      (ms.foldl (fun x m => examineMessage s.ft.zone s.ft.frame x m)
        (putLink l { linkOf s l with held := none } s))))) ∧
  (∀ (zone : Byte) (frame : BitVec 6) (m : CarMessage) (x : State),
    let t := examineMessage zone frame x m
    (kindOfCode m.kind = none → t = { x with dlf.downlinkErrors := min (x.dlf.downlinkErrors + 1) 65535 }) ∧
    (∀ kind, kindOfCode m.kind = some kind →
      let cut : State :=
        if 56 < m.payload.length then { x with dlf.truncations := min (x.dlf.truncations + 1) 65535 } else x
      let payload := m.payload.take 56
      let accepted := m.destination ≠ 0#11 ∧ (m.destination.toNat = x.carid.toNat ∨
        (m.destination = 1023#11 ∧ kind ≠ .provision) ∨
        ∃ g, some g ∈ x.dlf.groups ∧ g.address = m.destination.toNat ∧ g.mask.getLsbD (kindCode kind) = true)
      let r : Recent := ⟨zone, m.destination, m.seq, kind⟩
      let order : Option StopKind :=
        if kind = .stopHold then some .hold else if kind = .stopRelease then some .release else none
      let repeated := x.au.accepted = true ∧ x.au.stop.seq = m.seq ∧ x.au.stop.zone = zone ∧
        x.au.stop.source = m.destination ∧ order = some x.au.stop.kind
      let counted : State := { cut with dlf.duplicates := min (x.dlf.duplicates + 1) 65535 }
      let new : State := { cut with dlf.recent :=
        if x.dlf.recent.length < 16 then x.dlf.recent ++ [r] else (x.dlf.recent ++ [r]).drop 1 }
      (¬accepted → t = cut) ∧
      (accepted → r ∈ x.dlf.recent →
        (¬repeated → t = counted) ∧
        (repeated → t = offer (stopAckRecord m.seq m.destination x.au.stop.kind x.ft.frame) counted)) ∧
      (accepted → r ∉ x.dlf.recent →
        (∀ stop, order = some stop →
          t.au.stop =
            { held := decide (stop = .hold), recorded := true, kind := stop, source := m.destination,
              seq := m.seq, zone := zone, frame := frame, reason := payload.getD 0 0#8,
              text := (payload.drop 1).take 40 } ∧
          t.au.accepted = false ∧ t.au.requests = x.au.requests &&& ~~~(requestBit .stop) ∧
          t.mae.stop = true ∧ (t.mae.status = true ∨ ∃ j ∈ t.mae.stack, j.work = .status true) ∧
          t.dlf = new.dlf ∧ t.uq = x.uq ∧ t.wt = x.wt) ∧
        (∀ cls, kind = (match cls with | .command => .command | .info => .info) →
          let staged : Staged := ⟨cls, m.destination, m.seq, zone, frame, payload⟩
          let queue := x.mae.staging
          let of := fun (c : RingClass) (q : List Staged) => q.filter fun y => decide (y.cls = c)
          let dropped : State := { new with mae.stagingDrops := min (x.mae.stagingDrops + 1) 65535 }
          (x.mae.ring = none → t = dropped) ∧
          (∀ ring, x.mae.ring = some ring →
            (queue.length < 8 → cls = .command → t = staleDropped ring
              { new with mae.staging := of .command queue ++ staged :: of .info queue }) ∧
            (queue.length < 8 → cls = .info →
              t = staleDropped ring { new with mae.staging := queue ++ [staged] }) ∧
            (8 ≤ queue.length → cls = .info ∨ of .info queue = [] → t = withCause .ringOverflow dropped) ∧
            (∀ pre old post, 8 ≤ queue.length → cls = .command → queue = pre ++ old :: post →
              old.cls = .info → of .info pre = [] →
              t = staleDropped ring (withCause .ringOverflow { dropped with
                mae.staging := of .command (pre ++ post) ++ staged :: of .info (pre ++ post) })))) ∧
        (kind = .mirror →
          let missed : State := { new with dlf.mirrorMisses := min (x.dlf.mirrorMisses + 1) 65535 }
          (payload.length < 4 → t = missed) ∧
          (∀ tag offset data, 4 ≤ payload.length → payload = tag :: offset :: data →
            ((∀ i < 16, ∀ e n, entryAt x i = some e → e.body = .mirror n → e.tag ≠ tag) → t = missed) ∧
            (∀ i e n, i < 16 → entryAt x i = some e → e.body = .mirror n → e.tag = tag →
              (∀ j < i, ∀ y z, entryAt x j = some y → y.body = .mirror z → y.tag ≠ tag) →
              (x.mae.mirrorList.length < 8 → t = { new with mae.mirrorList :=
                x.mae.mirrorList ++ [.data i offset.toNat (wordsOfBytes data)] }) ∧
              (8 ≤ x.mae.mirrorList.length →
                t = { new with mae.mirrorDrops := min (x.mae.mirrorDrops + 1) 65535 })))) ∧
        (kind = .provision →
          let reply := fun (result : ResultCode) (y : State) => offer
            (internalRecord .provisionReply 0xF2#8 m.seq .routine y.ft.frame [resultByte result]) y
          let done := fun (p : State × ResultCode) => t = reply p.2 p.1
          (payload = [] → t = reply .badCode new) ∧
          (∀ code data, payload = code :: data →
            let args := wordsOfBytes data
            let op := fun (c : Byte) (n : Nat) (p : State × ResultCode) =>
              code = c → (n ≤ args.length → done p) ∧ (args.length < n → t = reply .badField new)
            op 0x01#8 8 (loadWindow .radioLoad args new) ∧ op 0x02#8 1 (clearWindow .radioLoad args new) ∧
            op 0x04#8 6 (loadCompare .radioLoad args new) ∧ op 0x05#8 1 (clearCompare .radioLoad args new) ∧
            op 0x06#8 3 (loadGroup .radioLoad args new) ∧ op 0x09#8 5 (setTiming args new) ∧
            op 0x0A#8 1 (setMargin args new) ∧
            (code = 0x0C#8 →
              (x.ft.lock = .search → t = reply .noCandidate new) ∧
              (x.ft.lock ≠ .search → t = { new with xu.forcedProvision := some m.seq })) ∧
            (code ∉ [0x01#8, 0x02#8, 0x04#8, 0x05#8, 0x06#8, 0x09#8, 0x0A#8, 0x0C#8] →
              t = reply .badCode new))) ∧
        (kind = .reset → t = networkReset new))))
end

