-- ==== Sys2Proof/Laws/State.lean ====
section
/-! SUPPORT. What each small update leaves alone and what it sets: one lemma for each field of State. -/

namespace Sys2Proof.Machine

@[simp] theorem countTicks_porn (n : Nat) (s : State) : (countTicks n s).porn = s.porn := rfl
@[simp] theorem countTicks_vrst (n : Nat) (s : State) : (countTicks n s).vrst = s.vrst := rfl
@[simp] theorem countTicks_carid (n : Nat) (s : State) : (countTicks n s).carid = s.carid := rfl
@[simp] theorem countTicks_passOnly (n : Nat) (s : State) : (countTicks n s).passOnly = s.passOnly := rfl
@[simp] theorem countTicks_ram (n : Nat) (s : State) : (countTicks n s).ram = s.ram := rfl
@[simp] theorem countTicks_bpu (n : Nat) (s : State) : (countTicks n s).bpu = s.bpu := rfl
@[simp] theorem countTicks_wt (n : Nat) (s : State) : (countTicks n s).wt = s.wt := rfl
@[simp] theorem countTicks_ftu (n : Nat) (s : State) : (countTicks n s).ftu = s.ftu := rfl
@[simp] theorem countTicks_uq (n : Nat) (s : State) : (countTicks n s).uq = s.uq := rfl
@[simp] theorem countTicks_ssu (n : Nat) (s : State) : (countTicks n s).ssu = s.ssu := rfl
@[simp] theorem countTicks_ab (n : Nat) (s : State) : (countTicks n s).ab = s.ab := rfl
@[simp] theorem countTicks_xu (n : Nat) (s : State) : (countTicks n s).xu = s.xu := rfl
@[simp] theorem countTicks_dlf (n : Nat) (s : State) : (countTicks n s).dlf = s.dlf := rfl
@[simp] theorem countTicks_mae (n : Nat) (s : State) : (countTicks n s).mae = s.mae := rfl
@[simp] theorem countTicks_au (n : Nat) (s : State) : (countTicks n s).au = s.au := rfl
@[simp] theorem countTicks_cu (n : Nat) (s : State) : (countTicks n s).cu = s.cu := rfl
@[simp] theorem countTicks_pending (n : Nat) (s : State) : (countTicks n s).pending = s.pending := rfl
@[simp] theorem countTicks_tick (n : Nat) (s : State) : (countTicks n s).ft.tick = tickAdd s.ft.tick n := rfl
@[simp] theorem countTicks_zero (s : State) : countTicks 0 s = s := by simp [countTicks, tickAdd]

@[simp] theorem putEntry_porn (i : Nat) (e : Option Entry) (s : State) : (putEntry i e s).porn = s.porn := rfl
@[simp] theorem putEntry_vrst (i : Nat) (e : Option Entry) (s : State) : (putEntry i e s).vrst = s.vrst := rfl
@[simp] theorem putEntry_carid (i : Nat) (e : Option Entry) (s : State) : (putEntry i e s).carid = s.carid := rfl
@[simp] theorem putEntry_passOnly (i : Nat) (e : Option Entry) (s : State) : (putEntry i e s).passOnly = s.passOnly := rfl
@[simp] theorem putEntry_ram (i : Nat) (e : Option Entry) (s : State) : (putEntry i e s).ram = s.ram := rfl
@[simp] theorem putEntry_bpu (i : Nat) (e : Option Entry) (s : State) : (putEntry i e s).bpu = s.bpu := rfl
@[simp] theorem putEntry_ftu (i : Nat) (e : Option Entry) (s : State) : (putEntry i e s).ftu = s.ftu := rfl
@[simp] theorem putEntry_uq (i : Nat) (e : Option Entry) (s : State) : (putEntry i e s).uq = s.uq := rfl
@[simp] theorem putEntry_ft (i : Nat) (e : Option Entry) (s : State) : (putEntry i e s).ft = s.ft := rfl
@[simp] theorem putEntry_ssu (i : Nat) (e : Option Entry) (s : State) : (putEntry i e s).ssu = s.ssu := rfl
@[simp] theorem putEntry_ab (i : Nat) (e : Option Entry) (s : State) : (putEntry i e s).ab = s.ab := rfl
@[simp] theorem putEntry_xu (i : Nat) (e : Option Entry) (s : State) : (putEntry i e s).xu = s.xu := rfl
@[simp] theorem putEntry_dlf (i : Nat) (e : Option Entry) (s : State) : (putEntry i e s).dlf = s.dlf := rfl
@[simp] theorem putEntry_mae (i : Nat) (e : Option Entry) (s : State) : (putEntry i e s).mae = s.mae := rfl
@[simp] theorem putEntry_au (i : Nat) (e : Option Entry) (s : State) : (putEntry i e s).au = s.au := rfl
@[simp] theorem putEntry_cu (i : Nat) (e : Option Entry) (s : State) : (putEntry i e s).cu = s.cu := rfl
@[simp] theorem putEntry_pending (i : Nat) (e : Option Entry) (s : State) : (putEntry i e s).pending = s.pending := rfl

@[simp] theorem putLink_porn (l : Link) (k : LinkState) (s : State) : (putLink l k s).porn = s.porn := by
  cases l <;> rfl
@[simp] theorem putLink_vrst (l : Link) (k : LinkState) (s : State) : (putLink l k s).vrst = s.vrst := by
  cases l <;> rfl
@[simp] theorem putLink_carid (l : Link) (k : LinkState) (s : State) : (putLink l k s).carid = s.carid := by
  cases l <;> rfl
@[simp] theorem putLink_passOnly (l : Link) (k : LinkState) (s : State) : (putLink l k s).passOnly = s.passOnly := by
  cases l <;> rfl
@[simp] theorem putLink_ram (l : Link) (k : LinkState) (s : State) : (putLink l k s).ram = s.ram := by
  cases l <;> rfl
@[simp] theorem putLink_bpu (l : Link) (k : LinkState) (s : State) : (putLink l k s).bpu = s.bpu := by
  cases l <;> rfl
@[simp] theorem putLink_wt (l : Link) (k : LinkState) (s : State) : (putLink l k s).wt = s.wt := by
  cases l <;> rfl
@[simp] theorem putLink_ftu (l : Link) (k : LinkState) (s : State) : (putLink l k s).ftu = s.ftu := by
  cases l <;> rfl
@[simp] theorem putLink_uq (l : Link) (k : LinkState) (s : State) : (putLink l k s).uq = s.uq := by
  cases l <;> rfl
@[simp] theorem putLink_ft (l : Link) (k : LinkState) (s : State) : (putLink l k s).ft = s.ft := by
  cases l <;> rfl
@[simp] theorem putLink_ssu (l : Link) (k : LinkState) (s : State) : (putLink l k s).ssu = s.ssu := by
  cases l <;> rfl
@[simp] theorem putLink_ab (l : Link) (k : LinkState) (s : State) : (putLink l k s).ab = s.ab := by
  cases l <;> rfl
@[simp] theorem putLink_dlf (l : Link) (k : LinkState) (s : State) : (putLink l k s).dlf = s.dlf := by
  cases l <;> rfl
@[simp] theorem putLink_mae (l : Link) (k : LinkState) (s : State) : (putLink l k s).mae = s.mae := by
  cases l <;> rfl
@[simp] theorem putLink_au (l : Link) (k : LinkState) (s : State) : (putLink l k s).au = s.au := by
  cases l <;> rfl
@[simp] theorem putLink_cu (l : Link) (k : LinkState) (s : State) : (putLink l k s).cu = s.cu := by
  cases l <;> rfl
@[simp] theorem putLink_pending (l : Link) (k : LinkState) (s : State) : (putLink l k s).pending = s.pending := by
  cases l <;> rfl

@[simp] theorem putGroup_porn (i : Nat) (g : Option GroupEntry) (s : State) : (putGroup i g s).porn = s.porn := rfl
@[simp] theorem putGroup_vrst (i : Nat) (g : Option GroupEntry) (s : State) : (putGroup i g s).vrst = s.vrst := rfl
@[simp] theorem putGroup_carid (i : Nat) (g : Option GroupEntry) (s : State) : (putGroup i g s).carid = s.carid := rfl
@[simp] theorem putGroup_passOnly (i : Nat) (g : Option GroupEntry) (s : State) : (putGroup i g s).passOnly = s.passOnly := rfl
@[simp] theorem putGroup_ram (i : Nat) (g : Option GroupEntry) (s : State) : (putGroup i g s).ram = s.ram := rfl
@[simp] theorem putGroup_bpu (i : Nat) (g : Option GroupEntry) (s : State) : (putGroup i g s).bpu = s.bpu := rfl
@[simp] theorem putGroup_wt (i : Nat) (g : Option GroupEntry) (s : State) : (putGroup i g s).wt = s.wt := rfl
@[simp] theorem putGroup_ftu (i : Nat) (g : Option GroupEntry) (s : State) : (putGroup i g s).ftu = s.ftu := rfl
@[simp] theorem putGroup_uq (i : Nat) (g : Option GroupEntry) (s : State) : (putGroup i g s).uq = s.uq := rfl
@[simp] theorem putGroup_ft (i : Nat) (g : Option GroupEntry) (s : State) : (putGroup i g s).ft = s.ft := rfl
@[simp] theorem putGroup_ssu (i : Nat) (g : Option GroupEntry) (s : State) : (putGroup i g s).ssu = s.ssu := rfl
@[simp] theorem putGroup_ab (i : Nat) (g : Option GroupEntry) (s : State) : (putGroup i g s).ab = s.ab := rfl
@[simp] theorem putGroup_xu (i : Nat) (g : Option GroupEntry) (s : State) : (putGroup i g s).xu = s.xu := rfl
@[simp] theorem putGroup_mae (i : Nat) (g : Option GroupEntry) (s : State) : (putGroup i g s).mae = s.mae := rfl
@[simp] theorem putGroup_au (i : Nat) (g : Option GroupEntry) (s : State) : (putGroup i g s).au = s.au := rfl
@[simp] theorem putGroup_cu (i : Nat) (g : Option GroupEntry) (s : State) : (putGroup i g s).cu = s.cu := rfl
@[simp] theorem putGroup_pending (i : Nat) (g : Option GroupEntry) (s : State) : (putGroup i g s).pending = s.pending := rfl

@[simp] theorem writeRam_porn (a : Nat) (v : Word) (lanes : Lanes) (s : State) : (writeRam a v lanes s).porn = s.porn := rfl
@[simp] theorem writeRam_vrst (a : Nat) (v : Word) (lanes : Lanes) (s : State) : (writeRam a v lanes s).vrst = s.vrst := rfl
@[simp] theorem writeRam_carid (a : Nat) (v : Word) (lanes : Lanes) (s : State) : (writeRam a v lanes s).carid = s.carid := rfl
@[simp] theorem writeRam_passOnly (a : Nat) (v : Word) (lanes : Lanes) (s : State) : (writeRam a v lanes s).passOnly = s.passOnly := rfl
@[simp] theorem writeRam_bpu (a : Nat) (v : Word) (lanes : Lanes) (s : State) : (writeRam a v lanes s).bpu = s.bpu := rfl
@[simp] theorem writeRam_wt (a : Nat) (v : Word) (lanes : Lanes) (s : State) : (writeRam a v lanes s).wt = s.wt := rfl
@[simp] theorem writeRam_ftu (a : Nat) (v : Word) (lanes : Lanes) (s : State) : (writeRam a v lanes s).ftu = s.ftu := rfl
@[simp] theorem writeRam_uq (a : Nat) (v : Word) (lanes : Lanes) (s : State) : (writeRam a v lanes s).uq = s.uq := rfl
@[simp] theorem writeRam_ft (a : Nat) (v : Word) (lanes : Lanes) (s : State) : (writeRam a v lanes s).ft = s.ft := rfl
@[simp] theorem writeRam_ssu (a : Nat) (v : Word) (lanes : Lanes) (s : State) : (writeRam a v lanes s).ssu = s.ssu := rfl
@[simp] theorem writeRam_ab (a : Nat) (v : Word) (lanes : Lanes) (s : State) : (writeRam a v lanes s).ab = s.ab := rfl
@[simp] theorem writeRam_xu (a : Nat) (v : Word) (lanes : Lanes) (s : State) : (writeRam a v lanes s).xu = s.xu := rfl
@[simp] theorem writeRam_dlf (a : Nat) (v : Word) (lanes : Lanes) (s : State) : (writeRam a v lanes s).dlf = s.dlf := rfl
@[simp] theorem writeRam_mae (a : Nat) (v : Word) (lanes : Lanes) (s : State) : (writeRam a v lanes s).mae = s.mae := rfl
@[simp] theorem writeRam_au (a : Nat) (v : Word) (lanes : Lanes) (s : State) : (writeRam a v lanes s).au = s.au := rfl
@[simp] theorem writeRam_cu (a : Nat) (v : Word) (lanes : Lanes) (s : State) : (writeRam a v lanes s).cu = s.cu := rfl
@[simp] theorem writeRam_pending (a : Nat) (v : Word) (lanes : Lanes) (s : State) : (writeRam a v lanes s).pending = s.pending := rfl

@[simp] theorem requestAttention_porn (s : State) : (requestAttention s).porn = s.porn := rfl
@[simp] theorem requestAttention_vrst (s : State) : (requestAttention s).vrst = s.vrst := rfl
@[simp] theorem requestAttention_carid (s : State) : (requestAttention s).carid = s.carid := rfl
@[simp] theorem requestAttention_passOnly (s : State) : (requestAttention s).passOnly = s.passOnly := rfl
@[simp] theorem requestAttention_ram (s : State) : (requestAttention s).ram = s.ram := rfl
@[simp] theorem requestAttention_bpu (s : State) : (requestAttention s).bpu = s.bpu := rfl
@[simp] theorem requestAttention_wt (s : State) : (requestAttention s).wt = s.wt := rfl
@[simp] theorem requestAttention_ftu (s : State) : (requestAttention s).ftu = s.ftu := rfl
@[simp] theorem requestAttention_uq (s : State) : (requestAttention s).uq = s.uq := rfl
@[simp] theorem requestAttention_ft (s : State) : (requestAttention s).ft = s.ft := rfl
@[simp] theorem requestAttention_ssu (s : State) : (requestAttention s).ssu = s.ssu := rfl
@[simp] theorem requestAttention_ab (s : State) : (requestAttention s).ab = s.ab := rfl
@[simp] theorem requestAttention_xu (s : State) : (requestAttention s).xu = s.xu := rfl
@[simp] theorem requestAttention_dlf (s : State) : (requestAttention s).dlf = s.dlf := rfl
@[simp] theorem requestAttention_au (s : State) : (requestAttention s).au = s.au := rfl
@[simp] theorem requestAttention_cu (s : State) : (requestAttention s).cu = s.cu := rfl
@[simp] theorem requestAttention_pending (s : State) : (requestAttention s).pending = s.pending := rfl

@[simp] theorem requestStop_porn (s : State) : (requestStop s).porn = s.porn := rfl
@[simp] theorem requestStop_vrst (s : State) : (requestStop s).vrst = s.vrst := rfl
@[simp] theorem requestStop_carid (s : State) : (requestStop s).carid = s.carid := rfl
@[simp] theorem requestStop_passOnly (s : State) : (requestStop s).passOnly = s.passOnly := rfl
@[simp] theorem requestStop_ram (s : State) : (requestStop s).ram = s.ram := rfl
@[simp] theorem requestStop_bpu (s : State) : (requestStop s).bpu = s.bpu := rfl
@[simp] theorem requestStop_wt (s : State) : (requestStop s).wt = s.wt := rfl
@[simp] theorem requestStop_ftu (s : State) : (requestStop s).ftu = s.ftu := rfl
@[simp] theorem requestStop_uq (s : State) : (requestStop s).uq = s.uq := rfl
@[simp] theorem requestStop_ft (s : State) : (requestStop s).ft = s.ft := rfl
@[simp] theorem requestStop_ssu (s : State) : (requestStop s).ssu = s.ssu := rfl
@[simp] theorem requestStop_ab (s : State) : (requestStop s).ab = s.ab := rfl
@[simp] theorem requestStop_xu (s : State) : (requestStop s).xu = s.xu := rfl
@[simp] theorem requestStop_dlf (s : State) : (requestStop s).dlf = s.dlf := rfl
@[simp] theorem requestStop_au (s : State) : (requestStop s).au = s.au := rfl
@[simp] theorem requestStop_cu (s : State) : (requestStop s).cu = s.cu := rfl
@[simp] theorem requestStop_pending (s : State) : (requestStop s).pending = s.pending := rfl

@[simp] theorem runJob_porn (w : Work) (s : State) : (runJob w s).porn = s.porn := rfl
@[simp] theorem runJob_vrst (w : Work) (s : State) : (runJob w s).vrst = s.vrst := rfl
@[simp] theorem runJob_carid (w : Work) (s : State) : (runJob w s).carid = s.carid := rfl
@[simp] theorem runJob_passOnly (w : Work) (s : State) : (runJob w s).passOnly = s.passOnly := rfl
@[simp] theorem runJob_ram (w : Work) (s : State) : (runJob w s).ram = s.ram := rfl
@[simp] theorem runJob_bpu (w : Work) (s : State) : (runJob w s).bpu = s.bpu := rfl
@[simp] theorem runJob_wt (w : Work) (s : State) : (runJob w s).wt = s.wt := rfl
@[simp] theorem runJob_ftu (w : Work) (s : State) : (runJob w s).ftu = s.ftu := rfl
@[simp] theorem runJob_uq (w : Work) (s : State) : (runJob w s).uq = s.uq := rfl
@[simp] theorem runJob_ft (w : Work) (s : State) : (runJob w s).ft = s.ft := rfl
@[simp] theorem runJob_ssu (w : Work) (s : State) : (runJob w s).ssu = s.ssu := rfl
@[simp] theorem runJob_ab (w : Work) (s : State) : (runJob w s).ab = s.ab := rfl
@[simp] theorem runJob_xu (w : Work) (s : State) : (runJob w s).xu = s.xu := rfl
@[simp] theorem runJob_dlf (w : Work) (s : State) : (runJob w s).dlf = s.dlf := rfl
@[simp] theorem runJob_au (w : Work) (s : State) : (runJob w s).au = s.au := rfl
@[simp] theorem runJob_cu (w : Work) (s : State) : (runJob w s).cu = s.cu := rfl
@[simp] theorem runJob_pending (w : Work) (s : State) : (runJob w s).pending = s.pending := rfl

@[simp] theorem advanceTo_porn (n : Nat) (j : Job) (s : State) : (advanceTo n j s).porn = s.porn := rfl
@[simp] theorem advanceTo_vrst (n : Nat) (j : Job) (s : State) : (advanceTo n j s).vrst = s.vrst := rfl
@[simp] theorem advanceTo_carid (n : Nat) (j : Job) (s : State) : (advanceTo n j s).carid = s.carid := rfl
@[simp] theorem advanceTo_passOnly (n : Nat) (j : Job) (s : State) : (advanceTo n j s).passOnly = s.passOnly := rfl
@[simp] theorem advanceTo_ram (n : Nat) (j : Job) (s : State) : (advanceTo n j s).ram = s.ram := rfl
@[simp] theorem advanceTo_bpu (n : Nat) (j : Job) (s : State) : (advanceTo n j s).bpu = s.bpu := rfl
@[simp] theorem advanceTo_wt (n : Nat) (j : Job) (s : State) : (advanceTo n j s).wt = s.wt := rfl
@[simp] theorem advanceTo_ftu (n : Nat) (j : Job) (s : State) : (advanceTo n j s).ftu = s.ftu := rfl
@[simp] theorem advanceTo_uq (n : Nat) (j : Job) (s : State) : (advanceTo n j s).uq = s.uq := rfl
@[simp] theorem advanceTo_ft (n : Nat) (j : Job) (s : State) : (advanceTo n j s).ft = s.ft := rfl
@[simp] theorem advanceTo_ssu (n : Nat) (j : Job) (s : State) : (advanceTo n j s).ssu = s.ssu := rfl
@[simp] theorem advanceTo_ab (n : Nat) (j : Job) (s : State) : (advanceTo n j s).ab = s.ab := rfl
@[simp] theorem advanceTo_xu (n : Nat) (j : Job) (s : State) : (advanceTo n j s).xu = s.xu := rfl
@[simp] theorem advanceTo_dlf (n : Nat) (j : Job) (s : State) : (advanceTo n j s).dlf = s.dlf := rfl
@[simp] theorem advanceTo_au (n : Nat) (j : Job) (s : State) : (advanceTo n j s).au = s.au := rfl
@[simp] theorem advanceTo_cu (n : Nat) (j : Job) (s : State) : (advanceTo n j s).cu = s.cu := rfl
@[simp] theorem advanceTo_pending (n : Nat) (j : Job) (s : State) : (advanceTo n j s).pending = s.pending := rfl

@[simp] theorem clearGrants_porn (s : State) : (clearGrants s).porn = s.porn := rfl
@[simp] theorem clearGrants_vrst (s : State) : (clearGrants s).vrst = s.vrst := rfl
@[simp] theorem clearGrants_carid (s : State) : (clearGrants s).carid = s.carid := rfl
@[simp] theorem clearGrants_passOnly (s : State) : (clearGrants s).passOnly = s.passOnly := rfl
@[simp] theorem clearGrants_ram (s : State) : (clearGrants s).ram = s.ram := rfl
@[simp] theorem clearGrants_bpu (s : State) : (clearGrants s).bpu = s.bpu := rfl
@[simp] theorem clearGrants_wt (s : State) : (clearGrants s).wt = s.wt := rfl
@[simp] theorem clearGrants_ftu (s : State) : (clearGrants s).ftu = s.ftu := rfl
@[simp] theorem clearGrants_uq (s : State) : (clearGrants s).uq = s.uq := rfl
@[simp] theorem clearGrants_ft (s : State) : (clearGrants s).ft = s.ft := rfl
@[simp] theorem clearGrants_ab (s : State) : (clearGrants s).ab = s.ab := rfl
@[simp] theorem clearGrants_xu (s : State) : (clearGrants s).xu = s.xu := rfl
@[simp] theorem clearGrants_dlf (s : State) : (clearGrants s).dlf = s.dlf := rfl
@[simp] theorem clearGrants_mae (s : State) : (clearGrants s).mae = s.mae := rfl
@[simp] theorem clearGrants_au (s : State) : (clearGrants s).au = s.au := rfl
@[simp] theorem clearGrants_cu (s : State) : (clearGrants s).cu = s.cu := rfl
@[simp] theorem clearGrants_pending (s : State) : (clearGrants s).pending = s.pending := rfl

@[simp] theorem clearCopy_porn (s : State) : (clearCopy s).porn = s.porn := rfl
@[simp] theorem clearCopy_vrst (s : State) : (clearCopy s).vrst = s.vrst := rfl
@[simp] theorem clearCopy_carid (s : State) : (clearCopy s).carid = s.carid := rfl
@[simp] theorem clearCopy_passOnly (s : State) : (clearCopy s).passOnly = s.passOnly := rfl
@[simp] theorem clearCopy_ram (s : State) : (clearCopy s).ram = s.ram := rfl
@[simp] theorem clearCopy_wt (s : State) : (clearCopy s).wt = s.wt := rfl
@[simp] theorem clearCopy_ftu (s : State) : (clearCopy s).ftu = s.ftu := rfl
@[simp] theorem clearCopy_uq (s : State) : (clearCopy s).uq = s.uq := rfl
@[simp] theorem clearCopy_ft (s : State) : (clearCopy s).ft = s.ft := rfl
@[simp] theorem clearCopy_ssu (s : State) : (clearCopy s).ssu = s.ssu := rfl
@[simp] theorem clearCopy_ab (s : State) : (clearCopy s).ab = s.ab := rfl
@[simp] theorem clearCopy_xu (s : State) : (clearCopy s).xu = s.xu := rfl
@[simp] theorem clearCopy_dlf (s : State) : (clearCopy s).dlf = s.dlf := rfl
@[simp] theorem clearCopy_mae (s : State) : (clearCopy s).mae = s.mae := rfl
@[simp] theorem clearCopy_au (s : State) : (clearCopy s).au = s.au := rfl
@[simp] theorem clearCopy_cu (s : State) : (clearCopy s).cu = s.cu := rfl
@[simp] theorem clearCopy_pending (s : State) : (clearCopy s).pending = s.pending := rfl

@[simp] theorem putEntry_wt (i : Nat) (e : Option Entry) (s : State) :
    (putEntry i e s).wt = s.wt.set i e := rfl
@[simp] theorem putGroup_dlf (i : Nat) (g : Option GroupEntry) (s : State) :
    (putGroup i g s).dlf = { s.dlf with groups := s.dlf.groups.set i g } := rfl
@[simp] theorem writeRam_ram (a : Nat) (v : Word) (lanes : Lanes) (s : State) :
    (writeRam a v lanes s).ram = writeLanes s.ram a v lanes := rfl
@[simp] theorem requestAttention_mae (s : State) :
    (requestAttention s).mae = { s.mae with attention := true } := rfl
@[simp] theorem requestStop_mae (s : State) : (requestStop s).mae = { s.mae with stop := true } := rfl
@[simp] theorem runJob_mae (w : Work) (s : State) :
    (runJob w s).mae = { s.mae with running := some ⟨w, 0⟩ } := rfl
@[simp] theorem advanceTo_mae (n : Nat) (j : Job) (s : State) :
    (advanceTo n j s).mae = { s.mae with running := some { j with done := n } } := rfl
@[simp] theorem clearCopy_bpu (s : State) :
    (clearCopy s).bpu = { s.bpu with copy := List.replicate 19 0#16 } := rfl
@[simp] theorem linkOf_putLink_self (l : Link) (k : LinkState) (s : State) : linkOf (putLink l k s) l = k := by
  cases l <;> rfl
@[simp] theorem linkOf_putLink_other (l : Link) (k : LinkState) (s : State) :
    linkOf (putLink l k s) (otherLink l) = linkOf s (otherLink l) := by
  cases l <;> rfl
@[simp] theorem linkOf_mapLink_self (l : Link) (f : LinkState → LinkState) (s : State) :
    linkOf (mapLink l f s) l = f (linkOf s l) := by
  cases l <;> rfl
@[simp] theorem linkOf_mapLink_other (l : Link) (f : LinkState → LinkState) (s : State) :
    linkOf (mapLink l f s) (otherLink l) = linkOf s (otherLink l) := by
  cases l <;> rfl

end Sys2Proof.Machine
end

