-- ==== Sys2Proof/Laws/Face.lean ====
section
/-! SUPPORT. The face of the part that faces the processor: pins, straps, RAM, the waiting commands, and the
Bus Path Unit's page, copy, held cycle and MAE word. One lemma for each operation behind the bus says that it
leaves all of it alone. -/

namespace Sys2Proof.Machine

/-- What only the bus path and the resets change. -/
structure Face where
  porn : Bool
  vrst : Bool
  carid : BitVec 10
  passOnly : Bool
  ram : Memory
  pending : List Instr
  base : Nat
  copy : List Word
  hold : Option Cycle
  onBus : Option BusWord
  pd : Word

def face (s : State) : Face :=
  ⟨s.porn, s.vrst, s.carid, s.passOnly, s.ram, s.pending, s.bpu.base, s.bpu.copy, s.bpu.hold, s.bpu.onBus,
    s.bpu.pd⟩

theorem face_foldl {α : Type} (f : State → α → State) (h : ∀ s x, face (f s x) = face s) :
    ∀ (l : List α) (s : State), face (l.foldl f s) = face s
  | [], _ => rfl
  | x :: l, s => (face_foldl f h l (f s x)).trans (h s x)

/-- New values in the blocks behind the bus leave the face alone. -/
theorem face_mk (t : State) (wt : List (Option Entry)) (ftu : FieldTest) (uq : UplinkQueue) (ft : FrameTimer)
    (ssu : SlotService) (ab : Airtime) (xu : Crossover) (dlf : DownlinkFilter) (mae : Engine) (au : Attention)
    (cu : CommandUnit) :
    face ⟨t.porn, t.vrst, t.carid, t.passOnly, t.ram, t.bpu, wt, ftu, uq, ft, ssu, ab, xu, dlf, mae, au, cu,
      t.pending⟩ = face t := rfl

/-! ### Ops -/

@[simp] theorem face_countTicks (n : Nat) (s : State) : face (countTicks n s) = face s := rfl

@[simp] theorem face_putEntry (i : Nat) (e : Option Entry) (s : State) :
    face (putEntry i e s) = face s := rfl

@[simp] theorem face_mapCapture (i : Nat) (f : Capture → Capture) (s : State) :
    face (mapCapture i f s) = face s := by
  unfold mapCapture
  repeat' (first | split | simp only [face_putEntry])

@[simp] theorem face_mapMirror (i : Nat) (f : Mirror → Mirror) (s : State) :
    face (mapMirror i f s) = face s := by
  unfold mapMirror
  repeat' (first | split | simp only [face_putEntry])

@[simp] theorem face_putLink (l : Link) (k : LinkState) (s : State) :
    face (putLink l k s) = face s := by
  cases l <;> rfl

@[simp] theorem face_mapLink (l : Link) (f : LinkState → LinkState) (s : State) :
    face (mapLink l f s) = face s := by
  cases l <;> rfl

@[simp] theorem face_requestAttention (s : State) :
    face (requestAttention s) = face s := rfl

@[simp] theorem face_requestStop (s : State) :
    face (requestStop s) = face s := rfl

@[simp] theorem face_requestStatus (s : State) :
    face (requestStatus s) = face s := by
  unfold requestStatus; split <;> rfl

@[simp] theorem face_setAttention (requests permissions : BitVec 6) (enable : Bool) (s : State) :
    face (setAttention requests permissions enable s) = face s := by
  unfold setAttention; split <;> rfl

@[simp] theorem face_raiseRequest (c : RequestClass) (s : State) :
    face (raiseRequest c s) = face s := by
  simp only [raiseRequest, face_setAttention]

@[simp] theorem face_clearRequests (mask : BitVec 6) (s : State) :
    face (clearRequests mask s) = face s := by
  simp only [clearRequests, face_setAttention]

@[simp] theorem face_raiseCause (c : FaultCause) (s : State) :
    face (raiseCause c s) = face s := by
  simp only [raiseCause, face_raiseRequest, face_mk]

@[simp] theorem face_replyCommand (result : ResultCode) (data : List Word) (s : State) :
    face (replyCommand result data s) = face s := rfl

/-! ### Uplink -/

@[simp] theorem face_offer (r : Record) (s : State) :
    face (offer r s) = face s := by
  unfold offer
  repeat' (first | split | simp only [face_raiseCause, face_mk])

@[simp] theorem face_createJoin (s : State) :
    face (createJoin s) = face s := by
  simp only [createJoin, face_offer, face_mk]

@[simp] theorem face_offerStopAck (s : State) :
    face (offerStopAck s) = face s := by
  simp only [offerStopAck, face_offer]

@[simp] theorem face_offerProvisionReply (seq : Byte) (result : ResultCode) (s : State) :
    face (offerProvisionReply seq result s) = face s := by
  simp only [offerProvisionReply, face_offer]

@[simp] theorem face_settleQueue (fate : List Record → Record → Fate) (s : State) :
    face (settleQueue fate s) = face s := by
  unfold settleQueue
  repeat' (first | split | simp only [face_raiseCause, face_mk])

@[simp] theorem face_takeAckList (acks : List AckEntry) (s : State) :
    face (takeAckList acks s) = face s := rfl

@[simp] theorem face_withdrawWindow (i : Nat) (s : State) :
    face (withdrawWindow i s) = face s := rfl

@[simp] theorem face_emptyQueue (s : State) :
    face (emptyQueue s) = face s := by
  simp only [emptyQueue, face_createJoin, face_mk]

@[simp] theorem face_dropQueuedJoin (s : State) :
    face (dropQueuedJoin s) = face s := rfl

@[simp] theorem face_joinTest (s : State) :
    face (joinTest s) = face s := by
  unfold joinTest; split <;> simp only [face_createJoin]

/-! ### Engine -/

@[simp] theorem face_endRunning (s : State) :
    face (endRunning s) = face s := by
  unfold endRunning
  dsimp only
  split <;> rfl

@[simp] theorem face_noteWaits (s : State) :
    face (noteWaits s) = face s := by
  unfold noteWaits; split
  · split <;> rfl
  · rfl

@[simp] theorem face_abandonWork (p : Work → Bool) (s : State) :
    face (abandonWork p s) = face s := by
  unfold abandonWork
  repeat' (first | split | simp only [face_endRunning, face_noteWaits, face_mk])

@[simp] theorem face_dropPrime (i : Nat) (s : State) :
    face (dropPrime i s) = face s := by
  simp only [dropPrime, face_abandonWork, face_mk]

@[simp] theorem face_dropMirror (i : Nat) (s : State) :
    face (dropMirror i s) = face s := by
  simp only [dropMirror, face_abandonWork, face_mk]

@[simp] theorem face_appendPrime (i : Nat) (s : State) :
    face (appendPrime i s) = face s := rfl

@[simp] theorem face_listMirror (i offset : Nat) (words : List Word) (s : State) :
    face (listMirror i offset words s) = face s := by
  unfold listMirror; split <;> rfl

@[simp] theorem face_listAge (i : Nat) (s : State) :
    face (listAge i s) = face s := by
  unfold listAge
  repeat' split
  all_goals rfl

@[simp] theorem face_dropStaleInfo (s : State) :
    face (dropStaleInfo s) = face s := by
  unfold dropStaleInfo
  repeat' (first | split | simp only [face_raiseCause, face_mk])

@[simp] theorem face_stagingOverflow (s : State) :
    face (stagingOverflow s) = face s := by
  simp only [stagingOverflow, face_raiseCause, face_mk]

@[simp] theorem face_stageMessage (m : Staged) (s : State) :
    face (stageMessage m s) = face s := by
  unfold stageMessage
  repeat' (first | split | simp only [face_dropStaleInfo, face_stagingOverflow, face_mk])

@[simp] theorem face_installRing (base slots : Nat) (s : State) :
    face (installRing base slots s).1 = face s := by
  unfold installRing
  repeat' (first | split | simp only [face_dropStaleInfo, face_mk])

@[simp] theorem face_takeReadIndex (value : Nat) (s : State) :
    face (takeReadIndex value s) = face s := by
  unfold takeReadIndex
  repeat' (first | split | simp only [face_dropStaleInfo, face_mk])

/-! ### FieldTests -/

@[simp] theorem face_snapshot (i : Nat) (s : State) :
    face (snapshot i s) = face s := by
  unfold snapshot
  repeat' (first | split | simp only [face_mapCapture, face_offer])

@[simp] theorem face_gatedSnapshot (i : Nat) (c : Capture) (s : State) :
    face (gatedSnapshot i c s) = face s := by
  unfold gatedSnapshot; split <;> simp only [face_snapshot, face_mk]

@[simp] theorem face_fireTrigger (i : Nat) (s : State) :
    face (fireTrigger i s) = face s := by
  unfold fireTrigger
  repeat' (first | split | simp only [face_mapCapture, face_gatedSnapshot])

@[simp] theorem face_triggerTest (i k : Nat) (s : State) :
    face (triggerTest i k s) = face s := by
  unfold triggerTest
  repeat' (first | split | simp only [face_mapCapture, face_fireTrigger])

@[simp] theorem face_periodTick (s : State) (i : Nat) :
    face (periodTick s i) = face s := by
  unfold periodTick
  repeat' (first | split | simp only [face_mapCapture, face_fireTrigger])

@[simp] theorem face_offerRiseTo (f : Nat) (s : State) (i : Nat) :
    face (offerRiseTo f s i) = face s := by
  unfold offerRiseTo
  repeat' (first | split | simp only [face_fireTrigger])

@[simp] theorem face_offerRises (before : BitVec 8) (s : State) :
    face (offerRises before s) = face s := by
  unfold offerRises
  refine (face_foldl _ ?_ _ _)
  intro s f
  try dsimp only
  split
  · exact face_foldl _ (fun s i => face_offerRiseTo f s i) _ _
  · rfl

@[simp] theorem face_runPass (rules : List Rule) (s : State) :
    face (runPass rules s) = face s := by
  simp only [runPass, face_offerRises, face_mk]

@[simp] theorem face_clearRule (s : State) (i : Nat) :
    face (clearRule s i) = face s := by
  unfold clearRule; split <;> rfl

@[simp] theorem face_clearRulesWhere (p : Rule → Bool) (s : State) :
    face (clearRulesWhere p s) = face s := by
  unfold clearRulesWhere
  refine face_foldl _ ?_ _ _
  intro s i
  try dsimp only
  repeat' split
  all_goals first | rfl | exact face_clearRule _ _

@[simp] theorem face_placeRule (i : Nat) (r : Rule) (s : State) :
    face (placeRule i r s) = face s := by
  unfold placeRule
  repeat' (first | split | simp only [face_runPass, face_mk])

@[simp] theorem face_loadCompare (origin : Origin) (args : List Word) (s : State) :
    face (loadCompare origin args s).1 = face s := by
  unfold loadCompare
  repeat' (first | split | simp only [face_placeRule])

@[simp] theorem face_clearCompare (origin : Origin) (args : List Word) (s : State) :
    face (clearCompare origin args s).1 = face s := by
  unfold clearCompare
  repeat' (first | split | simp only [face_clearRule])

/-! ### Windows -/

@[simp] theorem face_clearEntry (i : Nat) (s : State) :
    face (clearEntry i s) = face s := by
  unfold clearEntry
  repeat' (first | split | simp only [face_putEntry, face_withdrawWindow, face_dropPrime, face_dropMirror,
      face_clearRulesWhere])

@[simp] theorem face_clearWindow (origin : Origin) (args : List Word) (s : State) :
    face (clearWindow origin args s).1 = face s := by
  unfold clearWindow
  repeat' (first | split | simp only [face_clearEntry])

@[simp] theorem face_clearEntriesOf (origin : Origin) (s : State) :
    face (clearEntriesOf origin s) = face s := by
  unfold clearEntriesOf
  refine face_foldl _ ?_ _ _
  intro s i
  try dsimp only
  split
  · exact face_clearEntry _ _
  · rfl

@[simp] theorem face_placeEntry (i : Nat) (e : Entry) (s : State) :
    face (placeEntry i e s) = face s := by
  unfold placeEntry
  repeat' (first | split | simp only [face_putEntry, face_appendPrime, face_clearEntry])

@[simp] theorem face_loadWindow (origin : Origin) (args : List Word) (s : State) :
    face (loadWindow origin args s).1 = face s := by
  unfold loadWindow
  repeat' (first | split | simp only [face_placeEntry])

@[simp] theorem face_completePriming (i : Nat) (s : State) :
    face (completePriming i s) = face s := by
  unfold completePriming
  repeat' (first | split | simp only [face_mapCapture, face_dropPrime, face_gatedSnapshot, face_runPass])

@[simp] theorem face_completeIfPrimed (i : Nat) (s : State) :
    face (completeIfPrimed i s) = face s := by
  unfold completeIfPrimed
  repeat' (first | split | simp only [face_completePriming])

@[simp] theorem face_captureBytes (i k : Nat) (w : Word) (lanes : Lanes) (s : State) :
    face (captureBytes i k w lanes s) = face s := by
  simp only [captureBytes, face_mapCapture]

@[simp] theorem face_captureHandOver (i k : Nat) (w : Word) (lanes : Lanes) (s : State) :
    face (captureHandOver i k w lanes s) = face s := by
  unfold captureHandOver
  repeat' (first | split | simp only [face_triggerTest, face_runPass, face_completeIfPrimed, face_captureBytes])

@[simp] theorem face_vehicleAssertWindows (s : State) :
    face (vehicleAssertWindows s) = face s := by
  unfold vehicleAssertWindows
  try dsimp only
  rw [face_foldl _ (fun s i => face_mapCapture i _ s), face_clearEntriesOf]

@[simp] theorem face_vehicleReleaseWindows (s : State) :
    face (vehicleReleaseWindows s) = face s := by
  unfold vehicleReleaseWindows
  refine face_foldl _ ?_ _ _
  intro s i
  try dsimp only
  split
  · rw [face_appendPrime, face_mapCapture]
  · rfl

@[simp] theorem face_snapshotNow (args : List Word) (s : State) :
    face (snapshotNow args s).1 = face s := by
  unfold snapshotNow
  repeat' (first | split | simp only [face_snapshot])

/-! ### Links -/

@[simp] theorem face_releaseClose (l : Link) (s : State) :
    face (releaseClose l s) = face s := by
  unfold releaseClose; split <;> rfl

@[simp] theorem face_releaseWatch (l : Link) (s : State) :
    face (releaseWatch l s) = face s := by
  unfold releaseWatch; split <;> rfl

@[simp] theorem face_sendTune (l : Link) (ch : BitVec 4) (s : State) :
    face (sendTune l ch s) = face s := by
  simp only [sendTune, face_mapLink, face_releaseClose, face_releaseWatch]

@[simp] theorem face_retune (l : Link) (ch : BitVec 4) (s : State) :
    face (retune l ch s) = face s := by
  unfold retune
  repeat' (first | split | simp only [face_mapLink, face_sendTune])

@[simp] theorem face_noteTuneSent (l : Link) (s : State) :
    face (noteTuneSent l s) = face s := by
  unfold noteTuneSent
  repeat' split
  all_goals rfl

@[simp] theorem face_sendNext (l : Link) (s : State) :
    face (sendNext l s) = face s := by
  unfold sendNext; split <;> simp only [face_sendTune, face_noteTuneSent]

@[simp] theorem face_endBurst (l : Link) (s : State) :
    face (endBurst l s) = face s := by
  unfold endBurst
  repeat' (first | split | simp only [face_sendNext, face_mk])

@[simp] theorem face_abandonBurst (s : State) :
    face (abandonBurst s) = face s := by
  unfold abandonBurst; split <;> simp only [face_settleQueue, face_endBurst, face_mk]

@[simp] theorem face_settleBurst (s : State) :
    face (settleBurst s) = face s := by
  unfold settleBurst
  repeat' (first | split | simp only [face_abandonBurst])

@[simp] theorem face_mapNeighbour (zone : Byte) (f : Neighbour → Neighbour) (s : State) :
    face (mapNeighbour zone f s) = face s := rfl

@[simp] theorem face_endDwell (s : State) :
    face (endDwell s) = face s := rfl

@[simp] theorem face_startDwell (l : Link) (n : Neighbour) (s : State) :
    face (startDwell l n s) = face s := by
  unfold startDwell
  repeat' (first | split | simp only [face_retune, face_mapNeighbour, face_mk])

@[simp] theorem face_adjustDwell (s : State) :
    face (adjustDwell s) = face s := by
  unfold adjustDwell
  repeat' (first | split | simp only [face_endDwell, face_startDwell])

@[simp] theorem face_advanceDwell (s : State) :
    face (advanceDwell s) = face s := by
  unfold advanceDwell
  repeat' (first | split | simp only [face_startDwell, face_mk])

@[simp] theorem face_answerLinkEnable (l : Link) (s : State) :
    face (answerLinkEnable l s) = face s := by
  unfold answerLinkEnable
  repeat' (first | split | simp only [face_replyCommand])

@[simp] theorem face_endDwellOf (l : Link) (s : State) :
    face (endDwellOf l s) = face s := by
  unfold endDwellOf; split <;> rfl

@[simp] theorem face_enterPortFault (l : Link) (s : State) :
    face (enterPortFault l s) = face s := by
  unfold enterPortFault; split <;> simp only [face_mapLink, face_raiseCause, face_releaseClose,
      face_settleBurst, face_answerLinkEnable, face_endDwellOf]

@[simp] theorem face_enterTxFault (l : Link) (s : State) :
    face (enterTxFault l s) = face s := by
  simp only [enterTxFault, face_mapLink, face_raiseCause, face_endDwellOf]

@[simp] theorem face_answerForced (result : ResultCode) (s : State) :
    face (answerForced result s) = face s := by
  unfold answerForced
  repeat' (first | split | simp only [face_replyCommand, face_offerProvisionReply, face_mk])

@[simp] theorem face_setLock (k : LockState) (s : State) :
    face (setLock k s) = face s := by
  unfold setLock; split <;> simp only [face_requestStatus, face_mk]

@[simp] theorem face_startScan (l : Link) (s : State) :
    face (startScan l s) = face s := by
  unfold startScan; split <;> simp only [face_mapLink, face_retune]

@[simp] theorem face_dropTiming (s : State) :
    face (dropTiming s) = face s := by
  unfold dropTiming; split <;> simp only [face_setLock, face_mk]

@[simp] theorem face_enterSearch (s : State) :
    face (enterSearch s) = face s := by
  simp only [enterSearch, face_settleQueue, face_endDwell, face_answerForced, face_startScan,
      face_dropTiming, face_mk]

/-! ### SlotService -/

@[simp] theorem face_takeGrantList (gs : List BeaconGrant) (s : State) :
    face (takeGrantList gs s) = face s := by
  unfold takeGrantList; split <;> rfl

@[simp] theorem face_countBeyond (s : State) :
    face (countBeyond s) = face s := rfl

@[simp] theorem face_noteOversize (places : List Nat) (s : State) :
    face (noteOversize places s) = face s := by
  unfold noteOversize; split <;> simp only [face_raiseCause, face_mk]

@[simp] theorem face_sendBurst (l : Link) (k : BitVec 6) (p : Packing) (s : State) :
    face (sendBurst l k p s) = face s := by
  unfold sendBurst; split <;> simp only [face_mapLink, face_mk]

@[simp] theorem face_prepare (l : Link) (k : BitVec 6) (cs : List Candidate) (s : State) :
    face (prepare l k cs s) = face s := by
  simp only [prepare, face_noteOversize, face_sendBurst]

@[simp] theorem face_serveSlot (k : BitVec 6) (late : Bool) (s : State) :
    face (serveSlot k late s) = face s := by
  unfold serveSlot
  repeat' (first | split | simp only [face_prepare, face_mk])

@[simp] theorem face_keyBurst (s : State) :
    face (keyBurst s) = face s := by
  unfold keyBurst
  repeat' (first | split | simp only [face_abandonBurst, face_mk])

@[simp] theorem face_countTxFault (l : Link) (s : State) :
    face (countTxFault l s) = face s := by
  unfold countTxFault
  repeat' (first | split | simp only [face_mapLink, face_enterTxFault])

@[simp] theorem face_expireBurst (s : State) :
    face (expireBurst s) = face s := by
  unfold expireBurst
  repeat' (first | split | simp only [face_settleQueue, face_endBurst, face_countTxFault,
      face_mk])

@[simp] theorem face_completeBurst (l : Link) (s : State) :
    face (completeBurst l s) = face s := by
  unfold completeBurst
  repeat' (first | split | simp only [face_mapLink, face_settleQueue, face_endBurst, face_mk])

/-! ### FrameTimer -/

@[simp] theorem face_enterLocked (s : State) :
    face (enterLocked s) = face s := by
  simp only [enterLocked, face_setLock, face_mk]

@[simp] theorem face_enterAcquire (good : Nat) (s : State) :
    face (enterAcquire good s) = face s := by
  simp only [enterAcquire, face_setLock, face_mk]

@[simp] theorem face_openWindow (s : State) :
    face (openWindow s) = face s := by
  unfold openWindow; split <;> rfl

@[simp] theorem face_followOpening (s : State) :
    face (followOpening s) = face s := by
  unfold followOpening
  repeat' (first | split | simp only [face_openWindow])

@[simp] theorem face_ageTick (s : State) (i : Nat) :
    face (ageTick s i) = face s := by
  unfold ageTick
  repeat' (first | split | simp only [face_mapMirror, face_raiseCause, face_listAge])

@[simp] theorem face_swapRoles (l : Link) (a8 : Nat) (s : State) :
    face (swapRoles l a8 s) = face s := by
  simp only [swapRoles, face_mapLink, face_requestStatus, face_settleBurst]

@[simp] theorem face_crossOver (l : Link) (n : Neighbour) (b : DwellBeacon) (arrival : Tick) (s : State) :
    face (crossOver l n b arrival s) = face s := by
  unfold crossOver; split <;> simp only [face_followOpening, face_raiseRequest, face_createJoin, face_settleQueue, face_endDwell,
      face_adjustDwell, face_enterLocked, face_enterAcquire, face_swapRoles, face_mk]

@[simp] theorem face_decideCrossover (s : State) :
    face (decideCrossover s) = face s := by
  unfold decideCrossover
  repeat' (first | split | simp only [face_advanceDwell, face_answerForced, face_crossOver])

@[simp] theorem face_frameStartAt (fn : Tick) (s : State) :
    face (frameStartAt fn s) = face s := by
  unfold frameStartAt
  simp only [face_decideCrossover, face_countBeyond, face_requestStatus, face_foldl _ face_ageTick, face_mk,
    face_foldl _ face_periodTick]

@[simp] theorem face_runFrameStart (s : State) :
    face (runFrameStart s) = face s := by
  unfold runFrameStart
  repeat' (first | split | simp only [face_frameStartAt])

@[simp] theorem face_followFrameStart (s : State) :
    face (followFrameStart s) = face s := by
  unfold followFrameStart
  repeat' (first | split | simp only [face_frameStartAt])

@[simp] theorem face_slotStartAt (k : BitVec 6) (s : State) :
    face (slotStartAt k s) = face s := by
  unfold slotStartAt
  repeat' (first | split | simp only [face_serveSlot, face_mk])

@[simp] theorem face_averageQuality (q : Nat) (s : State) :
    face (averageQuality q s) = face s := by
  unfold averageQuality; split <;> simp only [face_mapLink]

@[simp] theorem face_countMiss (s : State) :
    face (countMiss s) = face s := by
  unfold countMiss
  repeat' (first | split | simp only [face_setLock, face_enterSearch, face_mk])

@[simp] theorem face_closeWindow (w : BeaconWindow) (s : State) :
    face (closeWindow w s) = face s := by
  unfold closeWindow; split <;> simp only [face_settleQueue, face_joinTest, face_averageQuality,
      face_countMiss, face_mk]

@[simp] theorem face_fallClose (s : State) :
    face (fallClose s) = face s := by
  unfold fallClose
  repeat' (first | split | simp only [face_closeWindow, face_mk])

@[simp] theorem face_closeTimeout (s : State) :
    face (closeTimeout s) = face s := by
  unfold closeTimeout
  repeat' (first | split | simp only [face_closeWindow])

@[simp] theorem face_takeNeighbourList (own : Byte) (es : List NeighbourEntry) (s : State) :
    face (takeNeighbourList own es s) = face s := by
  unfold takeNeighbourList
  repeat' (first | split | simp only [face_startDwell, face_adjustDwell, face_mk])

@[simp] theorem face_distribute (b : Beacon) (s : State) :
    face (distribute b s) = face s := by
  simp only [distribute, face_takeAckList, face_takeGrantList, face_takeNeighbourList, face_mk]

@[simp] theorem face_takeLock (s : State) :
    face (takeLock s) = face s := by
  unfold takeLock
  repeat' (first | split | simp only [face_enterLocked, face_mk])

@[simp] theorem face_takeInWindow (a : Tick) (q : Nat) (b : Beacon) (w : BeaconWindow) (s : State) :
    face (takeInWindow a q b w s) = face s := by
  simp only [takeInWindow, face_followFrameStart, face_distribute, face_takeLock, face_mk]

@[simp] theorem face_takeReseed (a : Tick) (b : Beacon) (s : State) :
    face (takeReseed a b s) = face s := by
  simp only [takeReseed, face_followOpening, face_followFrameStart, face_adjustDwell, face_enterAcquire, face_distribute, face_mk]

@[simp] theorem face_claimPrimary (l : Link) (q : Nat) (s : State) :
    face (claimPrimary l q s) = face s := by
  unfold claimPrimary
  repeat' (first | split | simp only [face_mapLink, face_requestStatus, face_settleBurst])

@[simp] theorem face_takeInSearch (l : Link) (a : Tick) (q : Nat) (b : Beacon) (s : State) :
    face (takeInSearch l a q b s) = face s := by
  simp only [takeInSearch, face_followOpening, face_followFrameStart, face_raiseRequest, face_adjustDwell,
    face_enterAcquire, face_distribute, face_claimPrimary, face_mk]

@[simp] theorem face_screenBeacon (a : Tick) (q : Nat) (b : Beacon) (s : State) :
    face (screenBeacon a q b s) = face s := by
  unfold screenBeacon
  repeat' (first | split | simp only [face_takeInWindow, face_takeReseed, face_mk])

@[simp] theorem face_handBeacon (l : Link) (a : Tick) (q : Nat) (b : Beacon) (s : State) :
    face (handBeacon l a q b s) = face s := by
  unfold handBeacon
  repeat' (first | split | simp only [face_takeInSearch, face_screenBeacon])

@[simp] theorem face_setTiming (args : List Word) (s : State) :
    face (setTiming args s).1 = face s := rfl

@[simp] theorem face_setMargin (args : List Word) (s : State) :
    face (setMargin args s).1 = face s := rfl

/-! ### Attention -/

@[simp] theorem face_takePermissions (v : Word) (s : State) :
    face (takePermissions v s) = face s := by
  simp only [takePermissions, face_setAttention]

@[simp] theorem face_takeEnable (v : Word) (s : State) :
    face (takeEnable v s) = face s := by
  simp only [takeEnable, face_setAttention]

@[simp] theorem face_takeRequestClear (v : Word) (s : State) :
    face (takeRequestClear v s) = face s := by
  simp only [takeRequestClear, face_clearRequests]

@[simp] theorem face_takeFaultClear (v : Word) (s : State) :
    face (takeFaultClear v s) = face s := rfl

@[simp] theorem face_acceptRead (v : Word) (s : State) :
    face (acceptRead v s) = face s := by
  unfold acceptRead
  repeat' (first | split | simp only [face_setAttention, face_offerStopAck, face_mk])

@[simp] theorem face_recordStop
    (kind : StopKind) (source : BitVec 11) (seq zone : Byte) (frame : BitVec 6) (payload : List Byte) (s : State) :
    face (recordStop kind source seq zone frame payload s) = face s := by
  simp only [recordStop, face_requestStop, face_requestStatus, face_clearRequests, face_mk]

@[simp] theorem face_stopDeposited (s : State) :
    face (stopDeposited s) = face s := by
  unfold stopDeposited; split <;> simp only [face_raiseRequest]

@[simp] theorem face_vehicleAssertAttention (s : State) :
    face (vehicleAssertAttention s) = face s := by
  simp only [vehicleAssertAttention, face_setAttention]

@[simp] theorem face_vehicleReleaseAttention (s : State) :
    face (vehicleReleaseAttention s) = face s := by
  unfold vehicleReleaseAttention
  repeat' (first | split | simp only [face_requestStop, face_raiseRequest, face_mk])

/-! ### Ports -/

@[simp] theorem face_raiseBst (l : Link) (s : State) :
    face (raiseBst l s) = face s := by
  unfold raiseBst; split <;> simp only [face_mapLink]

@[simp] theorem face_takeTuned (l : Link) (s : State) :
    face (takeTuned l s) = face s := by
  unfold takeTuned
  repeat' (first | split | simp only [face_mapLink, face_sendNext, face_answerLinkEnable])

@[simp] theorem face_expireTune (l : Link) (s : State) :
    face (expireTune l s) = face s := by
  unfold expireTune
  repeat' (first | split | simp only [face_enterPortFault])

@[simp] theorem face_expireScan (l : Link) (s : State) :
    face (expireScan l s) = face s := by
  unfold expireScan
  repeat' (first | split | simp only [face_mapLink, face_retune])

@[simp] theorem face_takeFault (l : Link) (s : State) :
    face (takeFault l s) = face s := by
  unfold takeFault; split <;> simp only [face_enterPortFault]

@[simp] theorem face_predictFrom (zone : Byte) (a : Tick) (f : Neighbour → Neighbour) (s : State) :
    face (predictFrom zone a f s) = face s := rfl

@[simp] theorem face_watchBeacon (a : Tick) (q : Nat) (b : Beacon) (x : Neighbour) (s : State) :
    face (watchBeacon a q b x s) = face s := by
  unfold watchBeacon
  repeat' (first | split | simp only [face_mapNeighbour, face_predictFrom, face_mk])

@[simp] theorem face_watchReport (arrival : Option Tick) (q : Nat) (burst : List Byte) (s : State) :
    face (watchReport arrival q burst s) = face s := by
  unfold watchReport
  repeat' (first | split | simp only [face_watchBeacon])

@[simp] theorem face_closeWatch (zone : Byte) (w : WatchWindow) (s : State) :
    face (closeWatch zone w s) = face s := rfl

@[simp] theorem face_fallWatch (s : State) :
    face (fallWatch s) = face s := by
  unfold fallWatch
  repeat' (first | split | simp only [face_closeWatch, face_mk])

@[simp] theorem face_watchTimeout (s : State) :
    face (watchTimeout s) = face s := by
  unfold watchTimeout
  repeat' (first | split | simp only [face_closeWatch])

@[simp] theorem face_disableLink (l : Link) (s : State) :
    face (disableLink l s) = face s := by
  unfold disableLink
  repeat' (first | split | simp only [face_mapLink, face_requestStatus, face_raiseRequest, face_settleBurst,
      face_endDwell, face_enterSearch])

@[simp] theorem face_enableMove (l : Link) (s : State) :
    face (enableMove l s) = face s := by
  unfold enableMove
  repeat' (first | split | simp only [face_retune, face_adjustDwell, face_startScan])

@[simp] theorem face_markEnabled (l : Link) (s : State) :
    face (markEnabled l s) = face s := by
  unfold markEnabled; split <;> simp only [face_mapLink, face_requestStatus]

@[simp] theorem face_replyCondition (l : Link) (s : State) :
    face (replyCondition l s) = face s := rfl

@[simp] theorem face_setLinkEnable (args : List Word) (s : State) :
    face (setLinkEnable args s) = face s := by
  unfold setLinkEnable
  repeat' (first | split | simp only [face_replyCommand, face_disableLink, face_enableMove, face_markEnabled,
      face_replyCondition, face_mk])

@[simp] theorem face_clearLinkFaults (s : State) :
    face (clearLinkFaults s) = face s := rfl

@[simp] theorem face_restartLinks (s : State) :
    face (restartLinks s) = face s := by
  simp only [restartLinks, face_emptyQueue, face_enterSearch, face_clearLinkFaults]

/-! ### Downlink -/

@[simp] theorem face_putGroup (i : Nat) (g : Option GroupEntry) (s : State) :
    face (putGroup i g s) = face s := rfl

@[simp] theorem face_loadGroup (origin : Origin) (args : List Word) (s : State) :
    face (loadGroup origin args s).1 = face s := by
  unfold loadGroup
  repeat' (first | split | simp only [face_putGroup])

@[simp] theorem face_clearGroup (args : List Word) (s : State) :
    face (clearGroup args s).1 = face s := by
  unfold clearGroup
  repeat' (first | split | simp only [face_putGroup])

@[simp] theorem face_clearGroupsOf (origin : Origin) (s : State) :
    face (clearGroupsOf origin s) = face s := rfl

@[simp] theorem face_dropDuplicate (r : Recent) (s : State) :
    face (dropDuplicate r s) = face s := by
  unfold dropDuplicate; split <;> simp only [face_offerStopAck, face_mk]

@[simp] theorem face_missMirror (s : State) :
    face (missMirror s) = face s := rfl

@[simp] theorem face_routeMirror (payload : List Byte) (s : State) :
    face (routeMirror payload s) = face s := by
  unfold routeMirror
  repeat' (first | split | simp only [face_listMirror, face_missMirror])

theorem face_withArgs (n : Nat) (args : List Word) (op : State → State × ResultCode) (s : State)
    (h : ∀ t, face (op t).1 = face t) : face (withArgs n args op s).1 = face s := by
  unfold withArgs
  split
  · rfl
  · exact h s

@[simp] theorem face_provision (code : Byte) (args : List Word) (s : State) :
    face (provision code args s).1 = face s := by
  unfold provision
  repeat' split
  all_goals first | rfl | (refine face_withArgs _ _ _ _ ?_; intro t; simp only [face_loadWindow,
      face_clearWindow,
    face_loadCompare, face_clearCompare, face_loadGroup, face_setTiming, face_setMargin])

@[simp] theorem face_forceProvision (seq : Byte) (s : State) :
    face (forceProvision seq s) = face s := by
  unfold forceProvision; split <;> simp only [face_offerProvisionReply, face_mk]

@[simp] theorem face_routeProvision (seq : Byte) (payload : List Byte) (s : State) :
    face (routeProvision seq payload s) = face s := by
  unfold routeProvision
  repeat' (first | (simp only [face_offerProvisionReply, face_provision, face_forceProvision]) | split)

@[simp] theorem face_clearGrants (s : State) :
    face (clearGrants s) = face s := rfl

@[simp] theorem face_networkReset (s : State) :
    face (networkReset s) = face s := by
  simp only [networkReset, face_emptyQueue, face_clearRulesWhere, face_clearEntriesOf, face_clearGroupsOf,
      face_clearGrants, face_mk]

@[simp] theorem face_routeMessage (r : Recent) (frame : BitVec 6) (payload : List Byte) (s : State) :
    face (routeMessage r frame payload s) = face s := by
  unfold routeMessage; split <;> simp only [face_stageMessage, face_recordStop, face_routeMirror,
      face_routeProvision, face_networkReset]

@[simp] theorem face_takeAccepted (r : Recent) (frame : BitVec 6) (payload : List Byte) (s : State) :
    face (takeAccepted r frame payload s) = face s := by
  unfold takeAccepted; split <;> simp only [face_dropDuplicate, face_routeMessage, face_mk]

@[simp] theorem face_countDownlinkError (s : State) :
    face (countDownlinkError s) = face s := rfl

@[simp] theorem face_examineMessage (zone : Byte) (frame : BitVec 6) (s : State) (m : CarMessage) :
    face (examineMessage zone frame s m) = face s := by
  unfold examineMessage
  repeat' (first | split | simp only [face_takeAccepted, face_countDownlinkError, face_mk])

@[simp] theorem face_takeDownlink (zone : Byte) (ms : List CarMessage) (s : State) :
    face (takeDownlink zone ms s) = face s := by
  unfold takeDownlink
  repeat' split
  all_goals first | rfl | exact face_foldl _ (face_examineMessage _ _) _ _

@[simp] theorem face_filterReport
    (l : Link) (arrival : Option Tick) (status : Byte) (burst : List Byte) (s : State) :
    face (filterReport l arrival status burst s) = face s := by
  unfold filterReport
  repeat' (first | split | simp only [face_handBeacon, face_countDownlinkError, face_takeDownlink])

@[simp] theorem face_routeReport
    (l : Link) (arrival : Option Tick) (status : Byte) (burst : List Byte) (s : State) :
    face (routeReport l arrival status burst s) = face s := by
  unfold routeReport
  repeat' (first | split | simp only [face_watchReport, face_filterReport])

@[simp] theorem face_takeReceived (l : Link) (status : Byte) (burst : List Byte) (s : State) :
    face (takeReceived l status burst s) = face s := by
  unfold takeReceived; split <;> simp only [face_mapLink, face_releaseClose, face_releaseWatch,
      face_routeReport]

@[simp] theorem face_takePortMessage (l : Link) (message : List Byte) (s : State) :
    face (takePortMessage l message s) = face s := by
  unfold takePortMessage
  repeat' (first | split | simp only [face_completeBurst, face_takeTuned, face_takeFault, face_takeReceived])

/-! ### Commands -/

@[simp] theorem face_replyWith (r : State × ResultCode) : face (replyWith r) = face r.1 := by
  exact face_replyCommand _ _ _

@[simp] theorem face_queryWindow (args : List Word) (s : State) :
    face (queryWindow args s) = face s := by
  unfold queryWindow
  repeat' (first | split | simp only [face_replyCommand])

@[simp] theorem face_setRing (args : List Word) (s : State) :
    face (setRing args s) = face s := by
  unfold setRing; split <;> simp only [face_installRing, face_replyWith, face_mk]

@[simp] theorem face_endRingWait (s : State) :
    face (endRingWait s) = face s := by
  unfold endRingWait
  repeat' (first | split | simp only [face_installRing, face_replyWith])

@[simp] theorem face_forceCommand (s : State) :
    face (forceCommand s) = face s := by
  unfold forceCommand; split <;> rfl

@[simp] theorem face_zeroCounters (s : State) :
    face (zeroCounters s) = face s := rfl

@[simp] theorem face_runCommand (code : Byte) (args : List Word) (s : State) :
    face (runCommand code args s) = face s := by
  simp only [runCommand, apply_ite face, face_replyCommand, face_replyWith, face_loadWindow, face_clearWindow,
    face_queryWindow, face_loadCompare, face_clearCompare, face_loadGroup, face_clearGroup, face_setRing,
    face_setTiming, face_setMargin, face_setLinkEnable, face_forceCommand, face_snapshotNow, face_zeroCounters,
    face_restartLinks, ite_self]

@[simp] theorem face_overrunCommand (s : State) :
    face (overrunCommand s) = face s := by
  simp only [overrunCommand, face_raiseCause, face_mk]

@[simp] theorem face_takeCommand (w : Word) (s : State) :
    face (takeCommand w s) = face s := by
  unfold takeCommand
  repeat' (first | split | simp only [face_runCommand, face_overrunCommand, face_mk])

@[simp] theorem face_vehicleAssertCommand (s : State) :
    face (vehicleAssertCommand s) = face s := rfl

/-! ### EngineWords -/

@[simp] theorem face_runJob (w : Work) (s : State) :
    face (runJob w s) = face s := rfl

@[simp] theorem face_startStatus (s : State) :
    face (startStatus s) = face s := rfl

@[simp] theorem face_startRing (cls : RingClass) (s : State) :
    face (startRing cls s) = face s := by
  unfold startRing; split <;> simp only [face_dropStaleInfo, face_runJob, face_mk]

@[simp] theorem face_startMirror (i offset : Nat) (words : List Word) (s : State) :
    face (startMirror i offset words s) = face s := by
  unfold startMirror
  repeat' (first | split | simp only [face_endRunning, face_runJob, face_mk])

@[simp] theorem face_startListed (s : State) :
    face (startListed s) = face s := by
  unfold startListed
  repeat' (first | split | simp only [face_runJob, face_startMirror, face_mk])

@[simp] theorem face_settlePrime (i : Nat) (s : State) :
    face (settlePrime i s) = face s := by
  unfold settlePrime; split <;> simp only [face_dropPrime]

@[simp] theorem face_startPrime (s : State) :
    face (startPrime s) = face s := by
  unfold startPrime; split <;> simp only [face_runJob, face_settlePrime, face_mk]

@[simp] theorem face_startJob (k : JobKind) (s : State) :
    face (startJob k s) = face s := by
  unfold startJob
  repeat' (first | split | simp only [face_runJob, face_startStatus, face_startRing, face_startListed,
      face_startPrime, face_mk])

@[simp] theorem face_resumeJob (j : Job) (rest : List Job) (s : State) :
    face (resumeJob j rest s) = face s := by
  unfold resumeJob; split <;> simp only [face_startStatus, face_settlePrime, face_mk]

@[simp] theorem face_chooseNext (s : State) :
    face (chooseNext s) = face s := by
  unfold chooseNext
  repeat' (first | split | simp only [face_startJob, face_resumeJob])

@[simp] theorem face_preempt (j : Job) (s : State) :
    face (preempt j s) = face s := by
  unfold preempt
  repeat' (first | split | simp only [face_startJob, face_mk])

@[simp] theorem face_chooseJob (s : State) :
    face (chooseJob s) = face s := by
  unfold chooseJob
  repeat' (first | split | simp only [face_chooseNext, face_preempt])

@[simp] theorem face_chooseJobs : ∀ (n : Nat) (s : State), face (chooseJobs n s) = face s
  | 0, _ => rfl
  | n + 1, s => by
    unfold chooseJobs
    dsimp only
    split
    · exact (face_chooseJobs n _).trans (face_chooseJob s)
    · exact face_chooseJob s

@[simp] theorem face_settleEngine (s : State) :
    face (settleEngine s) = face s := face_chooseJobs 32 s

@[simp] theorem face_settle (s : State) :
    face (settle s) = face s := by
  simp only [settle, face_settleEngine, face_endRingWait]

@[simp] theorem face_advanceTo (n : Nat) (j : Job) (s : State) :
    face (advanceTo n j s) = face s := rfl

@[simp] theorem face_publishRing (cls : RingClass) (s : State) :
    face (publishRing cls s) = face s := by
  unfold publishRing
  repeat' (first | split | simp only [face_raiseRequest, face_endRunning, face_mk])

@[simp] theorem face_finishRecord (cls : RingClass) (slot : Nat) (j : Job) (s : State) :
    face (finishRecord cls slot j s) = face s := by
  unfold finishRecord
  repeat' (first | split | simp only [face_endRunning, face_advanceTo, face_mk])

@[simp] theorem face_mirrorDeposited (i : Nat) (s : State) :
    face (mirrorDeposited i s) = face s := by
  unfold mirrorDeposited
  repeat' (first | split | simp only [face_mapMirror, face_listAge])

@[simp] theorem face_resultDeposited (s : State) :
    face (resultDeposited s) = face s := by
  simp only [resultDeposited, face_raiseRequest, face_mk]

@[simp] theorem face_primeFilled (i k : Nat) (v : Word) (j : Job) (s : State) :
    face (primeFilled i k v j s) = face s := by
  simp only [primeFilled, face_mapCapture, face_completeIfPrimed, face_settlePrime, face_advanceTo]

@[simp] theorem face_jobWordDone (j : Job) (b : BusWord) (v : Word) (s : State) :
    face (jobWordDone j b v s) = face s := by
  unfold jobWordDone
  repeat' (first | split | simp only [face_endRunning, face_stopDeposited, face_advanceTo, face_publishRing,
      face_finishRecord, face_mirrorDeposited, face_resultDeposited, face_primeFilled, face_mk])

/-! ### Clock -/

@[simp] theorem face_occur (e : Event) (s : State) :
    face (occur e s) = face s := by
  cases e <;> simp only [occur, face_runFrameStart, face_slotStartAt, face_expireBurst, face_keyBurst,
    face_openWindow, face_fallClose, face_closeTimeout, face_fallWatch, face_watchTimeout, face_expireTune,
    face_expireScan]

/-- What the passing of time does to the face: it keeps all of it but the MAE word on the RAM bus, and there a word
may have begun where none was, the engine being allowed the bus and no processor cycle being in progress (R10). -/
def GapKeeps (s t : State) : Prop :=
  { face t with onBus := s.bpu.onBus } = face s ∧
    (t.bpu.onBus = s.bpu.onBus ∨ (s.bpu.onBus = none ∧ s.bpu.hold = none ∧ engineOn s = true))

theorem GapKeeps.of_face {s t : State} (h : face t = face s) : GapKeeps s t :=
  ⟨by rw [h]; rfl, .inl (congrArg Face.onBus h)⟩

theorem GapKeeps.trans {s t u : State} (h : GapKeeps s t) (g : GapKeeps t u) : GapKeeps s u := by
  obtain ⟨h1, h2⟩ := h
  obtain ⟨g1, g2⟩ := g
  simp only [face, Face.mk.injEq] at h1 g1
  obtain ⟨a1, a2, a3, a4, a5, a6, a7, a8, a9, -, a11⟩ := h1
  obtain ⟨b1, b2, b3, b4, b5, b6, b7, b8, b9, -, b11⟩ := g1
  refine ⟨by simp only [face, *], ?_⟩
  rcases h2 with h2 | h2
  · rcases g2 with g2 | ⟨g2, g3, g4⟩
    · exact .inl (g2.trans h2)
    · exact .inr ⟨h2 ▸ g2, a9 ▸ g3, by simpa only [engineOn, a1, a2] using g4⟩
  · exact .inr h2

theorem gapKeeps_openGap (s : State) : GapKeeps s (openGap s) := by
  refine GapKeeps.trans (.of_face (face_settle s)) ?_
  unfold openGap beginWord
  generalize settle s = t
  split
  · next h =>
    simp only [Bool.and_eq_true, Option.isNone_iff_eq_none] at h
    refine ⟨rfl, ?_⟩
    by_cases he : engineOn t = true
    · exact .inr ⟨h.1, h.2, he⟩
    · exact .inl (by simp [readyWord, he, h.1])
  · exact .of_face rfl

theorem gapKeeps_runFor : ∀ (n : Nat) (r : Int) (s : State), GapKeeps s (runFor n r s)
  | 0, _, _ => .of_face rfl
  | n + 1, r, s => by
    have h : GapKeeps s (if 0 < r then openGap s else s) := by
      split
      exacts [gapKeeps_openGap s, .of_face rfl]
    unfold runFor
    dsimp only
    split
    · split
      · exact h.trans (.trans (.of_face (by rw [face_occur, face_countTicks])) (gapKeeps_runFor n _ _))
      · exact h.trans (.of_face (face_countTicks _ _))
    · exact h.trans (.of_face (face_countTicks _ _))

theorem gapKeeps_elapse (dt : Tick) (s : State) : GapKeeps s (elapse dt s) := by
  unfold elapse
  split
  exacts [gapKeeps_runFor _ _ s, .of_face rfl]

theorem gapKeeps_reachEvent (e : Event) (s : State) : GapKeeps s (reachEvent e s) := by
  unfold reachEvent
  split
  exacts [gapKeeps_runFor _ _ s, .of_face rfl]

theorem gapKeeps_takeEvent (e : Event) (s : State) : GapKeeps s (takeEvent e s) := by
  unfold takeEvent
  dsimp only
  split
  · exact (gapKeeps_reachEvent e s).trans (.of_face (face_occur _ _))
  · exact gapKeeps_reachEvent e s

/-! ### The rest -/

@[simp] theorem face_vehicleAssertEngine (s : State) : face (vehicleAssertEngine s) = face s := rfl

@[simp] theorem face_noteDeposit (b : BusWord) (v : Word) (s : State) : face (noteDeposit b v s) = face s := by
  unfold noteDeposit; split <;> rfl

end Sys2Proof.Machine
end

