-- ==== Sys2Proof/Laws/Memory.lean ====
section
/-! SUPPORT. What the memory operations do: read after write, and that each keeps the canonical form. -/

namespace Sys2Proof.Machine

/-- Every listed address is above `a`. -/
def Above (a : Nat) (m : Memory) : Prop := ∀ c ∈ m, a < c.1

theorem wf_nil : Memory.wf [] := by simp [Memory.wf]

theorem wf_cons_iff (b : Nat) (v : Byte) (m : Memory) :
    Memory.wf ((b, v) :: m) ↔ Above b m ∧ v ≠ Config.ramPowerOn ∧ Memory.wf m := by
  simp only [Memory.wf, Above, List.pairwise_cons, List.forall_mem_cons]
  tauto

theorem wf_consByte {a : Nat} {m : Memory} (v : Byte) (ha : Above a m) (h : Memory.wf m) :
    Memory.wf (consByte a v m) := by
  unfold consByte
  split
  · exact h
  · next hv => exact (wf_cons_iff a v m).mpr ⟨ha, hv, h⟩

theorem above_consByte {a b : Nat} {m : Memory} (v : Byte) (hab : a < b) (h : Above a m) :
    Above a (consByte b v m) := by
  unfold consByte
  split
  · exact h
  · intro c hc
    rcases List.mem_cons.mp hc with rfl | hc
    · exact hab
    · exact h c hc

theorem above_writeByte {a b : Nat} (v : Byte) (hab : a < b) :
    ∀ {m : Memory}, Above a m → Above a (writeByte m b v)
  | [], h => above_consByte v hab h
  | (k, w) :: rest, h => by
    have hk : a < k := h (k, w) (List.mem_cons_self ..)
    have hr : Above a rest := fun c hc => h c (List.mem_cons_of_mem _ hc)
    unfold writeByte
    split
    · exact above_consByte v hab h
    · split
      · exact above_consByte v hab hr
      · intro c hc
        rcases List.mem_cons.mp hc with rfl | hc
        · exact hk
        · exact above_writeByte v hab hr c hc

/-- Writing a byte keeps the canonical form. -/
theorem wf_writeByte (a : Nat) (v : Byte) : ∀ {m : Memory}, Memory.wf m → Memory.wf (writeByte m a v)
  | [], h => wf_consByte v (by simp [Above]) h
  | (b, w) :: rest, h => by
    obtain ⟨hb, hw, hr⟩ := (wf_cons_iff b w rest).mp h
    unfold writeByte
    split
    · next hab =>
      refine wf_consByte v ?_ h
      intro c hc
      rcases List.mem_cons.mp hc with rfl | hc
      · exact hab
      · exact hab.trans (hb c hc)
    · split
      · next hab => subst hab; exact wf_consByte v hb hr
      · exact (wf_cons_iff b w _).mpr ⟨above_writeByte v (by omega) hb, hw, wf_writeByte a v hr⟩

/-- Writing the strobed bytes of a word keeps the canonical form. -/
theorem wf_writeLanes {m : Memory} (a : Nat) (v : Word) (lanes : Lanes) (h : Memory.wf m) :
    Memory.wf (writeLanes m a v lanes) := by
  have hl : Memory.wf (if lanes.low then writeByte m a (v.setWidth 8) else m) := by
    split
    · exact wf_writeByte a _ h
    · exact h
  unfold writeLanes
  simp only
  split
  · exact wf_writeByte (a + 1) _ hl
  · exact hl

theorem wf_writeWord {m : Memory} (a : Nat) (v : Word) (h : Memory.wf m) : Memory.wf (writeWord m a v) :=
  wf_writeLanes a v Lanes.word h

theorem readByte_of_above {a : Nat} : ∀ {m : Memory}, Above a m → readByte m a = Config.ramPowerOn
  | [], _ => rfl
  | (b, v) :: rest, h => by
    have hb : a < b := h (b, v) (List.mem_cons_self ..)
    unfold readByte
    rw [if_neg (by omega)]
    exact readByte_of_above fun c hc => h c (List.mem_cons_of_mem _ hc)

theorem readByte_consByte_self {a : Nat} {m : Memory} (v : Byte) (h : Above a m) :
    readByte (consByte a v m) a = v := by
  unfold consByte
  split
  · next hv => rw [readByte_of_above h, hv]
  · simp [readByte]

theorem readByte_consByte_ne {a b : Nat} (m : Memory) (v : Byte) (h : b ≠ a) :
    readByte (consByte a v m) b = readByte m b := by
  unfold consByte
  split
  · rfl
  · rw [readByte, if_neg (fun e => h e.symm)]

/-- A read after a write to the same address gives the byte written. -/
theorem readByte_writeByte_self (a : Nat) (v : Byte) :
    ∀ {m : Memory}, Memory.wf m → readByte (writeByte m a v) a = v
  | [], _ => readByte_consByte_self v (by simp [Above])
  | (b, w) :: rest, h => by
    obtain ⟨hb, -, hr⟩ := (wf_cons_iff b w rest).mp h
    unfold writeByte
    split
    · next hab =>
      refine readByte_consByte_self v ?_
      intro c hc
      rcases List.mem_cons.mp hc with rfl | hc
      · exact hab
      · exact hab.trans (hb c hc)
    · split
      · next hab => subst hab; exact readByte_consByte_self v hb
      · rw [readByte, if_neg (by omega)]
        exact readByte_writeByte_self a v hr

/-- A write leaves every other address alone. -/
theorem readByte_writeByte_ne {a b : Nat} (v : Byte) (h : b ≠ a) :
    ∀ (m : Memory), readByte (writeByte m a v) b = readByte m b
  | [] => readByte_consByte_ne [] v h
  | (k, w) :: rest => by
    unfold writeByte
    split
    · exact readByte_consByte_ne _ v h
    · split
      · next hk =>
        subst hk
        rw [readByte_consByte_ne _ v h, readByte, if_neg (fun e => h e.symm)]
      · rw [readByte, readByte_writeByte_ne v h rest, ← readByte]

/-- The strobed bytes of a word, and every other byte, after a write of it. -/
theorem readByte_writeLanes {m : Memory} (h : Memory.wf m) (a : Nat) (v : Word) (lanes : Lanes) (b : Nat) :
    readByte (writeLanes m a v lanes) b =
      if b = a ∧ lanes.low then v.setWidth 8
      else if b = a + 1 ∧ lanes.high then (v >>> 8).setWidth 8
      else readByte m b := by
  unfold writeLanes
  cases hl : lanes.low <;> cases hh : lanes.high <;> simp only [Bool.false_eq_true, if_false, if_true,
    and_false, and_true]
  · by_cases hb : b = a + 1
    · subst hb; simp [readByte_writeByte_self _ _ h]
    · simp [hb, readByte_writeByte_ne _ hb]
  · by_cases hb : b = a
    · subst hb; simp [readByte_writeByte_self _ _ h]
    · simp [hb, readByte_writeByte_ne _ hb]
  · by_cases hb : b = a + 1
    · subst hb
      simp [readByte_writeByte_self _ _ (wf_writeByte a _ h)]
    · rw [readByte_writeByte_ne _ hb]
      by_cases ha : b = a
      · subst ha; simp [readByte_writeByte_self _ _ h]
      · simp [ha, hb, readByte_writeByte_ne _ ha]

end Sys2Proof.Machine
end

