-- ==== Sys2Proof/Laws/Bus.lean ====
section
/-! SUPPORT. What the bus operations do: where a Control Page word stands, when a processor cycle is performed
at once, what performing one leaves alone, and that each keeps the RAM's canonical form. -/

namespace Sys2Proof.Machine

/-! ### Fault causes -/

/-- What raising a cause does, all of it (R171, R176). -/
theorem raiseCause_eq (c : FaultCause) (s : State) : raiseCause c s = withCause c s := by
  unfold raiseCause raiseRequest setAttention withCause
  by_cases h : s.au.requests = s.au.requests ||| requestBit .fault
  · simp only [h.symm, and_self, if_true, ne_eq, not_true_eq_false, decide_false, Bool.or_false]
  · have h' : s.au.requests ||| requestBit .fault ≠ s.au.requests := fun e => h e.symm
    simp only [h, false_and, if_false, requestAttention, ne_eq, h', not_false_eq_true, decide_true, Bool.or_true]

/-! ### Addresses of the Control Page -/

/-- The bus address of Control Page word `k` addresses that word. -/
theorem wordAddr_pageBusAddr {s : State} (h : PageOk s) {k : Nat} (hk : k < 256) :
    wordAddr (pageBusAddr s k) = pageAddr s k := by
  obtain ⟨c, hc, hb⟩ := h
  simp only [wordAddr, pageBusAddr, pageAddr, hb, BitVec.toNat_ofNat]
  omega

/-- The word at the address of Control Page word `k` is word `k`. -/
theorem pageWord_pageAddr (s : State) {k : Nat} (hk : k < 256) : pageWord s (pageAddr s k) = some k := by
  unfold pageWord pageAddr
  have h : s.bpu.base ≤ s.bpu.base + 2 * k ∧ s.bpu.base + 2 * k < s.bpu.base + 512 := by omega
  rw [if_pos h]
  congr 1
  omega

/-- A processor-written word of the Control Page is a CONTROL-WRITE (Table 1-3). -/
theorem classify_control (s : State) {k : Nat} (hk : k < 256) (hp : partWord k = false)
    (hc : controlWord k = true) : classify s (pageAddr s k) = .control k := by
  unfold classify
  rw [pageWord_pageAddr s hk]
  simp only [hp, hc, if_true, Bool.false_eq_true, if_false]

/-! ### Time -/

/-- Time, and all that falls due meanwhile, leaves the pins, the RAM, the waiting commands, the page, the copy and
the held cycle alone: one lemma for each. -/
@[simp] theorem elapse_porn (dt : Tick) (s : State) : (elapse dt s).porn = s.porn :=
  congrArg Face.porn (gapKeeps_elapse dt s).1
@[simp] theorem elapse_vrst (dt : Tick) (s : State) : (elapse dt s).vrst = s.vrst :=
  congrArg Face.vrst (gapKeeps_elapse dt s).1
@[simp] theorem elapse_carid (dt : Tick) (s : State) : (elapse dt s).carid = s.carid :=
  congrArg Face.carid (gapKeeps_elapse dt s).1
@[simp] theorem elapse_passOnly (dt : Tick) (s : State) : (elapse dt s).passOnly = s.passOnly :=
  congrArg Face.passOnly (gapKeeps_elapse dt s).1
@[simp] theorem elapse_ram (dt : Tick) (s : State) : (elapse dt s).ram = s.ram :=
  congrArg Face.ram (gapKeeps_elapse dt s).1
@[simp] theorem elapse_pending (dt : Tick) (s : State) : (elapse dt s).pending = s.pending :=
  congrArg Face.pending (gapKeeps_elapse dt s).1
@[simp] theorem elapse_base (dt : Tick) (s : State) : (elapse dt s).bpu.base = s.bpu.base :=
  congrArg Face.base (gapKeeps_elapse dt s).1
@[simp] theorem elapse_copy (dt : Tick) (s : State) : (elapse dt s).bpu.copy = s.bpu.copy :=
  congrArg Face.copy (gapKeeps_elapse dt s).1
@[simp] theorem elapse_hold (dt : Tick) (s : State) : (elapse dt s).bpu.hold = s.bpu.hold :=
  congrArg Face.hold (gapKeeps_elapse dt s).1
@[simp] theorem elapse_pd (dt : Tick) (s : State) : (elapse dt s).bpu.pd = s.bpu.pd :=
  congrArg Face.pd (gapKeeps_elapse dt s).1

/-- Time leaves a word on the bus there (R10, log 48). -/
theorem elapse_onBus_of_some {dt : Tick} {s : State} {b : BusWord} (h : s.bpu.onBus = some b) :
    (elapse dt s).bpu.onBus = some b := by
  rcases (gapKeeps_elapse dt s).2 with h' | ⟨h', -⟩
  · exact h'.trans h
  · simp [h] at h'

/-- Time begins no word while PORN is low or VRST is asserted (R13, R14). -/
theorem elapse_onBus_of_off {dt : Tick} {s : State} (h : engineOn s = false) :
    (elapse dt s).bpu.onBus = s.bpu.onBus := by
  rcases (gapKeeps_elapse dt s).2 with h' | ⟨-, -, h'⟩
  · exact h'
  · simp [h] at h'

/-! ### The arbiter -/

@[simp] theorem face_passed (s : State) : face (passed s) = face s := by
  unfold passed; split <;> rfl

/-- On an open bus a processor cycle is performed at once, a ready word being passed over (R10, R12). -/
theorem processorCycle_open {s : State} (c : Cycle) (h : BusOpen s) :
    processorCycle c s = performCycle c (passed s) := by
  unfold processorCycle beginCycle passed
  rw [h.hold]
  simp only [Option.isSome_none, Bool.false_eq_true, if_false]
  rw [h.onBus]
  cases hr : readyWord s with
  | none => simp
  | some b =>
    obtain ⟨h1, h2, h3⟩ := h.passes b hr
    have hu : b.kind.urgent = false := by revert h1 h2; cases b.kind <;> simp [JobKind.urgent]
    have hp : ¬ Config.passOverMax ≤ s.bpu.passOver := Nat.not_le.mpr h3
    simp [hu, hp]

/-- A row whose cycle comes `dt` ticks on and finds the bus open performs it (R10, R12). -/
theorem processorCycle_arrives {dt : Tick} {before v : State} (c : Cycle) (h : Arrives dt before v) :
    processorCycle c (elapse dt before) = performCycle c v := by
  rw [processorCycle_open c h.1, h.2]

/-- The address of a Control Page word does not move on the way. -/
theorem pageBusAddr_arrives {dt : Tick} {before v : State} (k : Nat) (h : Arrives dt before v) :
    pageBusAddr (elapse dt before) k = pageBusAddr v k := by
  have hb : v.bpu.base = (elapse dt before).bpu.base := by
    rw [h.2]; exact congrArg Face.base (face_passed _)
  simp only [pageBusAddr, pageAddr, hb]

/-- A write of Control Page word `k` is performed: it reaches RAM and is handed over (R5). -/
theorem pageWrite_performed {v : State} (h : CycleReady v) {k : Nat} (hk : k < 256) (hp : partWord k = false)
    (hc : controlWord k = true) (w : Word) (lanes : Lanes) (hl : (lanes.low || lanes.high) = true) :
    performCycle (writeCycle (pageBusAddr v k) w lanes) v =
      handControl k (mergeCopy k w lanes (writeRam (pageAddr v k) w lanes v)).1
        (mergeCopy k w lanes (writeRam (pageAddr v k) w lanes v)).2 := by
  have hlanes : (!lanes.low && !lanes.high) = false := by
    cases h1 : lanes.low <;> cases h2 : lanes.high <;> simp_all
  simp only [performCycle, writeCycle, Bool.false_and, Bool.false_eq_true, if_false, if_true,
    wordAddr_pageBusAddr h.page hk, performWrite, hlanes, h.porn, classify_control v hk hp hc, performClass,
    h.vrst]

/-- A page write that arrives on an open bus is performed. -/
theorem pageWrite_arrives {dt : Tick} {before v : State} (k : Nat) (w : Word) (lanes : Lanes)
    (h : Arrives dt before v) :
    pageWrite k w lanes (elapse dt before) = performCycle (writeCycle (pageBusAddr v k) w lanes) v := by
  unfold pageWrite
  rw [processorCycle_arrives _ h, pageBusAddr_arrives k h]

/-! ### What performing a cycle leaves alone -/

/-- The pins, the straps, the waiting commands and the page: all that no processor cycle and no MAE word
changes. -/
def pins (s : State) : Bool × Bool × BitVec 10 × Bool × List Instr × Nat :=
  (s.porn, s.vrst, s.carid, s.passOnly, s.pending, s.bpu.base)

theorem pins_of_face {s t : State} (h : face s = face t) : pins s = pins t := by
  simp only [face, Face.mk.injEq] at h
  simp only [pins, h]

theorem pins_handControl (k : Nat) (v : Word) (s : State) : pins (handControl k v s) = pins s := by
  apply pins_of_face
  unfold handControl
  repeat' split
  all_goals simp only [face_takeCommand, face_takePermissions, face_takeEnable, face_takeRequestClear,
    face_takeFaultClear, face_takeReadIndex]

theorem pins_mergeCopy (k : Nat) (v : Word) (lanes : Lanes) (s : State) :
    pins (mergeCopy k v lanes s).2 = pins s := by
  unfold mergeCopy
  split <;> rfl

theorem pins_suppressWrite (s : State) : pins (suppressWrite s) = pins s := by
  unfold suppressWrite
  exact (pins_of_face (face_raiseCause _ _)).trans rfl

theorem pins_performClass (c : WriteClass) (a : Nat) (v : Word) (lanes : Lanes) (s : State) :
    pins (performClass c a v lanes s) = pins s := by
  unfold performClass
  cases c with
  | owned => exact pins_suppressWrite s
  | guarded => exact pins_suppressWrite s
  | plain => rfl
  | mirrorOpen => rfl
  | control k =>
    simp only
    split
    · rfl
    · exact (pins_handControl _ _ _).trans ((pins_mergeCopy _ _ _ _).trans rfl)
  | capture i k =>
    simp only
    split
    · rfl
    · exact (pins_of_face (face_captureHandOver _ _ _ _ _)).trans rfl

theorem pins_performCycle (c : Cycle) (s : State) : pins (performCycle c s) = pins s := by
  unfold performCycle
  split
  · rfl
  split
  · unfold performRead watchedRead
    simp only
    repeat' split
    · exact (pins_of_face (face_acceptRead _ _)).trans rfl
    all_goals rfl
  split
  · unfold performWrite
    repeat' split
    · rfl
    · exact pins_performClass _ _ _ _ _
    · rfl
  · rfl

/-! ### The RAM behind a cycle -/

theorem ram_of_face {s t : State} (h : face s = face t) : s.ram = t.ram := congrArg Face.ram h

theorem ram_handControl (k : Nat) (v : Word) (s : State) : (handControl k v s).ram = s.ram := by
  apply ram_of_face
  unfold handControl
  repeat' split
  all_goals simp only [face_takeCommand, face_takePermissions, face_takeEnable, face_takeRequestClear,
    face_takeFaultClear, face_takeReadIndex]

theorem ram_mergeCopy (k : Nat) (v : Word) (lanes : Lanes) (s : State) :
    (mergeCopy k v lanes s).2.ram = s.ram := by
  unfold mergeCopy
  split <;> rfl

/-- A write class either leaves RAM alone (OWNED, MIRROR-GUARDED) or writes the strobed bytes, whatever it
hands over (R4 to R7). -/
theorem ram_performClass (c : WriteClass) (a : Nat) (v : Word) (lanes : Lanes) (s : State) :
    (performClass c a v lanes s).ram =
      if c = .owned ∨ c = .guarded then s.ram else writeLanes s.ram a v lanes := by
  unfold performClass
  cases c with
  | owned => simp only [true_or, if_true]; exact ram_of_face (face_raiseCause _ _)
  | guarded => simp only [or_true, if_true]; exact ram_of_face (face_raiseCause _ _)
  | plain => simp [writeRam]
  | mirrorOpen => simp [writeRam]
  | control k =>
    simp only [reduceCtorEq, or_self, if_false]
    split
    · rfl
    · exact (ram_handControl _ _ _).trans ((ram_mergeCopy _ _ _ _).trans rfl)
  | capture i k =>
    simp only [reduceCtorEq, or_self, if_false]
    split
    · rfl
    · exact (ram_of_face (face_captureHandOver _ _ _ _ _)).trans rfl

/-- Performing a cycle keeps the RAM's canonical form. -/
theorem memoryOk_performCycle (c : Cycle) {s : State} (h : MemoryOk s) : MemoryOk (performCycle c s) := by
  unfold MemoryOk performCycle
  split
  · exact h
  split
  · have hr : (performRead (wordAddr c.addr) s).ram = s.ram := by
      unfold performRead watchedRead
      simp only
      repeat' split
      · exact (ram_of_face (face_acceptRead _ _)).trans rfl
      all_goals rfl
    rw [hr]; exact h
  split
  · unfold performWrite
    split
    · exact h
    split
    · rw [ram_performClass]
      split
      · exact h
      · exact wf_writeLanes _ _ _ h
    · exact wf_writeLanes _ _ _ h
  · exact h

/-! ### An MAE word -/

/-- A job's progress leaves the face alone. -/
theorem completeWord_ram (b : BusWord) (s : State) :
    (completeWord b s).ram = match b.value with
      | some v => writeWord s.ram b.addr v
      | none => s.ram := by
  unfold completeWord
  simp only
  cases hb : b.value with
  | none =>
    simp only
    split
    · exact (ram_of_face (face_jobWordDone _ _ _ _)).trans rfl
    · rfl
  | some v =>
    simp only
    split
    · exact (ram_of_face (face_jobWordDone _ _ _ _)).trans (ram_of_face (face_noteDeposit _ _ _))
    · exact ram_of_face (face_noteDeposit _ _ _)

theorem memoryOk_completeWord (b : BusWord) {s : State} (h : MemoryOk s) : MemoryOk (completeWord b s) := by
  unfold MemoryOk
  rw [completeWord_ram]
  split
  · exact wf_writeWord _ _ h
  · exact h

/-- An MAE word leaves the pins alone. -/
theorem pins_completeWord (b : BusWord) (s : State) : pins (completeWord b s) = pins s := by
  unfold completeWord
  simp only
  cases b.value with
  | none =>
    simp only
    split
    · exact (pins_of_face (face_jobWordDone _ _ _ _)).trans rfl
    · rfl
  | some v =>
    simp only
    split
    · exact (pins_of_face (face_jobWordDone _ _ _ _)).trans ((pins_of_face (face_noteDeposit _ _ _)).trans rfl)
    · exact (pins_of_face (face_noteDeposit _ _ _)).trans rfl

end Sys2Proof.Machine
end

