-- ==== Sys2Proof/Laws/Clock.lean ====
section
/-! SUPPORT. What the passing of time does: it counts ticks, and between two of them nothing but what
`openGap` does and the events that fall due. -/

namespace Sys2Proof.Machine

/-- Before a tick, nothing happens where the engine has nothing to choose and no word is ready to begin, or the bus is
not free (R10, R158). -/
theorem openGap_of_settled {s : State} (hs : settle s = s)
    (h : readyWord s = none ∨ s.bpu.onBus ≠ none ∨ s.bpu.hold ≠ none) : openGap s = s := by
  unfold openGap beginWord
  rw [hs]
  split
  · next hb =>
    simp only [Bool.and_eq_true, Option.isNone_iff_eq_none] at hb
    rcases h with h | h | h
    · rw [h, ← hb.1]
    · exact absurd hb.1 h
    · exact absurd hb.2 h
  · rfl

/-- Before a tick, a ready word of a settled engine begins on the free bus (R10). -/
theorem openGap_begins {s : State} (hs : settle s = s) (hb : s.bpu.onBus = none) (hh : s.bpu.hold = none) :
    openGap s = { s with bpu.onBus := readyWord s } := by
  simp [openGap, beginWord, hs, hb, hh]

/-- While the engine is settled, no word begins and nothing falls due, time only counts (R78). -/
theorem runFor_quiet {n : Nat} {r : Int} {s : State} (hs : 0 < r → openGap s = s)
    (h : ∀ e d, firstDue s = some (e, d) → r ≤ d) : runFor n r s = countTicks r.toNat s := by
  cases n with
  | zero => rfl
  | succ n =>
    have ht : (if 0 < r then openGap s else s) = s := by
      by_cases hr : 0 < r
      · rw [if_pos hr, hs hr]
      · rw [if_neg hr]
    unfold runFor
    simp only [ht]
    cases hf : firstDue s with
    | none => rfl
    | some p => exact if_neg (Int.not_lt.mpr (h p.1 p.2 hf))

/-- An event that falls due first and before the end occurs at its tick, and the rest of the time follows (R79). -/
theorem runFor_event {n : Nat} {r d : Int} {e : Event} {s : State} (hs : 0 < r → openGap s = s)
    (h : firstDue s = some (e, d)) (hd : d < r) :
    runFor (n + 1) r s = runFor n (r - max 0 d) (occur e (countTicks d.toNat s)) := by
  have ht : (if 0 < r then openGap s else s) = s := by
    by_cases hr : 0 < r
    · rw [if_pos hr, hs hr]
    · rw [if_neg hr]
  rw [runFor]
  simp only [ht, h, if_pos hd]

/-- The Tick Counter stands still while PORN is low (R78). -/
theorem elapse_down {s : State} (dt : Tick) (h : s.porn = false) : elapse dt s = s := by
  simp [elapse, h]

/-- A command that arrives while the engine is settled, no word begins and nothing falls due finds a state that only
counted. -/
theorem elapse_quiet {dt : Tick} {s : State} (h : s.porn = true) (hs : openGap s = s)
    (hq : ∀ e d, firstDue s = some (e, d) → (dt.toNat : Int) ≤ d) : elapse dt s = countTicks dt.toNat s := by
  simp only [elapse, h, if_true]
  rw [runFor_quiet (fun _ => hs) hq, Int.toNat_natCast]

/-- A command that comes at once finds the state as it stands, where nothing is overdue. -/
theorem elapse_now {s : State} (h : ∀ e d, firstDue s = some (e, d) → 0 ≤ d) : elapse 0#32 s = s := by
  unfold elapse
  split
  · exact (runFor_quiet (fun hr => absurd hr (by decide)) h).trans (countTicks_zero s)
  · rfl

/-- The row of an event that is due finds the state as it stands, where nothing is due before it. -/
theorem reachEvent_now {e : Event} {d : Int} {s : State} (he : untilDue s e = some d) (hd : d ≤ 0)
    (h : ∀ f c, firstDue s = some (f, c) → d ≤ c) : reachEvent e s = s := by
  unfold reachEvent
  simp only [he]
  refine (runFor_quiet (fun hr => absurd hd (Int.not_le.mpr hr)) h).trans ?_
  rw [Int.toNat_of_nonpos hd, countTicks_zero]

/-- The row of an event that is not to come does nothing (log 8). -/
theorem takeEvent_absent {e : Event} {s : State} (h : dueTick s e = none) : takeEvent e s = s := by
  simp [takeEvent, reachEvent, isDue, untilDue, h]

/-- The row of an event that is still to come once its tick is reached is that event. -/
theorem takeEvent_due {e : Event} {at_ : Tick} {s : State} (h : dueTick (reachEvent e s) e = some at_)
    (hd : tickDiff at_ (reachEvent e s).ft.tick ≤ 0) : takeEvent e s = occur e (reachEvent e s) := by
  simp [takeEvent, isDue, untilDue, h, hd]

/-- An event no other of a list comes before stays the first due. -/
theorem foldl_earlier {s : State} {e : Event} {d : Int} :
    ∀ (l : List Event), (∀ f ∈ l, ∀ c, untilDue s f = some c → d ≤ c) →
      l.foldl (earlier s) (some (e, d)) = some (e, d)
  | [], _ => rfl
  | f :: l, h => by
    have hf : earlier s (some (e, d)) f = some (e, d) := by
      unfold earlier
      cases hu : untilDue s f with
      | none => rfl
      | some c => exact if_neg (Int.not_lt.mpr (h f List.mem_cons_self c hu))
    rw [List.foldl_cons, hf]
    exact foldl_earlier l fun g hg => h g (List.mem_cons_of_mem f hg)

/-- A frame start that nothing falls due before is the first event due. -/
theorem firstDue_frameStart {s : State} {d : Int} (he : untilDue s .frameStart = some d)
    (h : ∀ e ∈ events s, ∀ c, untilDue s e = some c → d ≤ c) : firstDue s = some (.frameStart, d) := by
  have hf : earlier s none .frameStart = some (.frameStart, d) := by simp only [earlier, he]
  show List.foldl _ (earlier s none .frameStart) _ = _
  rw [hf]
  exact foldl_earlier _ fun f hf => h f (List.mem_cons_of_mem _ hf)

/-! ### The window after a seeding -/

/-- Where a window is open, no opening follows. -/
theorem followOpening_of_open {s : State} {w : BeaconWindow} (h : s.ft.window = some w) : followOpening s = s := by
  simp [followOpening, openDue, windowFrame, h]

/-- What follows a seeding, all of it: the window of the coming frame where its opening is due or past (R79). -/
theorem followOpening_eq {s : State} {fn : Tick} (hl : s.ft.lock ≠ .search) (hw : s.ft.window = none)
    (ho : s.ft.windowOpened = true) (hn : s.ft.next = some fn) :
    followOpening s =
      { s with ft.window := openedAtOnce s.ft.tick fn s.ft.timing.comp (windowHalf s.ft) } := by
  have hf : windowFrame s.ft = some (fn, false) := by simp [windowFrame, hl, hw, ho, hn]
  simp only [followOpening, openDue, hf, Option.map_some, openWindow, openedAtOnce, tickAdd, tickSub]
  split
  · rw [← hw]
  · simp

end Sys2Proof.Machine
end

