-- ==== Sys2Proof/Laws/Commands.lean ====
section
/-! SUPPORT. How a Command Word write reaches the Command Unit: the bytes of a merged word, and the write on a
ready bus. -/

namespace Sys2Proof.Machine

/-! ### Bytes of a word -/

theorem getLsbD_mkWord (h l : Byte) (i : Nat) :
    (mkWord h l).getLsbD i = if i < 8 then l.getLsbD i else h.getLsbD (i - 8) :=
  BitVec.getLsbD_append.trans (by by_cases hi : i < 8 <;> simp [hi])

theorem loByte_mkWord (h l : Byte) : loByte (mkWord h l) = l := by
  apply BitVec.eq_of_getLsbD_eq
  intro i hi
  rw [loByte, BitVec.getLsbD_setWidth, getLsbD_mkWord]
  simp [hi]

theorem hiByte_mkWord (h l : Byte) : hiByte (mkWord h l) = h := by
  apply BitVec.eq_of_getLsbD_eq
  intro i hi
  rw [hiByte, BitVec.getLsbD_setWidth, BitVec.getLsbD_ushiftRight, getLsbD_mkWord]
  simp [hi]

theorem mergeLanes_lo (o n : Word) (l : Lanes) : loByte (mergeLanes o n l) = if l.low then loByte n else loByte o := by
  unfold mergeLanes; rw [loByte_mkWord]
theorem mergeLanes_hi (o n : Word) (l : Lanes) : hiByte (mergeLanes o n l) = if l.high then hiByte n else hiByte o := by
  unfold mergeLanes; rw [hiByte_mkWord]
/-- The merged Command Word holds the row's code (R5, R183). -/
theorem mergedCommand_code {code : Byte} {w : CmdWrite} {s : State}
    (h : w.isHighByte = true → loByte (copyAt s 0) = code) : loByte (mergedCommand code w s) = code := by
  unfold mergedCommand
  rw [mergeLanes_lo]
  cases w with
  | word hi => simp [cmdWriteData, Lanes.word, loByte_mkWord]
  | lowByte => simp [cmdWriteData, loByte_mkWord]
  | highByte hi => simpa [cmdWriteData] using h rfl

/-! ### The write -/

theorem cmdWriteData_strobed (code : Byte) (w : CmdWrite) :
    ((cmdWriteData code w).2.low || (cmdWriteData code w).2.high) = true := by cases w <;> rfl

/-- A Command Word write is performed: it reaches RAM and the copy, and its merged word reaches the Command Unit
(R5, R183). -/
theorem commandCycle_performed {v : State} (code : Byte) (w : CmdWrite) (h : CycleReady v) :
    performCycle (commandCycle code w v) v = takeCommand (mergedCommand code w v)
      { takenState code w v with cu := v.cu } := by
  unfold commandCycle
  rw [pageWrite_performed h (by decide) (by decide) (by decide) _ _ (cmdWriteData_strobed code w)]
  simp only [handControl, mergeCopy, copyPlace, writeRam, mergedCommand, takenState, copyAt, Nat.zero_le, if_true]

/-- A Command Word write that arrives on an open bus. -/
theorem commandWrite_arrives {dt : Tick} {before v : State} (code : Byte) (w : CmdWrite) (h : CycleReady v)
    (ha : Arrives dt before v) :
    commandWrite dt code w before = takeCommand (mergedCommand code w v)
      { takenState code w v with cu := v.cu } := by
  rw [← commandCycle_performed code w h]
  exact pageWrite_arrives 0 _ _ ha

/-- The arguments the Command Unit takes are the copies of words 1 to 15, whatever the Command Word write
merged into word 0 (R5, R183). -/
theorem commandArgs_taken (code : Byte) (w : CmdWrite) (v : State) (cu : CommandUnit) :
    commandArgs { takenState code w v with cu := cu } = (v.bpu.copy.drop 1).take 15 := by
  simp only [commandArgs, takenState]
  cases v.bpu.copy <;> simp

end Sys2Proof.Machine
end

