-- ==== Sys2Proof/Laws/Engine.lean ====
section
/-! SUPPORT. What the engine's choice rests on: the kinds that may preempt, the jobs that wait at a full stack, what an
abandonment does, and when a word's end is the engine's choice alone. -/

namespace Sys2Proof.Machine

/-! ### The pending kinds -/

/-- The highest pending kind is pending. -/
theorem isPending_of_highestPending {s : State} {k : JobKind} (h : highestPending s = some k) :
    isPending s k = true := List.find?_some h

/-- With nothing pending, no kind is. -/
theorem isPending_of_none {s : State} (h : highestPending s = none) (k : JobKind) : isPending s k = false := by
  have hk := List.find?_eq_none.mp h k (by cases k <;> decide)
  simpa using hk

/-- The kind that may preempt is pending and does not wait. -/
theorem of_highestFree {s : State} {k : JobKind} (h : highestFree s = some k) :
    isPending s k = true ∧ s.mae.hasWaiting k = false := by
  have hk := List.find?_some h
  simpa using hk

/-- While no job waits at a full stack, the highest pending kind may preempt (R158). -/
theorem highestFree_eq {s : State} (h : s.mae.waits = []) (hm : s.mae.mirrorWaits = 0) :
    highestFree s = highestPending s := by
  unfold highestFree highestPending Engine.hasWaiting
  simp [h, hm]

/-! ### The jobs that wait at a full stack -/

/-- While the stack has room, no job waits anew. -/
theorem noteWaits_room {s : State} (h : s.mae.stack.length < 2) : noteWaits s = s := by
  unfold noteWaits
  split
  · exact if_pos h
  · rfl

@[simp] theorem noteWaits_running (s : State) : (noteWaits s).mae.running = s.mae.running := by
  unfold noteWaits; repeat' split
  all_goals simp [*]
@[simp] theorem noteWaits_stack (s : State) : (noteWaits s).mae.stack = s.mae.stack := by
  unfold noteWaits; repeat' split
  all_goals rfl
@[simp] theorem isPending_noteWaits (s : State) (k : JobKind) : isPending (noteWaits s) k = isPending s k := by
  unfold noteWaits
  split
  · split
    · rfl
    · cases k <;> rfl
  · rfl

/-- At a full stack every pending kind of higher rank than the running job waits for its end (R158). -/
theorem hasWaiting_noteWaits {s : State} {j : Job} {k : JobKind} (hj : s.mae.running = some j)
    (h : 2 ≤ s.mae.stack.length) (hp : isPending s k = true) (hk : kindRank k < kindRank j.work.kind) :
    (noteWaits s).mae.hasWaiting k = true := by
  have hl : ¬ s.mae.stack.length < Config.stackMax := Nat.not_lt.mpr h
  simp only [noteWaits, hj, if_neg hl, Engine.hasWaiting]
  by_cases hm : k = .mirror
  · subst hm
    simpa [isPending, List.length_pos_iff] using hp
  · have hr : k ∈ rankedKinds := by cases k <;> decide
    simp [hm, hr, hp, hk]

/-! ### Abandonments -/

/-- What `noteWaits` can do: it writes the model's notes of waiting jobs and nothing else (log 38). -/
theorem noteWaits_eq (s : State) : ∃ waits mirrorWaits,
    noteWaits s = { s with mae.waits := waits, mae.mirrorWaits := mirrorWaits } := by
  unfold noteWaits
  split
  · split
    exacts [⟨s.mae.waits, s.mae.mirrorWaits, rfl⟩, ⟨_, _, rfl⟩]
  · exact ⟨s.mae.waits, s.mae.mirrorWaits, rfl⟩

/-- What an abandonment can do: the jobs that meet `p` are off the stack and not running, and only the notes of waiting
jobs and, where the running job met `p`, the Pass-Over Count change besides (R12, R159, log 38). -/
theorem abandonWork_eq (p : Work → Bool) (s : State) : ∃ waits mirrorWaits passOver,
    (passOver = s.bpu.passOver ∨ (passOver = 0 ∧ s.mae.running.any (fun j => p j.work) = true)) ∧
    abandonWork p s = { s with
      bpu.passOver := passOver
      mae := { s.mae with
        running := s.mae.running.filter fun j => !p j.work
        stack := s.mae.stack.filter fun j => !p j.work
        waits := waits
        mirrorWaits := mirrorWaits } } := by
  obtain ⟨w, m, h⟩ := noteWaits_eq s
  unfold abandonWork
  rw [h]
  cases hr : s.mae.running with
  | none => exact ⟨w, m, s.bpu.passOver, .inl rfl, by simp [hr]⟩
  | some j =>
    cases hj : p j.work
    · exact ⟨w, m, s.bpu.passOver, .inl rfl, by simp [hr, hj, Option.filter]⟩
    · simp only [Option.any_some, hj, if_true, endRunning, Option.filter, Bool.not_true,
        Bool.false_eq_true, if_false, hr]
      split
      · exact ⟨[], 0, 0, .inr ⟨rfl, trivial⟩, rfl⟩
      · exact ⟨[], 0, s.bpu.passOver, .inl rfl, rfl⟩

/-! ### The Staging Queue before a full ring -/

/-- What R160's test of the first message does, all of it. -/
theorem dropStaleInfo_eq {s : State} {r : Ring} (h : s.mae.ring = some r) : dropStaleInfo s = staleDropped r s := by
  unfold dropStaleInfo staleDropped
  simp only [h, Ring.hasFree, raiseCause_eq, counterAdd, Bool.or_eq_true, decide_eq_true_eq]
  rfl

/-! ### The choice -/

/-- What may preempt the running job: a pending kind of higher rank that does not wait, the stack having room (R158). -/
theorem of_preempting {j : Job} {s : State} {k : JobKind} (h : preempting j s = some k) :
    highestFree s = some k ∧ kindRank k < kindRank j.work.kind ∧ s.mae.stack.length < 2 := by
  unfold preempting at h
  split at h
  · next hs =>
    rw [Option.filter_eq_some_iff] at h
    exact ⟨h.1, by simpa using h.2, hs⟩
  · exact absurd h nofun

/-- Nothing preempts the running job where no kind that may outranks it, or the stack is full (R158). -/
theorem preempting_eq_none {j : Job} {s : State}
    (h : (∀ k, highestFree s = some k → kindRank j.work.kind ≤ kindRank k) ∨ 2 ≤ s.mae.stack.length) :
    preempting j s = none := by
  cases hp : preempting j s with
  | none => rfl
  | some k =>
    obtain ⟨hf, hr, hl⟩ := of_preempting hp
    rcases h with h | h
    · exact absurd hr (Nat.not_lt.mpr (h k hf))
    · exact absurd hl (Nat.not_lt.mpr h)

/-- Where the job chosen runs and nothing preempts it, the engine's choice is made (R158). -/
theorem settleEngine_of_running {s : State} {j : Job} (hj : (chooseJob s).mae.running = some j)
    (h : preempting j (chooseJob s) = none) : settleEngine s = chooseJob s := by
  unfold settleEngine chooseJobs
  simp only [mustChoose, hj, h, Option.isSome_none, Bool.and_false, Bool.false_eq_true, if_false]

/-! ### The end of a SET RING's wait -/

/-- A Command Unit in which no SET RING waits is left alone. -/
theorem endRingWait_of_not {s : State} (h : setRingWaiting s.cu = false) : endRingWait s = s := by
  unfold endRingWait
  unfold setRingWaiting at h
  split <;> simp_all

/-- While a COMMAND or INFO job is in progress the wait goes on (R161). -/
theorem endRingWait_of_busy {s : State} (h : anyRingJob s.mae = true) : endRingWait s = s := by
  unfold endRingWait
  split <;> simp [h]

/-- With no SET RING waiting, what stands before the next cycle or tick is the engine's choice. -/
theorem settle_of_not {s : State} (h : setRingWaiting s.cu = false) : settle s = settleEngine s := by
  rw [settle, endRingWait_of_not h]

end Sys2Proof.Machine
end

