-- ==== Sys2Proof/Tests/Slice0.lean ====
section
/-! SUPPORT. Tests: the ill-formed terms that WellFormed refuses, small steps with results worked out from the
manual, and for each statement with hypotheses a state and operands that meet them. -/

-- The tests are checked one after another: each worker thread of Lean reserves memory of its own.
set_option Elab.async false

namespace Sys2Proof.Tests

open Sys2Proof.Machine

/-! ### WellFormed refuses -/

theorem smoke_captureWrite : wellFormed (.captureWrite 0 0#20 0#16 ⟨false, false⟩) = false := by decide
theorem smoke_permissionWord : wellFormed (.permissionWord 0 0#16 ⟨false, false⟩) = false := by decide
theorem smoke_attentionEnable : wellFormed (.attentionEnable 0 0#16 ⟨false, false⟩) = false := by decide
theorem smoke_requestClear : wellFormed (.requestClear 0 0#16 ⟨false, false⟩) = false := by decide
theorem smoke_faultClear : wellFormed (.faultClear 0 0#16 ⟨false, false⟩) = false := by decide
theorem smoke_ringReadIndex : wellFormed (.ringReadIndex 0 0#16 ⟨false, false⟩) = false := by decide
theorem smoke_unknownCommand : wellFormed (.unknownCommand 0 0x0F#8 .lowByte) = false := by decide
theorem smoke_fault_tuned : wellFormed (.fault 0 .a [0x81#8]) = false := by decide
theorem smoke_fault_empty : wellFormed (.fault 0 .a []) = false := by decide
theorem smoke_fault_received : wellFormed (.fault 0 .b [0x83#8, 1#8, 0#8, 7#8]) = false := by decide
theorem smoke_received : wellFormed (.received 0 .a 0x80#8 (List.replicate 256 0#8)) = false := by decide +kernel
theorem smoke_accepted : wellFormed (.fault 0 .a [0x83#8, 2#8, 0#8, 7#8]) = true := by decide

/-! ### Small states -/

/-- The state after a command. -/
def after (c : Instr) (s : State) : State :=
  match exec c s with
  | .next t => t
  | .fault _ => s
  | .refused _ => s

/-- Car 517 out of power-on reset, in normal mode, with an idle engine. -/
def up : State := { State.reset with porn := true, carid := 517#10 }

/-- `s` with the Control Write Copy holding these words from word 1 on. -/
def withArgs (ws : List Word) (s : State) : State :=
  { s with bpu.copy := ((0#16 :: ws) ++ List.replicate 19 0#16).take 19 }

/-- An ACTIVE CAPTURE window of two words at 0x08000, tag 7, mode LAST, URGENT. -/
def capture : Capture :=
  { state := .active, mode := .last, changedOnly := false, gate := none, escalate := none, cls := .urgent,
    seq := 4#8, dirty := true, armed := false, triggerPending := false, periodCount := 0,
    image := [some 1#8, some 2#8, some 3#8, some 4#8] }

def captureEntry : Entry := ⟨.localLoad, 0x8000, 2, 7#8, .capture capture⟩

/-- A guarded MIRROR window of four words at 0x09000, tag 9, with an age word. -/
def mirrorEntry (guarded : Bool) : Entry := ⟨.radioLoad, 0x9000, 4, 9#8, .mirror ⟨guarded, true, 3, 2, false⟩⟩

/-- Window 3 captures, window 5 mirrors. -/
def windowed : State :=
  { up with wt := ((List.replicate 16 none).set 3 (some captureEntry)).set 5 (some (mirrorEntry true)) }

/-- A ring of 8 slots at 0x0A000 with records in slots 2 and 3. -/
def ring : Ring := ⟨0xA000, 8, 4, 2, 4⟩

def ringed : State := { up with mae.ring := some ring }

/-- LOCKED in zone 13, frames of 200,000 ticks and 16 slots, 1,000 ticks into the frame, one grant of the car:
slots 9 to 11. -/
def locked : State :=
  { up with
    ft := { FrameTimer.reset with
      tick := 1000#32, next := some 200000#32, period := 200000, slots := 16, slotLength := 12500, zone := 13#8,
      frame := 10#6, lock := .locked, nextSlot := 1 }
    ssu.grants := [⟨9, 3⟩]
    ab := { Airtime.reset with allowance := 100, credit := 100, restart := false } }

/-- Nothing is overdue. -/
def quiet (s : State) : Bool := (firstDue s).all fun p => decide (0 ≤ p.2)

/-- A command that comes at once finds the state as it stands. -/
theorem elapse_zero {s : State} (h : quiet s = true) : elapse 0#32 s = s :=
  elapse_now fun e d hd => by simpa [quiet, hd] using h

/-- The event is due and nothing is due before it. -/
def dueHere (e : Event) (s : State) : Bool :=
  match untilDue s e, firstDue s with
  | some d, some p => decide (d ≤ 0 ∧ d ≤ p.2)
  | _, _ => false

/-- The row of an event that is due finds the state as it stands. -/
theorem reachEvent_here {e : Event} {s : State} (h : dueHere e s = true) : reachEvent e s = s := by
  unfold dueHere at h
  split at h
  · rename_i d p hd hp
    have hb := of_decide_eq_true h
    exact reachEvent_now hd hb.1 fun f c hf => by rw [hp] at hf; cases hf; exact hb.2
  · cases h

/-- A property of every tick at which something falls due, tested. -/
theorem due_of_test {s : State} {p : Tick → Bool} (h : ((events s).all fun e => (dueTick s e).all p) = true) :
    ∀ e ∈ events s, ∀ at_, dueTick s e = some at_ → p at_ = true := fun e he at_ hd => by
  simpa [hd] using List.all_eq_true.mp h e he

/-- The conditions of `CycleReady` and of an open bus with no ready word, as one test. -/
def readyTest (s : State) : Bool :=
  s.porn && !s.vrst && decide (s.bpu.hold = none) && decide (s.bpu.onBus = none) &&
    decide (s.mae.running = none) && decide (s.bpu.base = 0xF0000) && decide (s.bpu.copy.length = 19) && quiet s

theorem cycleReady_of_test {s : State} (h : readyTest s = true) : CycleReady s := by
  simp only [readyTest, Bool.and_eq_true, decide_eq_true_eq, Bool.not_eq_true'] at h
  obtain ⟨⟨⟨⟨⟨⟨⟨hp, hv⟩, -⟩, -⟩, -⟩, hb⟩, hc⟩, -⟩ := h
  exact ⟨hp, hv, ⟨0, by omega, hb⟩, hc⟩

/-- A row that comes at once finds the bus open and is performed in the state as it stands. -/
theorem arrives_of_test {s : State} (h : readyTest s = true) : Arrives 0#32 s s := by
  simp only [readyTest, Bool.and_eq_true, decide_eq_true_eq, Bool.not_eq_true'] at h
  obtain ⟨⟨⟨⟨⟨⟨⟨-, -⟩, hh⟩, hb⟩, hr⟩, -⟩, -⟩, hq⟩ := h
  have hw : readyWord s = none := by simp only [readyWord, hr, Option.bind_none, ite_self]
  unfold Arrives
  rw [elapse_zero hq]
  exact ⟨⟨hh, hb, fun b hb' => by rw [hw] at hb'; cases hb'⟩, by simp [passed, hw]⟩

/-- `s` takes a command at once. -/
theorem ready (code : Byte) (s : State) (h : readyTest s = true) (hp : s.passOnly = false)
    (hi : s.cu.state = .idle) : Arrives 0#32 s s ∧ CommandReady code .lowByte s :=
  ⟨arrives_of_test h, cycleReady_of_test h, hp, hi, fun hw => by cases hw⟩

theorem readyTest_withArgs {s : State} (ws : List Word) (h : readyTest s = true) :
    readyTest (withArgs ws s) = true := by
  have hc : (withArgs ws s).bpu.copy.length = 19 := by simp [withArgs]
  simp only [readyTest, Bool.and_eq_true, decide_eq_true_eq] at h ⊢
  exact ⟨⟨h.1.1, hc⟩, h.2⟩

/-! ### The step, the invariants, the resets -/

theorem witness_StepRunsFrontCommand :
    { up with pending := [.jobStart, .frameStart] }.pending = [.jobStart, .frameStart] ∧ up.pending = [] := by
  decide

/-- A state whose step answers a next state. -/
def queued : State := { windowed with pending := [.jobStart] }

/-- The premises of the invariant statements meet together, and the step answers a next state. -/
theorem witness_StepKeeps :
    MemoryOk queued ∧ PageOk queued ∧ TablesOk queued ∧ PowerOk queued ∧ ListsOk queued ∧ StackOk queued ∧
      CreditOk queued ∧ RolesOk queued ∧ RingOk queued ∧ queued.porn = true ∧ step queued = .next windowed :=
  ⟨show Memory.wf [] by decide, ⟨0, by decide, rfl⟩, ⟨rfl, rfl, rfl, rfl⟩, fun h => absurd h (by decide),
    ⟨by decide, by decide, by decide, by decide, by decide, by decide, by decide, by decide, by decide, by decide,
      (fun _ h => nomatch h), fun h => absurd h (by decide)⟩,
    List.Pairwise.nil, ⟨by decide, by decide⟩, ⟨by decide, by decide, by decide, by decide⟩,
    fun _ h => Bool.noConfusion (congrArg Option.isSome h), rfl, rfl⟩

theorem witness_StartUp : (517#10 ≠ 0#10 ∧ 517#10 ≠ 1023#10) ∧ passStraps 0#10 = true ∧
    passStraps 1023#10 = true := by decide

/-- CPSEL 3 puts the Control Page at 0xF6000 (R2), and link B tunes to channel 8 (R181). -/
theorem test_startUp :
    (after (.startUp 517#10 3#3) State.reset).bpu.base = 0xF6000 ∧
      (after (.startUp 517#10 3#3) State.reset).xu.linkB.txd = [[0x01#8, 0x08#8]] := by decide

theorem test_startUp_passOnly : (after (.startUp 1023#10 0#3) State.reset).uq.records = [] := by decide

theorem witness_PowerOnReset : up.porn = true ∧ up.bpu.hold = none ∧
    { up with bpu.hold := some (writeCycle 2#20 5#16 Lanes.word) }.bpu.hold =
      some (writeCycle 2#20 5#16 Lanes.word) ∧
    { up with bpu.hold := some (readCycle 2#20 Lanes.word) }.bpu.hold = some (readCycle 2#20 Lanes.word) := by
  decide

theorem test_powerOnReset : (after .powerOnReset windowed).wt = List.replicate 16 none := by decide

theorem witness_VehicleReset : elapse 0#32 windowed = windowed ∧
    elapse 0#32 { windowed with vrst := true } = { windowed with vrst := true } ∧
    windowed.porn = true ∧ windowed.vrst = false ∧ TablesOk windowed ∧
    { windowed with vrst := true }.vrst = true ∧ TablesOk { windowed with vrst := true } :=
  ⟨elapse_zero (by decide), elapse_zero (by decide), rfl, rfl, ⟨rfl, rfl, rfl, rfl⟩, rfl, ⟨rfl, rfl, rfl, rfl⟩⟩

/-- A LOCAL window goes, a RADIO one stays (R35). -/
theorem test_vrstAsserted : (entryAt (after (.vrstAsserted 1) windowed) 3).isNone = true ∧
    entryAt (after (.vrstAsserted 1) windowed) 5 = some (mirrorEntry true) := by decide +kernel

theorem test_vrstReleased :
    (after (.vrstReleased 1) { windowed with vrst := true }).mae.primeList = [3] := by decide

/-- With a suspended STATUS job the release asks no new one: the job takes its restart mark (R156, R167). -/
theorem test_vrstReleased_restart :
    let t := vehicleRequests { windowed with vrst := true, mae.stack := [⟨.status false, 5⟩] }
    t.mae.status = false ∧ t.mae.stack = [⟨.status true, 5⟩] := by decide

/-! ### The bus path -/

/-- An engine with a word of the job ready, passed over so many times. -/
def attending (k : Work) (passOver : Nat) : State :=
  { up with mae.running := some ⟨k, 0⟩, bpu.passOver := passOver }

theorem witness_ArbiterDecides :
    (up.bpu.hold = none ∧ up.porn = true ∧ up.bpu.onBus = none ∧ readyWord up = none) ∧
    ({ up with bpu.onBus := some ⟨.status, 0, some 0#16, 0⟩ }.bpu.onBus =
      some ⟨.status, 0, some 0#16, 0⟩) ∧
    (readyWord (attending .attention 0)).map BusWord.kind = some .attention ∧
    (readyWord (attending (.status false) 63)).map BusWord.kind = some .status ∧
    (attending (.status false) 63).bpu.passOver < 64 ∧
    64 ≤ (attending (.status false) 64).bpu.passOver := by decide

/-- Five ticks in which a ready word begins and nothing falls due (R10). -/
theorem witness_ArbiterDecides_gap :
    let s := attending (.status false) 63
    0 < (5#32).toNat ∧ s.porn = true ∧ settle s = s ∧ s.bpu.onBus = none ∧ s.bpu.hold = none ∧
    (readyWord s).isSome = true ∧
    ∀ e ∈ events s, ∀ at_, dueTick s e = some at_ → decide (((5#32).toNat : Int) ≤ tickDiff at_ s.ft.tick) = true :=
  ⟨by decide, rfl, by decide, rfl, rfl, by decide, due_of_test (by decide)⟩

/-- A cycle goes ahead of a ready word that it passes over for the 64th time, and is performed in the state with the
count at 64 (R12): the statements over `Performs` speak of it. -/
theorem witness_Arrives_passing :
    Arrives 0#32 (attending (.status false) 63) (attending (.status false) 64) ∧
      CycleReady (attending (.status false) 64) := by
  refine ⟨?_, rfl, rfl, ⟨0, by decide, rfl⟩, rfl⟩
  unfold Arrives
  rw [elapse_zero (by decide)]
  exact ⟨⟨rfl, rfl, fun b hb => by cases hb; decide⟩, rfl⟩

/-- At a Pass-Over Count of 63 the read goes first; at 64 it is held (R12). -/
theorem test_passOver :
    (after (.processorRead 0 0x100#20 Lanes.word false) (attending (.status false) 63)).bpu.passOver = 64 ∧
    (after (.processorRead 0 0x100#20 Lanes.word false) (attending (.status false) 64)).bwait = true := by
  decide

/-- After a gap of one tick the ready word is on the bus: the read is held for it, passing nothing over (R10), and
goes ahead of the next word once it is done; with no command the word takes one idle step (log 2). -/
theorem test_gap :
    let t := after (.processorRead 1 0x100#20 Lanes.word false) (attending (.status false) 63)
    let u := after .maeWordCycleComplete t
    (t.bwait, t.bpu.passOver, t.bpu.onBus.map BusWord.addr) = (true, 63, some 0xF00C0) ∧
    (u.bwait, u.bpu.passOver, u.bpu.onBus, u.mae.running) = (false, 0, none, some ⟨.status false, 1⟩) ∧
    (idleTick (idleTick (attending (.status false) 63))).mae.running = some ⟨.status false, 1⟩ := by decide +kernel

/-- The word `b` on the bus, and a read held for it. -/
def onBus (b : BusWord) : State := { up with bpu.onBus := some b, bpu.hold := some (readCycle 0#20 Lanes.word) }

theorem witness_WordReleasesHeldCycle : ∀ b ∈ [(⟨.status, 0, some 1#16, 0⟩ : BusWord), ⟨.prime, 0, none, 0⟩],
    elapse 0#32 (onBus b) = onBus b ∧ (onBus b).bpu.onBus = some b ∧
      (onBus b).bpu.hold = some (readCycle 0#20 Lanes.word) :=
  fun _ _ => ⟨elapse_zero rfl, rfl, rfl⟩

/-- At the last word of a job the next pending job starts, and the held cycle then goes ahead of its first word with
the count at 0 (R158, and the worked sequence after R12). -/
theorem test_choiceBeforeHeldCycle :
    let t := after .maeWordCycleComplete { onBus ⟨.mirror, 0x9006, some 2#16, 0⟩ with
      wt := windowed.wt, mae.running := some ⟨.age 5, 0⟩, mae.status := true }
    (t.mae.running, t.bpu.passOver, t.bwait) = (some ⟨.status false, 0⟩, 0, false) := by decide +kernel

/-- Table 1-3 at the edges of its ranges. -/
theorem witness_PageWordClasses :
    classify up 0xF001E = .control 15 ∧ classify up 0xF0020 = .owned ∧ classify up 0xF002E = .owned ∧
    classify up 0xF0030 = .control 24 ∧ classify up 0xF0038 = .control 28 ∧ classify up 0xF003A = .plain ∧
    classify up 0xF0044 = .owned ∧ classify up 0xF0046 = .plain ∧ classify up 0xF007E = .plain ∧
    classify up 0xF0080 = .owned ∧ classify up 0xF013E = .owned ∧ classify up 0xF0140 = .plain := by decide

/-- Table 1-2 outside the page, at both ends of a ring, a mirror window and a capture window. -/
theorem witness_PageWordClasses_outside :
    let opened := { windowed with wt := (List.replicate 16 none).set 5 (some (mirrorEntry false)) }
    classify ringed 0x9FFE = .plain ∧ classify ringed 0xA000 = .owned ∧ classify ringed 0xA1FE = .owned ∧
    classify ringed 0xA200 = .plain ∧ classify windowed 0x9000 = .guarded ∧ classify windowed 0x9006 = .guarded ∧
    classify windowed 0x9008 = .plain ∧ classify opened 0x9006 = .mirrorOpen ∧
    classify windowed 0x8002 = .capture 3 1 ∧ classify windowed 0x8004 = .plain := by decide

theorem witness_ForwardedWrite :
    State.reset.porn = false ∧ classify windowed (wordAddr 0x100#20) = .plain ∧
    classify { windowed with wt := (List.replicate 16 none).set 5 (some (mirrorEntry false)) }
      (wordAddr 0x9006#20) = .mirrorOpen ∧
    { windowed with vrst := true }.vrst = true ∧
    classify { windowed with vrst := true } (wordAddr 0x8000#20) = .capture 3 0 := by decide

/-- The low byte alone changes (R4). -/
theorem test_processorWrite_lowByte :
    readWord (after (.processorWrite 3 0x100#20 0xABCD#16 ⟨true, false⟩ false) up).ram 0x100 = 0x00CD#16 := by
  decide

theorem witness_SuppressedWrite : windowed.porn = true ∧ Strobed ⟨true, false⟩ ∧
    classify windowed (wordAddr 0x9000#20) = .guarded ∧ classify windowed (wordAddr 0xF0020#20) = .owned :=
  ⟨rfl, rfl, by decide, by decide⟩

theorem test_processorWrite_guarded :
    (after (.processorWrite 3 0x9000#20 1#16 Lanes.word false) windowed).bpu.guardViolations = 1 ∧
    (after (.processorWrite 3 0x9000#20 1#16 Lanes.word false) windowed).ram = [] := by decide

theorem up_ready : CycleReady up := cycleReady_of_test (by decide)

theorem witness_ArgumentWrite : CycleReady up ∧ Arrives 0#32 up up ∧ Strobed ⟨false, true⟩ ∧
    classify up (wordAddr 0xF0002#20) = .control 1 ∧ classify up (wordAddr 0xF001E#20) = .control 15 :=
  ⟨up_ready, arrives_of_test (by decide), rfl, by decide, by decide⟩

theorem witness_PlainRead : wordAddr 0x100#20 ≠ pageAddr up 32 ∧
    wordAddr 0x100#20 ≠ pageAddr up 110 ∧ { up with vrst := true }.vrst = true ∧ State.reset.porn = false := by
  decide

theorem test_processorRead :
    (after (.processorRead 0 0x101#20 Lanes.word false)
      (after (.processorWrite 0 0x100#20 0x1234#16 Lanes.word false) up)).bpu.pd = 0x1234#16 := by decide

theorem windowed_ready : CycleReady windowed := cycleReady_of_test (by decide)

theorem windowed_tables : TablesOk windowed := ⟨rfl, rfl, rfl, rfl⟩

theorem witness_CaptureWrite : CycleReady windowed ∧ TablesOk windowed ∧ Strobed Lanes.word ∧
    classify windowed (wordAddr 0x8002#20) = .capture 3 1 ∧ entryAt windowed 3 = some captureEntry ∧
    captureEntry.body = .capture capture ∧ capture.state = .active :=
  ⟨windowed_ready, windowed_tables, rfl, by decide, by decide, rfl, rfl⟩

/-- A LOADING window 3 that lacks the marks of word 0, and of byte 2 besides unless it is the last word missing. -/
def loadingCapture (last : Bool) : Capture :=
  { capture with
    state := .loading, triggerPending := true, image := [none, none, if last then some 3#8 else none, some 4#8] }

def loadingWith (last : Bool) : State :=
  { windowed with wt := windowed.wt.set 3 (some { captureEntry with body := .capture (loadingCapture last) }) }

/-- A write of word 0 of a LOADING window leaves byte 2 unprimed, or sets the last mark. -/
theorem witness_CaptureWrite_loading :
    (∀ last, CycleReady (loadingWith last) ∧ TablesOk (loadingWith last) ∧
      classify (loadingWith last) (wordAddr 0x8000#20) = .capture 3 0 ∧
      (loadingCapture last).state = .loading ∧ (loadingCapture last).gate = none ∧
      (loadingCapture last).mode = .last ∧ (loadingCapture last).triggerPending = true) ∧
    (writeImage 0 1#16 Lanes.word (loadingCapture false).image).any Option.isNone = true ∧
    (writeImage 0 1#16 Lanes.word (loadingCapture true).image).all Option.isSome = true :=
  ⟨fun last => ⟨cycleReady_of_test rfl, ⟨rfl, rfl, rfl, rfl⟩, by cases last <;> decide, rfl, rfl, rfl, rfl⟩,
    by decide, by decide⟩

/-- A trigger of a LOADING entry, one under VRST, a closed gate, an open gate and no gate (R47, R50). -/
theorem witness_fireTrigger :
    let gated := fun (sense : Bool) => { capture with gate := some ⟨2, sense⟩ }
    (∀ last, (loadingCapture last).state = .loading) ∧ { windowed with vrst := true }.vrst = true ∧
    (capture.state = .active ∧ windowed.vrst = false ∧ capture.gate = none) ∧
    ((gated true).gate = some ⟨2, true⟩ ∧ conditionFlag windowed.ftu.flags 2 = false ∧
      (gated false).gate = some ⟨2, false⟩) := by
  exact ⟨fun _ => rfl, by decide, by decide, by decide⟩

/-- A write of the last word fires LAST, and the record holds the image just written (R45, R46, R52). -/
theorem test_captureWrite :
    (after (.captureWrite 0 0x8002#20 0xBBAA#16 Lanes.word) windowed).uq.records.map
      (fun r => (r.tag, r.seq, r.payload)) = [(7#8, 5#8, [1#8, 2#8, 0xAA#8, 0xBB#8])] := by decide

theorem test_captureWrite_firstWord :
    (after (.captureWrite 0 0x8000#20 0xBBAA#16 Lanes.word) windowed).uq.records = [] := by decide

theorem witness_AttentionWords : CycleReady up ∧ Strobed ⟨true, false⟩ := ⟨up_ready, rfl⟩

theorem test_permissionWord : (after (.permissionWord 0 0x003F#16 Lanes.word) up).au.permissions = 0x3F#6 := by
  decide
theorem test_attentionEnable : (after (.attentionEnable 0 0x0001#16 ⟨true, false⟩) up).au.enable = true := by
  decide
theorem test_requestClear :
    (after (.requestClear 0 0x0011#16 Lanes.word) { up with au.requests := 0x3F#6 }).au.requests = 0x2E#6 := by
  decide
theorem test_faultClear :
    (after (.faultClear 0 0x0081#16 Lanes.word) { up with au.causes := 0xFF#8 }).au.causes = 0x7E#8 := by decide

theorem witness_RingReadIndex : CycleReady ringed ∧ Strobed Lanes.word ∧ ringed.mae.ring = some ring ∧
    0 < ring.slots ∧ up.mae.ring = none :=
  ⟨cycleReady_of_test (by decide), rfl, rfl, by decide, rfl⟩

/-- A full ring, W and V one before Rd, with two INFO messages and a COMMAND message staged. -/
def fullRing : Ring := ⟨0xA000, 8, 1, 2, 1⟩
def infoStaged : Staged := ⟨.info, 517#11, 1#8, 13#8, 10#6, []⟩
def ringFull : State :=
  { up with mae.ring := some fullRing, mae.staging := [infoStaged, infoStaged, { infoStaged with cls := .command }] }

theorem witness_RingReadIndex_full : CycleReady ringFull ∧ ringFull.mae.ring = some fullRing ∧
    ¬((fullRing.v + 1) % fullRing.slots ≠ fullRing.rd) ∧ 0 < fullRing.slots :=
  ⟨cycleReady_of_test (by decide), rfl, by decide, by decide⟩

/-- An Rd that frees no slot drops both INFO messages; one that frees a slot keeps them (R160, R164). -/
theorem test_ringReadIndex_full :
    let t := after (.ringReadIndex 0 2#16 Lanes.word) ringFull
    (t.mae.staging.map Staged.cls, t.mae.ringOverflows, t.au.causes) = ([.command], 2, 16#8) ∧
    (after (.ringReadIndex 0 3#16 Lanes.word) ringFull).mae.staging = ringFull.mae.staging := by decide

/-- Rd may move up to W; one beyond is refused and counted, and N or above is clamped (R164). -/
theorem test_ringReadIndex :
    (after (.ringReadIndex 0 4#16 Lanes.word) ringed).mae.ring.map Ring.rd = some 4 ∧
    (after (.ringReadIndex 0 5#16 Lanes.word) ringed).mae.ring.map Ring.rd = some 2 ∧
    (after (.ringReadIndex 0 5#16 Lanes.word) ringed).mae.indexFaults = 1 ∧
    (after (.ringReadIndex 0 8#16 Lanes.word) ringed).mae.indexFaults = 1 := by decide

theorem witness_ControlWritesInVehicleReset :
    let v : State := { up with vrst := true }
    v.porn = true ∧ v.vrst = true ∧ PageOk v :=
  ⟨rfl, rfl, ⟨0, by decide, rfl⟩⟩

/-- The Attention Word in RAM shows a class whose flag is set. -/
def shown (v : Word) (requests : BitVec 6) : State :=
  { up with ram := writeWord [] 0xF0040 v, au.requests := requests, au.enable := true }

theorem witness_Acceptance :
    (CycleReady (shown 1#16 1#6) ∧ classOfValue (readWord (shown 1#16 1#6).ram 0xF0040) = some .stop ∧
      (shown 1#16 1#6).au.requests &&& requestBit .stop ≠ 0#6) ∧
    (CycleReady (shown 6#16 32#6) ∧ classOfValue (readWord (shown 6#16 32#6).ram 0xF0040) = some .info ∧
      (shown 6#16 32#6).au.requests &&& requestBit .info ≠ 0#6) ∧
    (CycleReady (shown 0xFF#16 1#6) ∧ classOfValue (readWord (shown 0xFF#16 1#6).ram 0xF0040) = none) :=
  ⟨⟨cycleReady_of_test (by decide), by decide, by decide⟩,
    ⟨cycleReady_of_test (by decide), by decide, by decide⟩, ⟨cycleReady_of_test (by decide), by decide⟩⟩

/-- An accepted STOP offers a STOP_ACK (R174). -/
theorem test_acceptance : (after (.acceptance 0 Lanes.word) (shown 1#16 3#6)).au.requests = 2#6 ∧
    (after (.acceptance 0 Lanes.word) (shown 1#16 3#6)).au.enable = false ∧
    (after (.acceptance 0 Lanes.word) (shown 1#16 3#6)).uq.records.map Record.tag = [0xF1#8] := by decide

theorem test_syncErrorCountRead :
    (after (.syncErrorCountRead 0 Lanes.word) { up with ft.syncErrors := 9 }).ft.syncErrors = 0 := by decide

/-! ### The Command Unit -/

/-- `s` takes the command of this code, with its Command Word's low byte written at once. -/
def Takes (code : Byte) (s : State) : Prop := Arrives 0#32 s s ∧ CommandReady code .lowByte s


/-- The result code in the pending RESULT job. -/
def resultOf (s : State) : Option Byte := s.mae.result.map fun r => loByte (r.words.getD 7 0#16)

/-- `s` in PASS-ONLY mode, and `s` with a command in progress. -/
def passing (s : State) : State := { s with passOnly := true }
def busy (s : State) : State := { s with cu.state := .executing 0x03#8 5#4 }

theorem witness_CommandsRunWhenIdle : ∀ p ∈ commandRows, Takes p.1 up :=
  fun p _ => ready p.1 up (by decide) rfl rfl

theorem witness_CommandAnswers :
    (Arrives 0#32 up up ∧ CycleReady up ∧ up.cu.state = .idle ∧ up.passOnly = false ∧ 0x0F < (0x10#8).toNat) ∧
    (Arrives 0#32 (passing up) (passing up) ∧ CycleReady (passing up) ∧ (passing up).cu.state = .idle ∧
      (passing up).passOnly = true) ∧
    (Arrives 0#32 (busy up) (busy up) ∧ CycleReady (busy up) ∧ (busy up).cu.state ≠ .idle) ∧
    (codeLoadWindow, Instr.loadWindow) ∈ commandRows ∧ (codeRestartLink, Instr.restartLink) ∈ commandRows ∧
    (wordAddr 0xF0000#20 = pageAddr up 0 ∧ loByte (mergeLanes (copyAt up 0) 0x0B00#16 Lanes.word) = 0#8) :=
  ⟨⟨arrives_of_test (by decide), up_ready, rfl, rfl, by decide⟩,
    ⟨arrives_of_test (by decide), cycleReady_of_test (by decide), rfl, rfl⟩,
    ⟨arrives_of_test (by decide), cycleReady_of_test (by decide), by decide⟩, List.mem_cons_self ..,
    by simp [commandRows], by decide, by decide⟩

/-- BAD_CODE with the code and the tag echoed (Table 11-3). -/
theorem test_unknownCommand :
    (after (.unknownCommand 0 0x10#8 (.word 0x0B#8)) up).mae.result.map ResultJob.words =
      some [0x0010#16, 0#16, 0#16, 0#16, 0#16, 0#16, 0#16, 0x0B02#16] := by decide

/-- A Command Word of code 0 is no command (R183). -/
theorem test_codeZero : (after (.processorWrite 0 0xF0000#20 0x0B00#16 Lanes.word false) up).cu = up.cu ∧
    copyAt (after (.processorWrite 0 0xF0000#20 0x0B00#16 Lanes.word false) up) 0 = 0x0B00#16 := by decide

theorem test_unknownCommand_busy : (after (.unknownCommand 0 0x10#8 .lowByte) (busy up)).cu.overruns = 1 ∧
    (after (.unknownCommand 0 0x10#8 .lowByte) (busy up)).au.causes = 0x40#8 := by decide

/-- Values at both ends of their ranges, and one beyond. -/
def timingArgs (comp : Word) : State := withArgs [comp, 100#16, 0xFFFF#16, 0#16, 1000#16] up

theorem witness_TimingAndMargin :
    Takes codeSetTiming (timingArgs 4000#16) ∧
    Takes codeSetTiming (timingArgs 4001#16) ∧
    Takes codeSetMargin (withArgs [31#16] up) ∧
    Takes codeSetMargin (withArgs [32#16] up) :=
  ⟨ready _ _ (by decide) rfl rfl, ready _ _ (by decide) rfl rfl, ready _ _ (by decide) rfl rfl,
    ready _ _ (by decide) rfl rfl⟩

theorem test_setTiming : (after (.setTiming 0 .lowByte) (timingArgs 4001#16)).ft.timing =
      ⟨4000, 100, 300, 0, 1000⟩ ∧
    resultOf (after (.setTiming 0 .lowByte) (timingArgs 4001#16)) = some 1#8 ∧
    resultOf (after (.setTiming 0 .lowByte) (timingArgs 4000#16)) = some 0#8 := by decide

theorem test_setMargin : (after (.setMargin 0 .lowByte) (withArgs [32#16] up)).xu.margin = 31 ∧
    resultOf (after (.setMargin 0 .lowByte) (withArgs [31#16] up)) = some 0#8 := by decide

theorem aliasReady (code : Byte) (i address mask : Word) :
    Takes code (withArgs [i, address, mask] up) := ready _ _ rfl rfl rfl

/-- The clauses of the alias statement at the edges of their ranges. -/
theorem witness_AliasCommands :
    (∀ code i address mask, Takes code (withArgs [i, address, mask] up)) ∧
    copyAt (withArgs [6#16, 1024#16, 127#16] up) 1 = 6#16 ∧
    copyAt (withArgs [5#16, 1024#16, 127#16] up) 1 = 5#16 ∧
    copyAt (withArgs [5#16, 2047#16, 127#16] up) 2 = 2047#16 ∧
    copyAt (withArgs [5#16, 2048#16, 128#16] up) 3 = 128#16 ∧
    copyAt (withArgs [5#16, 0#16, 0#16] up) 3 = 0#16 :=
  ⟨aliasReady, by decide, by decide, by decide, by decide, by decide⟩

theorem test_loadAlias :
    resultOf (after (.loadAlias 0 .lowByte) (withArgs [6#16, 1024#16, 127#16] up)) = some 3#8 ∧
    resultOf (after (.loadAlias 0 .lowByte) (withArgs [5#16, 2048#16, 1#16] up)) = some 4#8 ∧
    resultOf (after (.loadAlias 0 .lowByte) (withArgs [5#16, 1024#16, 128#16] up)) = some 4#8 ∧
    groupAt (after (.loadAlias 0 .lowByte) (withArgs [5#16, 2047#16, 127#16] up)) 5 =
      some ⟨.localLoad, 2047, 127#7⟩ := by decide

theorem test_clearAlias : resultOf (after (.clearAlias 0 .lowByte) (withArgs [6#16] up)) = some 3#8 ∧
    resultOf (after (.clearAlias 0 .lowByte) (withArgs [5#16] up)) = some 0#8 := by decide

/-! ### Windows and rules -/

/-- LOAD WINDOW's words for a CAPTURE window of `length` words: LAST, no gate, no escalation, URGENT. -/
def captureArgs (index base high tagLength : Word) (s : State) : State :=
  withArgs [index, base, high, tagLength, 0#16, 0#16, 0#16, 0#16] s

def newCapture (length : Nat) : Capture :=
  { state := .loading, mode := .last, changedOnly := false, gate := none, escalate := none, cls := .urgent,
    seq := 0#8, dirty := true, armed := false, triggerPending := false, periodCount := 0,
    image := List.replicate (2 * length) none }

/-- A state whose Capture Store holds 1,000 words (no load makes one: sixteen windows of 64 fill the store). -/
def stuffed : State :=
  { up with wt := (List.replicate 16 none).set 3 (some { captureEntry with length := 1000 }) }

/-- The entry the arguments give. -/
def given (s : State) : Option Entry := entryOfArgs .localLoad ((s.bpu.copy.drop 1).take 15)

theorem witness_LoadWindowChecks :
    (∀ index base high tagLength, Takes codeLoadWindow
      (captureArgs index base high tagLength windowed)) ∧
    (∀ index base high tagLength, Takes codeLoadWindow
      (captureArgs index base high tagLength ringed)) ∧
    Takes codeLoadWindow (captureArgs 0#16 0#16 0#16 0x0119#16 stuffed) ∧
    (given (captureArgs 15#16 0x4000#16 0#16 0x0702#16 windowed)).map Entry.tag = some 7#8 ∧
    (given (captureArgs 15#16 0x8002#16 0#16 0x0801#16 windowed)).map Entry.base = some 0x8002 ∧
    (given (captureArgs 15#16 0x01FE#16 15#16 0x0801#16 windowed)).map Entry.base = some 0xF01FE ∧
    (given (captureArgs 0#16 0xA1FE#16 0#16 0x0801#16 ringed)).map Entry.base = some 0xA1FE ∧
    (given (captureArgs 0#16 0#16 0#16 0x0119#16 stuffed)).map Entry.length = some 25 :=
  ⟨fun _ _ _ _ => ready _ _ rfl rfl rfl, fun _ _ _ _ => ready _ _ rfl rfl rfl, ready _ _ (by decide) rfl rfl,
    by decide, by decide, by decide, by decide, by decide⟩

/-- BAD_INDEX, BAD_FIELD, DUP_TAG, OVERLAP and NO_SPACE, each one step beyond a load that passes. -/
theorem test_loadWindow_refused :
    resultOf (after (.loadWindow 0 .lowByte) (captureArgs 16#16 0x4000#16 0#16 0x0801#16 windowed)) = some 3#8 ∧
    resultOf (after (.loadWindow 0 .lowByte) (captureArgs 15#16 0x4000#16 0#16 0x0841#16 windowed)) = some 4#8 ∧
    resultOf (after (.loadWindow 0 .lowByte) (captureArgs 15#16 0x4000#16 0#16 0x0702#16 windowed)) = some 6#8 ∧
    resultOf (after (.loadWindow 0 .lowByte) (captureArgs 15#16 0x8002#16 0#16 0x0801#16 windowed)) = some 7#8 ∧
    resultOf (after (.loadWindow 0 .lowByte) (captureArgs 0#16 0#16 0#16 0x0119#16 stuffed)) = some 8#8 := by
  decide +kernel

theorem witness_LoadWindowPlaces :
    let s := captureArgs 15#16 0x8004#16 0#16 0x0840#16 windowed
    Takes codeLoadWindow s ∧ TablesOk s ∧
      given s = some ⟨.localLoad, 0x8004, 64, 8#8, .capture (newCapture 64)⟩ ∧
      tagTaken s 15 ⟨.localLoad, 0x8004, 64, 8#8, .capture (newCapture 64)⟩ = false ∧
      overlaps s 15 ⟨.localLoad, 0x8004, 64, 8#8, .capture (newCapture 64)⟩ = false ∧
      storeShort s 15 ⟨.localLoad, 0x8004, 64, 8#8, .capture (newCapture 64)⟩ = false :=
  ⟨ready _ _ (by decide) rfl rfl, ⟨rfl, rfl, rfl, rfl⟩, by decide +kernel, by decide +kernel,
    by decide +kernel, by decide +kernel⟩

theorem test_loadWindow :
    entryAt (after (.loadWindow 0 .lowByte) (captureArgs 15#16 0x8004#16 0#16 0x0802#16 windowed)) 15 =
      some ⟨.localLoad, 0x8004, 2, 8#8, .capture (newCapture 2)⟩ ∧
    (after (.loadWindow 0 .lowByte) (captureArgs 15#16 0x8004#16 0#16 0x0802#16 windowed)).mae.primeList =
      [15] := by decide +kernel

theorem witness_ClearWindow :
    (∀ i, Takes codeClearWindow (withArgs [i] windowed)) ∧ TablesOk windowed ∧
    (copyAt (withArgs [16#16] windowed) 1).toNat = 16 ∧
    (captureAt (withArgs [3#16] windowed) 3).isSome = true ∧
    (mirrorAt (withArgs [5#16] windowed) 5).isSome = true ∧ entryAt (withArgs [15#16] windowed) 15 = none :=
  ⟨fun _ => ready _ _ rfl rfl rfl, ⟨rfl, rfl, rfl, rfl⟩, by decide, by decide, by decide, by decide⟩

theorem test_clearWindow : entryAt (after (.clearWindow 0 .lowByte) (withArgs [3#16] windowed)) 3 = none ∧
    resultOf (after (.clearWindow 0 .lowByte) (withArgs [16#16] windowed)) = some 3#8 := by decide

/-- RADIO and LOCAL loads over a LOCAL entry, a RADIO entry and an empty index (R20). -/
theorem witness_LoadOrigins :
    windowed.wt.length = 16 ∧
    (entryOfArgs .radioLoad [3#16, 0x4000#16, 0#16, 0x0702#16, 0#16, 0#16, 0#16, 0#16]).isSome = true ∧
    originAt windowed 3 = some .localLoad ∧ originAt windowed 5 = some .radioLoad ∧
    originAt windowed 15 = none := by decide

/-- A RADIO load and clear over a LOCAL rule, over a RADIO one and at an empty place, of a window that is LOADING, and
of a window under VRST; the same of aliases (R39, R41, R144). -/
theorem witness_LoadOrigins_others :
    let held := fun (o : Origin) => { windowed with
      ftu.rules := (List.replicate 8 none).set 7 (some ⟨o, 3, 0, .low8, false, .eq, 1#16, 2⟩) }
    let aliased := fun (o : Origin) => { up with dlf.groups := (List.replicate 6 none).set 5 (some ⟨o, 1024, 3#7⟩) }
    windowed.ftu.rules.length = 8 ∧
    (ruleOfArgs .radioLoad [7#16, 3#16, 1#16, 2#16, 0x0701#16, 0x5A5A#16] windowed).isSome = true ∧
    ruleOfArgs .radioLoad [7#16, 5#16, 1#16, 2#16, 0x0701#16, 0x5A5A#16] windowed = none ∧
    (ruleAt (held .localLoad) 7).map Rule.origin = some .localLoad ∧
    (ruleAt (held .radioLoad) 7).map Rule.origin = some .radioLoad ∧ ruleAt windowed 7 = none ∧
    (captureAt { windowed with vrst := true } 3).map Capture.state = some .active ∧
    (groupAt (aliased .localLoad) 5).map GroupEntry.origin = some .localLoad ∧
    (groupAt (aliased .radioLoad) 5).map GroupEntry.origin = some .radioLoad ∧ groupAt up 5 = none := by decide

/-- The head-end's load, clear and empty mask over a LOCAL rule and alias give OWNED; its rule on an ACTIVE window of
word 0x0403 sets CF7, and under VRST does not (R39 to R41, R144). -/
theorem test_loadCompare_radio :
    let args := [7#16, 3#16, 1#16, 2#16, 0x0701#16, 0x5A5A#16]
    let rule : Rule := ⟨.localLoad, 3, 0, .low8, false, .eq, 1#16, 2⟩
    let owner := { windowed with ftu.rules := (List.replicate 8 none).set 7 (some rule) }
    let namer := { up with dlf.groups := (List.replicate 6 none).set 5 (some ⟨.localLoad, 1024, 3#7⟩) }
    ((loadCompare .radioLoad args owner).2, (clearCompare .radioLoad args owner).2,
      (loadGroup .radioLoad [5#16, 1024#16, 0#16] namer).2) = (.owned, .owned, .owned) ∧
    (loadCompare .radioLoad args windowed).1.ftu.flags = 0x80#8 ∧
    (loadCompare .radioLoad args { windowed with vrst := true }).1.ftu.flags = 0#8 := by decide +kernel

theorem witness_CompareCommands :
    let good := withArgs [7#16, 3#16, 1#16, 2#16, 0x0701#16, 0x5A5A#16] windowed
    Takes codeLoadCompare good ∧ TablesOk good ∧
      entryAt good 3 = some captureEntry ∧ 1 < captureEntry.length ∧ capture.state = .active ∧
      widthOfCode (loByte (copyAt good 4)) = some .word16 ∧
      boolOfCode (hiByte (copyAt good 4)) = some false ∧
      testOfCode (loByte (copyAt good 5)) = some .ne ∧ (hiByte (copyAt good 5)).toNat = 7 :=
  ⟨ready _ _ (by decide) rfl rfl, ⟨rfl, rfl, rfl, rfl⟩, by decide, by decide, rfl, by decide, by decide,
    by decide, by decide⟩

/-- A window in LOADING, and a loaded rule in place 7. -/
def loading : State :=
  { windowed with
    wt := windowed.wt.set 3 (some { captureEntry with body := .capture { capture with state := .loading } })
    ftu.rules := (List.replicate 8 none).set 7 (some ⟨.localLoad, 3, 0, .low8, false, .eq, 1#16, 2⟩)
    ftu.flags := 0x04#8 }

theorem witness_CompareCommands_others :
    (∀ i w o, Takes codeLoadCompare (withArgs [i, w, o] windowed)) ∧
    (captureAt loading 3).map Capture.state = some .loading ∧
    (∀ i, Takes codeClearCompare (withArgs [i] loading)) ∧
    (ruleAt loading 7).map Rule.target = some 2 ∧ ruleAt loading 0 = none :=
  ⟨fun _ _ _ => ready _ _ rfl rfl rfl, by decide, fun _ => ready _ _ rfl rfl rfl, by decide, by decide⟩

/-- A HIGH8 rule on word 1 of the window at index 3. -/
theorem witness_RuleTests :
    let r : Rule := ⟨.localLoad, 3, 1, .high8, true, .gtz, 0#16, 7⟩
    r.target < 8 ∧ captureAt windowed r.window = some capture ∧
      capture.image[2 * r.offset]? = some (some 3#8) ∧
      capture.image[2 * r.offset + 1]? = some (some 4#8) := by decide

/-- Word 1 of the image is 0x0403, so NE 0x5A5A is true and CF7 is set (R40, R42). -/
theorem test_loadCompare :
    (after (.loadCompare 0 .lowByte)
      (withArgs [7#16, 3#16, 1#16, 2#16, 0x0701#16, 0x5A5A#16] windowed)).ftu.flags = 0x80#8 ∧
    resultOf (after (.loadCompare 0 .lowByte)
      (withArgs [8#16, 3#16, 1#16, 2#16, 0x0701#16, 0x5A5A#16] windowed)) = some 3#8 ∧
    resultOf (after (.loadCompare 0 .lowByte)
      (withArgs [7#16, 3#16, 2#16, 2#16, 0x0701#16, 0x5A5A#16] windowed)) = some 4#8 := by decide +kernel

/-- The rise of CF7 at the load fires the RISE entry on it, which snapshots with the flag set (R40, R44, R49). -/
theorem test_loadCompare_rise :
    let t := after (.loadCompare 0 .lowByte) (withArgs [7#16, 3#16, 1#16, 2#16, 0x0701#16, 0x5A5A#16] { windowed with
      wt := windowed.wt.set 3 (some { captureEntry with body := .capture { capture with mode := .rise 7 } }) })
    t.uq.records.map (fun r => (r.window, r.flags)) = [(some 3, 0x80#8)] ∧ resultOf t = some 0#8 := by decide +kernel

theorem test_clearCompare : (after (.clearCompare 0 .lowByte) (withArgs [7#16] loading)).ftu.flags = 0#8 ∧
    resultOf (after (.clearCompare 0 .lowByte) (withArgs [8#16] loading)) = some 3#8 := by decide

/-- The examples under Table 3-3. -/
theorem test_evalRule :
    evalRule ⟨.localLoad, 0, 0, .word16, true, .gez, 0#16, 0⟩ 0xFF80#16 = false ∧
    evalRule ⟨.localLoad, 0, 0, .low8, true, .ltz, 0#16, 0⟩ 0xFF80#16 = true ∧
    evalRule ⟨.localLoad, 0, 0, .high8, false, .gtz, 0#16, 0⟩ 0xFF80#16 = true ∧
    evalRule ⟨.localLoad, 0, 0, .low8, false, .eq, 0x1280#16, 0⟩ 0xFF80#16 = true := by decide

theorem witness_QueryAndSnapshot :
    (∀ code i, Takes code (withArgs [i] windowed)) ∧ TablesOk windowed ∧
    (copyAt (withArgs [16#16] windowed) 1).toNat = 16 ∧ entryAt windowed 15 = none ∧
    entryAt windowed 3 = some captureEntry ∧ captureAt windowed 3 = some capture ∧
    (mirrorAt windowed 5).map Mirror.age = some 2 ∧ (captureAt loading 3).map Capture.state = some .loading ∧
    windowed.uq.records.length < 24 :=
  ⟨fun _ _ => ready _ _ rfl rfl rfl, ⟨rfl, rfl, rfl, rfl⟩, by decide, by decide, by decide, by decide, by decide,
    by decide, by decide⟩

/-- An ACTIVE LOCAL CAPTURE entry: kind word 4; base, tag and length, sequence 4 and the dirty bit
(Table 11-3). -/
theorem test_queryWindow :
    (after (.queryWindow 0 .lowByte) (withArgs [3#16] windowed)).mae.result.map (fun r => r.words.take 6) =
      some [0x0003#16, 0x0004#16, 0x8000#16, 0#16, 0x0702#16, 0x0104#16] := by decide

theorem test_snapshotNow :
    (after (.snapshotNow 0 .lowByte) (withArgs [3#16] windowed)).uq.records.map
      (fun r => (r.seq, r.payload)) = [(5#8, [1#8, 2#8, 3#8, 4#8])] ∧
    resultOf (after (.snapshotNow 0 .lowByte) (withArgs [5#16] windowed)) = some 9#8 := by decide

/-- A WINDOW record and an ON_AIR one. -/
def queuedRecord : Record :=
  { kind := .window, window := some 3, tag := 7#8, seq := 4#8, cls := .urgent, flags := 0#8, created := 9#6,
    attempts := 0, ackedOnAir := false, detached := false, state := .queued, payload := [1#8, 2#8, 3#8, 4#8],
    oversize := false }

def airRecord : Record := { queuedRecord with state := .onAir, attempts := 1 }

def carrying (rs : List Record) (s : State) : State := { s with uq.records := rs }

/-- A queue of 24 records of these classes, each of another window than the newcomer's. -/
def full (cls : RecordClass) : List Record := List.replicate 24 { queuedRecord with window := some 9, cls := cls }

/-- A newcomer meets a record of its window, its STOP_ACK or its JOIN, or a full list of each class. -/
theorem witness_Offer :
    (queuedRecord.state = .queued ∧ ({ queuedRecord with seq := 9#8 } : Record).sharesPlace queuedRecord) ∧
    (stopAckRecord 1#8 517#11 .hold 0#6).sharesPlace (stopAckRecord 2#8 517#11 .release 0#6) ∧
    ((internalRecord .join tagJoin 1#8 .urgent 0#6 []).kind = .join) ∧
    (∀ cls ∈ [RecordClass.bulk, .routine, .urgent], (full cls).length = 24 ∧
      ∃ rest, full cls = [] ++ { queuedRecord with window := some 9, cls := cls } :: rest) ∧
    (∀ y ∈ full .bulk, ¬queuedRecord.sharesPlace y) := by
  refine ⟨by decide, by decide, by decide, fun cls _ => ⟨rfl, _, rfl⟩, by decide⟩

/-- Supersede in place, eviction of BULK, and a drop (R61, R62). -/
theorem test_offer :
    (offer { queuedRecord with seq := 9#8 } (carrying [queuedRecord] up)).uq.records.map Record.seq = [9#8] ∧
    ((offer queuedRecord (carrying (full .bulk) up)).uq.records.getD 23 airRecord) = queuedRecord ∧
    (offer { queuedRecord with cls := .bulk } (carrying (full .bulk) up)).uq.queueDrops = 1 ∧
    (offer { queuedRecord with cls := .bulk } (carrying (full .bulk) up)).uq.records = full .bulk := by
  decide +kernel

theorem witness_CountersCleared : Takes codeClearCounters up := ready _ _ (by decide) rfl rfl

theorem test_clearCounters :
    counterList (after (.clearCounters 0 .lowByte)
      { up with bpu.guardViolations := 7, xu.crossovers := 2, cu.overruns := 9 }) = List.replicate 23 0 := by
  decide

/-! ### The ring -/

/-- SET RING's words. -/
def ringArgs (base high slots : Word) (s : State) : State := withArgs [base, high, slots] s

/-- A SET RING that waits. -/
def ringWaiting (m : Engine) : State :=
  { up with cu.state := .waiting codeSetRing 6#4 (.ringIdle 0xB000 4), mae := m }

def ringWriting : Engine := { ringed.mae with running := some ⟨.ring .info 4 [], 0⟩ }

theorem witness_RingConfigured :
    (∀ base high slots, Takes codeSetRing (ringArgs base high slots windowed)) ∧
    anyRingJob windowed.mae = false ∧ anyRingJob (ringWaiting Engine.reset).mae = false ∧
    (ringWaiting Engine.reset).cu.state = .waiting codeSetRing 6#4 (.ringIdle 0xB000 4) ∧
    anyRingJob (ringWaiting ringWriting).mae = true ∧
    Takes codeSetRing { up with mae.stack := [⟨.ring .info 4 [], 0⟩] } ∧
    anyRingJob { up with mae.stack := [⟨.ring .info 4 [], 0⟩] }.mae = true ∧
    elapse 0#32 (ringWaiting Engine.reset) = ringWaiting Engine.reset ∧
    exec .setRingWaitEnd (ringWaiting Engine.reset) = .next (endRingWait (elapse 0#32 (ringWaiting Engine.reset))) :=
  ⟨fun _ _ _ => ready _ _ rfl rfl rfl, rfl, rfl, rfl, rfl, ready _ _ (by decide) rfl rfl, rfl,
    elapse_zero (by decide), rfl⟩

/-- N of 3, 4, 64 and 65, an odd base, the end of the address space, and an overlap (R161). -/
theorem test_setRing :
    resultOf (after (.setRing 0 .lowByte) (ringArgs 0x1000#16 0#16 3#16 windowed)) = some 4#8 ∧
    resultOf (after (.setRing 0 .lowByte) (ringArgs 0x1000#16 0#16 4#16 windowed)) = some 0#8 ∧
    resultOf (after (.setRing 0 .lowByte) (ringArgs 0x1000#16 0#16 65#16 windowed)) = some 4#8 ∧
    resultOf (after (.setRing 0 .lowByte) (ringArgs 0x7000#16 0#16 64#16 windowed)) = some 0#8 ∧
    resultOf (after (.setRing 0 .lowByte) (ringArgs 0x7002#16 0#16 64#16 windowed)) = some 7#8 ∧
    resultOf (after (.setRing 0 .lowByte) (ringArgs 0xFF02#16 15#16 4#16 windowed)) = some 4#8 := by
  decide +kernel

theorem test_setRingWaitEnd :
    (after .setRingWaitEnd (ringWaiting Engine.reset)).mae.ring = some ⟨0xB000, 4, 0, 0, 0⟩ ∧
    (after .setRingWaitEnd (ringWaiting Engine.reset)).mae.result.map ResultJob.publish = some true ∧
    (after .setRingWaitEnd (ringWaiting ringWriting)).cu.state =
      .waiting codeSetRing 6#4 (.ringIdle 0xB000 4) := by decide


/-! ### The links by command, and the resets that empty the queue -/

def linkArgs (number value : Word) (s : State) : State := withArgs [number, value] s

/-- Link B is OFF. -/
def bOff (s : State) : State :=
  { s with xu.linkB := { LinkState.reset .off 8#4 with enabled := false } }

theorem linkReady (number value : Word) :
    Takes codeSetLinkEnable (linkArgs number value up) ∧
    Takes codeSetLinkEnable (linkArgs number value (bOff up)) ∧
    Takes codeSetLinkEnable (linkArgs number value locked) ∧
    Takes codeSetLinkEnable (linkArgs number value (bOff locked)) :=
  have h := fun s (h : readyTest s = true) => readyTest_withArgs [number, value] h
  ⟨ready _ _ (h up (by decide)) rfl rfl, ready _ _ (h (bOff up) (by decide)) rfl rfl,
    ready _ _ (h locked (by decide)) rfl rfl, ready _ _ (h (bOff locked) (by decide)) rfl rfl⟩

theorem up_roles : RolesOk up := ⟨by decide, by decide, by decide, by decide⟩
theorem locked_roles : RolesOk locked := ⟨by decide, by decide, by decide, by decide⟩

theorem roles_of_links {s t : State} (ha : t.xu.linkA = s.xu.linkA) (hb : t.xu.linkB = s.xu.linkB) (h : RolesOk s) :
    RolesOk t := by
  constructor <;> simp only [ha, hb]
  exacts [h.offA, h.offB, h.notBoth, h.one]

/-- LOCKED with link A TUNING. -/
def lockedTuning : State := { locked with xu.linkA := { LinkState.reset .primary 0#4 with condition := .tuning } }

theorem witness_LinkCommands :
    ((copyAt (linkArgs 2#16 0#16 up) 1).toNat = 2 ∧ (copyAt (linkArgs 1#16 2#16 up) 2).toNat = 2 ∧
      linkOfNumber 0 = some .a ∧ linkOfNumber 1 = some .b) ∧
    ((linkOf (bOff up) .b).role = .off ∧ (linkOf up .b).role = .standby ∧ up.ssu.burst = none) ∧
    ((linkOf locked .a).role = .primary ∧ (linkOf locked (otherLink .a)).enabled = true) ∧
    (up.ft.lock = .search ∧ (linkOf (bOff up) .b).condition ≠ .tuning) ∧
    (locked.ft.lock ≠ .search ∧ (linkOf locked .a).condition ≠ .tuning ∧ locked.ssu.burst = none) ∧
    ((linkOf lockedTuning .a).condition = .tuning ∧ (linkOf lockedTuning .a).role = .primary) ∧
    (linkOf (bOff locked) .b).role = .off ∧ (bOff locked).xu.neighbours = [] := by decide

/-- LOCKED with a burst of link A on the air. -/
def bursting : State := { locked with ssu.burst := some ⟨.keyed, .a, 112500#32, 112700#32, 124700#32, 14⟩ }

/-- LOCKED in zone 13 with zone 12 on channel 5 as the neighbour, link B dwelling there or not. -/
def besideZone12 (dwells : Bool) : State :=
  { locked with
    xu.neighbours := [⟨12#8, 5#4, 0, 0, none, none⟩]
    xu.dwell := if dwells then some ⟨12#8, 2, false⟩ else none }

/-- A burst on the PRIMARY link; the only enabled link; a burst or a TUNE on a link that is enabled again. -/
theorem witness_LinkCommands_burst :
    (∀ number value, Takes codeSetLinkEnable (linkArgs number value bursting)) ∧
    (∀ b, bursting.ssu.burst = some b → b.link = otherLink .b ∧ (linkOf bursting b.link).role = .primary ∧
      (b.phase = .prepared → (linkOf bursting b.link).condition = .ready)) ∧
    bursting.ssu.burst ≠ none ∧ burstOn bursting .a = true ∧ (linkOf bursting .b).role = .standby ∧
    RolesOk bursting ∧ RolesOk (bOff up) ∧ (linkOf (bOff up) (otherLink .a)).enabled = false ∧
    { up with xu.linkA.condition := .tuning }.ft.lock = .search :=
  ⟨fun _ _ => ready _ _ (readyTest_withArgs _ (by decide)) rfl rfl,
    fun b h => by cases h; exact ⟨rfl, rfl, nofun⟩, by decide, by decide, by decide,
    roles_of_links (s := locked) rfl rfl locked_roles, ⟨by decide, by decide, by decide, by decide⟩, by decide, rfl⟩

/-- A STANDBY link that keeps its dwell, and one that starts one, on its channel 8 or another. -/
theorem witness_LinkCommands_dwell :
    (∀ dwells number value, Takes codeSetLinkEnable (linkArgs number value (besideZone12 dwells))) ∧
    (∀ dwells, RolesOk (besideZone12 dwells) ∧ (linkOf (besideZone12 dwells) .b).role = .standby) ∧
    dwelt (besideZone12 true) = some ⟨12#8, 5#4, 0, 0, none, none⟩ ∧ dwelt (besideZone12 false) = none ∧
    (besideZone12 false).xu.neighbours.find? (fun y => decide (y.zone ≠ locked.ft.zone)) =
      some ⟨12#8, 5#4, 0, 0, none, none⟩ :=
  ⟨fun dwells _ _ => ready _ _ (readyTest_withArgs _ (by cases dwells <;> decide)) rfl rfl,
    fun _ => ⟨roles_of_links (s := locked) rfl rfl locked_roles, rfl⟩, by decide, by decide, by decide⟩

theorem witness_LinkCommands_ready : RolesOk locked ∧
    Takes codeSetLinkEnable (linkArgs 0#16 1#16 lockedTuning) ∧
    Takes codeForceCrossover up ∧ Takes codeForceCrossover locked :=
  ⟨locked_roles, ready _ _ (by decide) rfl rfl, ready _ _ (by decide) rfl rfl, ready _ _ (by decide) rfl rfl⟩

/-- An AWAIT_ACK record returns at the entry into SEARCH, one with a newer record waiting does not (R74). -/
def awaiting : Record := { queuedRecord with window := some 4, state := .awaitAck 12#6, attempts := 1 }

theorem witness_LinkCommands_apart :
    Apart [awaiting, airRecord, { awaiting with window := some 5 }, { queuedRecord with window := some 4 }] := by
  unfold Apart; decide

/-- Disabling the PRIMARY in LOCKED: link B is PRIMARY and scans from channel 8, and LINK is raised (R135). -/
theorem test_setLinkEnable_disable :
    let t := after (.setLinkEnable 0 .lowByte) (linkArgs 0#16 0#16 locked)
    (t.xu.linkA.role, t.xu.linkB.role, t.ft.lock, t.xu.linkB.condition, t.au.requests) =
      (.off, .primary, .search, .tuning, 8#6) := by decide +kernel

/-- Enabling the OFF link in SEARCH tunes it to channel 8 and waits (R136). -/
theorem test_setLinkEnable_enable :
    let t := after (.setLinkEnable 0 .lowByte) (linkArgs 1#16 1#16 (bOff up))
    (t.xu.linkB.role, t.xu.linkB.channel, t.cu.state) =
      (.standby, 8#4, .waiting 0x0B#8 0#4 (.linkTune .b false)) := by decide

/-- Enabling the STANDBY link starts the dwell on zone 12 and tunes it to channel 5; a link with a burst holds its
TUNE (R121, R136). -/
theorem test_setLinkEnable_dwell :
    let t := after (.setLinkEnable 0 .lowByte) (linkArgs 1#16 1#16 (besideZone12 false))
    let b := after (.setLinkEnable 0 .lowByte) (linkArgs 0#16 1#16 bursting)
    (t.xu.dwell, t.xu.linkB.channel, t.cu.state) =
      (some ⟨12#8, 0, false⟩, 5#4, .waiting 0x0B#8 0#4 (.linkTune .b false)) ∧
    (b.xu.linkA.nextChannel, b.cu.state) = (some 0#4, .waiting 0x0B#8 0#4 (.linkTune .a true)) := by decide +kernel

theorem test_forceCrossover : resultOf (after (.forceCrossover 0 .lowByte) up) = some 10#8 ∧
    (after (.forceCrossover 0 .lowByte) locked).xu.forcedCommand = true := by decide

theorem witness_LinkRestarted :
    let s := carrying [queuedRecord, airRecord] locked
    Takes codeRestartLink s ∧
      (s.uq.records.filter fun r => decide (r.state = .onAir)).length < 24 ∧
      s.xu.forcedCommand = false ∧ s.xu.forcedProvision = none :=
  ⟨ready _ _ (by decide) rfl rfl, by decide, rfl, rfl⟩

theorem test_restartLink :
    let t := after (.restartLink 0 .lowByte) (carrying [queuedRecord, airRecord] locked)
    t.uq.records.map (fun r => (r.tag, r.detached)) = [(7#8, true), (0xF0#8, false)] ∧
      t.ft.lock = .search ∧ t.ssu.grants = [] := by decide +kernel

/-- A RESET message to the car identity, new and accepted. -/
def resetBurst : List Byte := [0x80#8, 13#8, 1#8, 0x40#8, 0xB8#8, 9#8, 0#8]

theorem locked_port (l : Link) : PortReady l locked := ⟨rfl, rfl, by cases l <;> decide⟩

theorem witness_NetworkResetClears :
    (elapse 0#32 locked = locked ∧ PortReady .a locked ∧ (0x80#8).getLsbD 7 = true ∧ locked.ft.lock ≠ .search ∧
      (linkOf locked .a).role = .primary ∧ (linkOf locked .a).condition = .ready ∧
      parseBurst resetBurst = .downlink 13#8 [⟨517#11, 6#3, 9#8, []⟩] ∧ accepts locked .reset 517#11 = true ∧
      (⟨13#8, 517#11, 9#8, .reset⟩ : Recent) ∉ locked.dlf.recent) ∧
    TablesOk windowed ∧ (windowed.uq.records.filter fun r => decide (r.state = .onAir)).length < 24 :=
  ⟨⟨elapse_zero (by decide), locked_port .a, by decide, by decide, by decide, by decide, by decide, by decide,
    by decide⟩, windowed_tables, by decide⟩

/-- The RADIO mirror window goes, the LOCAL capture window stays (R37). -/
theorem test_networkReset : entryAt (networkReset windowed) 5 = none ∧
    entryAt (networkReset windowed) 3 = some captureEntry := by decide +kernel

/-- A RADIO rule and its flag go, and so does the MIRROR job of the cleared window (R54, R26). -/
theorem test_networkReset_flags :
    let rule : Rule := ⟨.radioLoad, 3, 0, .word16, false, .gez, 0#16, 2⟩
    let t := networkReset { windowed with
      ftu.rules := (List.replicate 8 none).set 1 (some rule), ftu.flags := 0xFF#8
      mae.running := some ⟨.age 5, 0⟩, mae.mirrorList := [.data 5 0 [1#16]], mae.primeList := [3] }
    (ruleAt t 1, t.ftu.flags, t.mae.running, t.mae.mirrorList, t.mae.primeList) = (none, 0xFB#8, none, [], [3]) := by
  decide +kernel

theorem test_received_reset :
    let t := after (.received 0 .a 0x80#8 resetBurst) { locked with ssu.contention := [⟨4, 1⟩] }
    (t.ssu.grants, t.ssu.contention, t.ab.restart, t.uq.records.map Record.tag) = ([], [], true, [0xF0#8]) := by
  decide +kernel

/-! ### The engine -/

/-- A row of the engine finds the state as it stands, and the engine may use the bus. -/
def Engaged (s : State) : Prop := elapse 0#32 s = s ∧ EngineReady s

theorem engaged {s : State} (h : readyTest { s with mae.running := none } = true) : Engaged s := by
  simp only [readyTest, Bool.and_eq_true, decide_eq_true_eq, Bool.not_eq_true'] at h
  obtain ⟨⟨⟨⟨⟨⟨⟨hp, hv⟩, hh⟩, hb⟩, -⟩, -⟩, -⟩, hq⟩ := h
  exact ⟨elapse_zero hq, hp, hv, hh, hb⟩

/-- An engine with these jobs under way and these requests. -/
def working (running : Option Job) (stack : List Job) (s : State) : State :=
  { s with mae.running := running, mae.stack := stack }

def statusJob : Job := ⟨.status false, 5⟩

theorem witness_JobChoice :
    (∀ running stack, Engaged (working running stack { up with mae.attention := true })) ∧
    (∀ running stack, Engaged (working running stack up)) ∧
    highestPending (working (some statusJob) [] up) = none ∧
    (highestPending (working (some statusJob) [] { up with mae.attention := true }) = some .attention ∧
      kindRank .attention < kindRank statusJob.work.kind) ∧
    (2 ≤ [statusJob, statusJob].length ∧ statusJob.work.kind ≠ .prime ∧ statusJob.work ≠ .status true) ∧
    highestPending { up with mae.stop := true } = some .stop ∧
    highestPending { up with mae.result := some ⟨false, []⟩ } = some .result ∧
    highestPending { up with mae.status := true } = some .status ∧
    highestPending { up with mae.mirrorList := [.age 5] } = some .mirror :=
  ⟨fun _ _ => engaged rfl, fun _ _ => engaged rfl, by decide, by decide, by decide, by decide, by decide,
    by decide, by decide⟩

def staged : Staged := ⟨.command, 517#11, 1#8, 13#8, 10#6, [0xAA#8]⟩

/-- A ring with a COMMAND message staged, and a window to prime. -/
def ringPending : State := { ringed with mae.staging := [staged] }
def primeCapture : Capture := { capture with state := .loading, image := [some 1#8, none, none, some 4#8] }
def priming : State :=
  { windowed with
    wt := windowed.wt.set 3 (some { captureEntry with body := .capture primeCapture })
    mae.primeList := [3] }

theorem witness_JobChoice_lists :
    Engaged ringPending ∧ highestPending ringPending = some (ringKind .command) ∧
      ringPending.mae.ring = some ring ∧ takeStaged .command ringPending.mae.staging = some (staged, []) ∧
      (ring.v + 2) % ring.slots ≠ ring.rd ∧
    Engaged priming ∧ highestPending priming = some .prime ∧ captureAt priming 3 = some primeCapture ∧
      nextUnprimed primeCapture 2 0 = some 0 ∧
    mirrorKept windowed 5 0 [1#16, 2#16, 3#16] = [1#16, 2#16, 3#16] :=
  ⟨engaged rfl, by decide, rfl, by decide, by decide, engaged rfl, by decide, by decide, by decide,
    by decide⟩

/-- A suspended PRIME job with an unprimed word left, a STATUS job to restart, and a stack that a pending job outranks
or that is full (R158, R167). -/
theorem witness_JobChoice_stack :
    Engaged (working none [⟨.prime 3, 1⟩] priming) ∧
      entryAt priming 3 = some { captureEntry with body := .capture primeCapture } ∧
      nextUnprimed primeCapture 2 1 = some 1 ∧
      kindRank (Work.prime 3).kind ≤ kindRank .prime ∧ highestPending priming = some .prime ∧
    (Work.status true).kind = .status ∧ kindRank .attention < kindRank (Work.status true).kind ∧
    [statusJob].length < 2 :=
  ⟨engaged rfl, by decide, by decide, by decide, by decide, by decide, by decide, by decide⟩

/-- A RESULT job runs above a full stack, and ATTENTION is pending. -/
def crowded : State :=
  working (some ⟨.result ⟨false, [7#16]⟩, 0⟩) [statusJob, ⟨.prime 3, 1⟩]
    { priming with mae.primeList := [], mae.attention := true }

/-- A running job above a full stack, and a pending one free to preempt. -/
theorem witness_JobChoice_waits :
    Engaged crowded ∧ 2 ≤ crowded.mae.stack.length ∧ (Work.result ⟨false, [7#16]⟩).isPrimeOf 3 = false ∧
    (Work.result ⟨false, [7#16]⟩).isMirrorOf 5 = false ∧
    (up.mae.waits = [] ∧ up.mae.mirrorWaits = 0) ∧
    highestFree (working (some statusJob) [] { up with mae.attention := true }) = some .attention :=
  ⟨engaged rfl, by decide, by decide, by decide, by decide, by decide⟩

/-- ATTENTION, which found the stack full, waits though the PRIME job leaves the stack; it runs at the RESULT job's
end; a STOP that comes with room on the stack need not wait (R158). -/
theorem test_jobStart_waits :
    let t := dropPrime 3 crowded
    (t.mae.stack = [statusJob] ∧ (after .jobStart t).mae.running = crowded.mae.running) ∧
    (after .maeWordCycleComplete t).mae.running = some ⟨.attention, 0⟩ ∧
    ((after .jobStart { t with mae.stop := true }).mae.running.map fun j => j.work.kind) = some .stop := by
  decide +kernel

/-- ATTENTION preempts a STATUS job, which waits at its word 5 (R158). -/
theorem test_jobStart :
    let t := after .jobStart (working (some statusJob) [] { up with mae.attention := true })
    t.mae.running = some ⟨.attention, 0⟩ ∧ t.mae.stack = [statusJob] := by decide

/-- The COMMAND job takes the ring's last free slot, so the INFO message behind it is dropped with RING_OVERFLOW, and
the ATTENTION job that asks for preempts the COMMAND job in the same choice (R158, R160). -/
def lastSlot : State :=
  { up with mae.ring := some ⟨0xA000, 8, 0, 2, 0⟩, mae.staging := [staged, infoStaged] }

theorem witness_JobChoice_overflow :
    Engaged lastSlot ∧ lastSlot.mae.running = none ∧ highestPending lastSlot = some (ringKind .command) ∧
      takeStaged .command lastSlot.mae.staging = some (staged, [infoStaged]) ∧ lastSlot.mae.waits = [] ∧
      (chooseJob lastSlot).mae.running.map (fun j => j.work.kind) = some .command ∧
      highestFree (chooseJob lastSlot) = some .attention :=
  ⟨engaged rfl, by decide +kernel⟩

theorem test_jobStart_overflow :
    let t := after .jobStart lastSlot
    (t.mae.running, t.mae.stack.map fun j => j.work.kind) = (some ⟨.attention, 0⟩, [.command]) ∧
    t.mae.ringOverflows = 1 ∧ t.mae.attention = false := by decide +kernel

/-- The third word of a MIRROR message beyond the age word's limit is dropped and counted (R165). -/
theorem test_jobStart_clamp :
    let t := after .jobStart { windowed with mae.mirrorList := [.data 5 1 [1#16, 2#16, 3#16]] }
    t.mae.running = some ⟨.mirror 5 1 [1#16, 2#16], 0⟩ ∧ t.mae.mirrorClamps = 1 := by decide

/-- A word of each kind of writing job, and the last words. -/
theorem witness_WordsWritten :
    (∀ w n, Engaged (working (some ⟨w, n⟩) [] up) ∧ Engaged (working (some ⟨w, n⟩) [] windowed)) ∧
    (jobWord up ⟨.attention, 0⟩ = some ⟨.attention, 0xF0040, some 0x00FF#16, 0⟩ ∧
      jobWord up ⟨.attention, 1⟩ = some ⟨.attention, 0xF0042, some 0#16, 0⟩) ∧
    (jobWord up ⟨.stop [1#16, 2#16], 0⟩ = some ⟨.stop, 0xF0080, some 1#16, 0⟩ ∧
      jobWord up ⟨.stop [1#16, 2#16], 1⟩ = some ⟨.stop, 0xF0082, some 2#16, 0⟩) ∧
    (jobWord up ⟨.result ⟨true, [1#16, 2#16]⟩, 0⟩ = some ⟨.result, 0xF0044, some 0#16, 0⟩ ∧
      jobWord up ⟨.result ⟨false, [1#16, 2#16]⟩, 0⟩ = some ⟨.result, 0xF0022, some 1#16, 0⟩ ∧
      jobWord up ⟨.result ⟨false, [1#16, 2#16]⟩, 1⟩ = some ⟨.result, 0xF0024, some 2#16, 0⟩) ∧
    (jobWord windowed ⟨.mirror 5 1 [1#16, 2#16], 0⟩ = some ⟨.mirror, 0x9002, some 1#16, 0⟩ ∧
      jobWord windowed ⟨.mirror 5 1 [1#16, 2#16], 1⟩ = some ⟨.mirror, 0x9004, some 2#16, 0⟩ ∧
      jobWord windowed ⟨.age 5, 0⟩ = some ⟨.mirror, 0x9006, some 2#16, 0⟩) ∧
    (jobWord up ⟨.status false, 62⟩ = some ⟨.status, 0xF013C, some 0#16, 0⟩ ∧
      jobWord up ⟨.status false, 63⟩ = some ⟨.status, 0xF013E, some 0#16, 0⟩) :=
  ⟨fun _ _ => ⟨engaged rfl, engaged rfl⟩, by decide, by decide, by decide, by decide, by decide⟩

/-- The Attention Word's clauses at both ends of Table 10-2. -/
theorem witness_WordsWritten_values :
    ((0x3F#6).getLsbD 0 && (0x21#6).getLsbD 0) = true ∧
    (((0x20#6).getLsbD 5 && (0x3F#6).getLsbD 5) = true ∧ ∀ m < 5, ((0x20#6).getLsbD m && (0x3F#6).getLsbD m) = false) ∧
    (∀ n < 6, ((0x15#6).getLsbD n && (0x2A#6).getLsbD n) = false) := by decide

/-- Status Block words 1 to 5 and 8 of a LOCKED part in frame 10 of zone 13: normal mode, PRIMARY A on channel 0, link
B STANDBY on channel 8, one grant (Tables 11-2, 11-5). -/
theorem test_statusWords :
    [1, 2, 3, 4, 5, 8].map (statusWord locked) = [0x0200#16, 0x0A0D#16, 0x0000#16, 0x0000#16, 0x0804#16, 0x0001#16] := by
  decide

/-- A COMMAND record of one byte, and a stop of reason 2 and text 'A' (Table 11-6). -/
theorem test_recordWords :
    (recordWords ⟨.command, 517#11, 1#8, 13#8, 10#6, [0xAA#8]⟩).take 5 =
      [0x0101#16, 0x0205#16, 0x0A01#16, 0x000D#16, 0x00AA#16] ∧
    (stopWords ⟨true, true, .hold, 517#11, 9#8, 13#8, 10#6, 2#8, [0x41#8]⟩).take 5 =
      [0x0201#16, 0x0205#16, 0x0A09#16, 0x010D#16, 0x0041#16] := by decide

/-- The last word of a RESULT job: word 16, IDLE and the RESULT request (R155, R184). -/
theorem test_maeWordCycleComplete :
    let t := after .maeWordCycleComplete
      (working (some ⟨.result ⟨false, [0#16, 0#16, 0#16, 0#16, 0#16, 0#16, 0#16, 0x0502#16]⟩, 7⟩) [] (busy up))
    readWord t.ram 0xF0020 = 0x0502#16 ∧ t.cu.state = .idle ∧ t.au.requests = 16#6 := by decide

/-- The Attention Word's write sets the Deposited Attention Value (R155, R173). -/
theorem test_maeWordCycleComplete_attention :
    let t := after .maeWordCycleComplete (working (some ⟨.attention, 0⟩) []
      { up with au.requests := 0x3E#6, au.permissions := 0x0C#6 })
    readWord t.ram 0xF0040 = 3#16 ∧ t.au.deposited = 3#16 := by decide

theorem witness_RingPublished :
    ring.Ok ∧ ringed.mae.ring = some ring ∧
    Engaged (working (some ⟨.ring .command 4 [], 31⟩) [] ringed) ∧
    Engaged (working (some ⟨.ring .command 5 [], 31⟩) [] ringed) ∧
    Engaged (working (some ⟨.ring .info 4 [], 32⟩) [] { ringed with mae.unpublished := some (5, .command) }) ∧
    (ring.w + 1) % ring.slots = 5 :=
  ⟨⟨by decide, by decide, by decide, by decide, by decide, by decide, by decide⟩, rfl, engaged rfl,
    engaged rfl, engaged rfl, by decide⟩

/-- The last word of the ring job that a SET RING waits for, with a write to the old ring's slot 6 held: the new ring
stands before the held write, which is forwarded; the RESULT job is pending, behind the ATTENTION job of the published
record (R7, R158, R161, R185). -/
theorem test_ringWaitEnds :
    let s := working (some ⟨.ring .info 4 [], 32⟩) []
      { ringWaiting ringed.mae with
        wt := ringed.wt
        bpu.onBus := some ⟨.info, 0xF0044, some 5#16, 0⟩
        bpu.hold := some (writeCycle (BitVec.ofNat 20 (ring.base + 384)) 0xBEEF#16 Lanes.word) }
    let t := after .maeWordCycleComplete s
    t.mae.ring = some ⟨0xB000, 4, 0, 0, 0⟩ ∧ t.cu.state = .executing codeSetRing 6#4 ∧
      readWord t.ram (ring.base + 384) = 0xBEEF#16 ∧ t.bpu.guardViolations = s.bpu.guardViolations ∧
      t.mae.running = some ⟨.attention, 0⟩ ∧ t.mae.result.isSome = true := by
  decide +kernel

/-- Both records are published in slot order by one index word (R163). -/
theorem test_publish :
    let t := after .maeWordCycleComplete (working (some ⟨.ring .info 4 [], 32⟩) []
      { ringed with mae.unpublished := some (5, .command) })
    t.mae.ring.map Ring.w = some 6 ∧ readWord t.ram 0xF0044 = 6#16 ∧ t.au.requests = 0x24#6 := by decide

theorem witness_PrimeFills :
    Engaged (working (some ⟨.prime 3, 0⟩) [] priming) ∧
    entryAt priming 3 = some { captureEntry with body := .capture primeCapture } ∧
    primeCapture.state = .loading ∧ nextUnprimed primeCapture 2 0 = some 0 ∧
    nextUnprimed primeCapture 2 1 = some 1 :=
  ⟨engaged rfl, by decide, rfl, by decide, by decide⟩

/-- The last mark is byte 2; or byte 1, passed by, is left unprimed. -/
def lastByte (fields : Capture) : Capture :=
  { fields with state := .loading, image := [some 1#8, some 2#8, none, some 4#8] }

theorem witness_PrimeFills_ends :
    nextUnprimed (lastByte capture) 2 0 = some 1 ∧
    ([some 1#8, some 2#8, some 3#8, some 4#8] : List (Option Byte)).all Option.isSome ∧
    nextUnprimed primeCapture 2 1 = some 1 ∧
    nextUnprimed { primeCapture with image := [some 1#8, none, some 3#8, some 4#8] } 2 2 = none := by
  decide

/-- The PRIME job of window 3 before its last read, a rule there that makes flag 2 true, and these fields of the
window. -/
def primeEnds (fields : Capture) : State :=
  working (some ⟨.prime 3, 1⟩) [] { windowed with
    wt := windowed.wt.set 3 (some { captureEntry with body := .capture (lastByte fields) })
    ftu.rules := (List.replicate 8 none).set 0 (some ⟨.localLoad, 3, 0, .word16, false, .gez, 0#16, 2⟩) }

/-- At the end of priming a pending trigger meets a gate that the pass has closed, or is escalated by it, and a RISE
entry fires once for the rise and once for its pending trigger (R33, R49 to R51). -/
theorem test_primeRead_ends :
    let t := fun c => after .primeRead (primeEnds { c with triggerPending := true, cls := .routine })
    let shown := fun (u : State) => (u.uq.records.map fun r => (r.seq, r.cls), u.ftu.gatedTriggers)
    shown (t { capture with gate := some ⟨2, false⟩ }) = ([], 1) ∧
    shown (t { capture with escalate := some 2 }) = ([(5#8, .urgent)], 0) ∧
    shown (t { capture with mode := .rise 2 }) = ([(6#8, .routine)], 0) := by decide +kernel

/-- The read fills only the byte whose mark is clear (R30). -/
theorem test_primeRead :
    let t := after .primeRead (working (some ⟨.prime 3, 0⟩) [] { priming with ram := writeWord [] 0x8000 0xBBAA#16 })
    (captureAt t 3).map Capture.image = some [some 1#8, some 0xBB#8, none, some 4#8] := by decide

/-! ### Frame starts, slots and bursts -/

/-- LOCKED at a frame start: every slot of the frame has started and the next beacon window stands open. -/
def atFrame : State :=
  { locked with
    ft.tick := 200000#32, ft.nextSlot := 16, ft.window := some ⟨200150#32, 500, 150, false, 0, false, .notWaiting⟩ }

/-- Ten ticks before it, the engine at rest under VRST. -/
def nearFrame : State := { atFrame with ft.tick := 199990#32, vrst := true }

/-- The frame start at 200,000 and the start of its slot 0. -/
def begun : State := frameStartAt 200000#32 { nearFrame with ft.tick := 200000#32 }
def slotted : State := slotStartAt 0#6 begun

/-- Five ticks with nothing due, and twenty with one frame start and one slot start. -/
theorem witness_FrameStarts_elapse :
    (up.porn = true ∧ EngineQuiet up ∧ ∀ e ∈ events up, ∀ at_, dueTick up e = some at_ →
      decide (((5#32).toNat : Int) ≤ tickDiff at_ up.ft.tick) = true) ∧
    (nearFrame.porn = true ∧ EngineQuiet nearFrame ∧ nearFrame.ft.lock ≠ .search ∧
      nearFrame.ft.next = some 200000#32 ∧ tickDiff 200000#32 nearFrame.ft.tick = 10) ∧
    (∀ e ∈ events nearFrame, ∀ at_, dueTick nearFrame e = some at_ →
      decide (10 ≤ tickDiff at_ nearFrame.ft.tick) = true) ∧
    EngineQuiet begun ∧ slotDue begun 0 = some 200000#32 ∧
    (∀ e ∈ events begun, ∀ at_, dueTick begun e = some at_ →
      decide (e ≠ .slotStart 0#6 → 10 ≤ tickDiff at_ begun.ft.tick) = true) ∧
    EngineQuiet slotted ∧
    (∀ e ∈ events slotted, ∀ at_, dueTick slotted e = some at_ →
      decide (10 ≤ tickDiff at_ slotted.ft.tick) = true) := by
  refine ⟨⟨rfl, ⟨by decide +kernel, .inl (by decide)⟩, due_of_test (by decide)⟩,
    ⟨rfl, ⟨by decide +kernel, .inl (by decide)⟩, by decide, rfl, by decide⟩, due_of_test (by decide),
    ⟨by decide +kernel, .inl (by decide +kernel)⟩, by decide +kernel, ?_,
    ⟨by decide +kernel, .inl (by decide +kernel)⟩, due_of_test (by decide +kernel)⟩
  intro e he at_ hd
  have h : ((events begun).all fun e => (dueTick begun e).all fun a =>
      decide (e ≠ .slotStart 0#6 → 10 ≤ tickDiff a begun.ft.tick)) = true := by decide +kernel
  simpa [hd] using List.all_eq_true.mp h e he

theorem witness_FrameStarts : reachEvent .frameStart atFrame = atFrame ∧
    atFrame.ft.next = some 200000#32 ∧ atFrame.ft.lock ≠ .search ∧ tickDiff 200000#32 atFrame.ft.tick ≤ 0 ∧
    atFrame.xu.dwell = none ∧ atFrame.ft.layout = none ∧ atFrame.ft.pendingFrame = none ∧
    { atFrame with ft.layout := some ⟨150000, 12, 0⟩ }.ft.layout = some ⟨150000, 12, 0⟩ ∧
    { atFrame with ft.layout := some ⟨150000, 12, 1⟩ }.ft.layout = some ⟨150000, 12, 1⟩ ∧
    { atFrame with ft.pendingFrame := some 12#6 }.ft.pendingFrame = some 12#6 ∧
    forcedPending atFrame = false ∧
    { atFrame with xu.forcedCommand := true, cu.state := .waiting 0x0C#8 3#4 .crossover }.xu.forcedCommand = true ∧
    (mirrorEntry true).body = .mirror ⟨true, true, 3, 2, false⟩ :=
  ⟨reachEvent_here (by decide), by decide⟩

/-- K = 100: Q is 200, the frame number 11, and the next frame starts at 400,000 (R81, R115). -/
theorem test_frameStart :
    let t := after .frameStart locked
    (t.ft.start, t.ft.next, t.ft.frame, t.ab.credit, t.ab.earnedLatch, t.ft.tick) =
      (200000#32, some 400000#32, 11#6, 200, 100, 200000#32) := by decide +kernel

/-- Slots 10 and 11 of the grant lie beyond the 10 slots of the layout taken over at the frame start, and none beyond
the 16 of the frame before it (R81, R104). -/
theorem test_frameStart_unused :
    (after .frameStart { atFrame with ft.layout := some ⟨200000, 10, 0⟩ }).ssu.unusedGrants = 2 ∧
    (after .frameStart { atFrame with ft.layout := some ⟨200000, 10, 1⟩ }).ssu.unusedGrants = 0 := by decide +kernel

/-- A frame start that falls due within the time before a command occurs there (R79, R81). -/
theorem test_elapse_frameStart :
    let t := after (.bstRise 20 .a) nearFrame
    (t.ft.start, t.ft.nextSlot, t.xu.linkA.held) = (200000#32, 1, some 200010#32) := by decide +kernel

/-- A mirror window's Age reaches its limit of 3 and raises MIRROR_STALE once (R166). -/
theorem test_frameStart_stale :
    let t := after .frameStart { atFrame with wt := windowed.wt }
    mirrorAt t 5 = some ⟨true, true, 3, 3, true⟩ ∧ t.au.causes = 0x80#8 := by decide +kernel

/-- LOCKED at a frame start with window 3 on a PERIOD of 2 frames, one counted: it fires unless it is changed-only and
not dirty (R48). -/
def periodic (changedOnly dirty : Bool) : State :=
  { atFrame with wt := (List.replicate 16 none).set 3 (some { captureEntry with body := .capture { capture with
      mode := .period 2, periodCount := 1, changedOnly := changedOnly, dirty := dirty } }) }

theorem test_frameStart_period :
    (after .frameStart (periodic true true)).uq.records.map Record.seq = [5#8] ∧
    (after .frameStart (periodic true false)).uq.records = [] ∧
    (after .frameStart (periodic false false)).uq.records.map Record.created = [11#6] := by decide +kernel

/-- LOCKED at a frame start with link B dwelling on zone 12 for its third frame. -/
def neighbour : Neighbour := ⟨12#8, 5#4, 248, 4, some 3000#32, some 203000#32⟩
def dwelling (a8 : Nat) (good : Nat) : State :=
  { atFrame with
    xu.linkA := { LinkState.reset .primary 0#4 with a8 := 200 }
    xu.neighbours := [{ neighbour with a8 := a8, good := good }]
    xu.dwell := some ⟨12#8, 2, true⟩
    xu.dwellBeacon := some ⟨30#6, 160000, 10⟩ }

theorem dwelling_roles : RolesOk (dwelling 248 4) := ⟨by decide, by decide, by decide, by decide⟩

/-- A frame start with no crossover: no dwell, a dwell without the heard mark, and one that has it. -/
theorem witness_FrameStarts_dwell :
    (∀ d, d ∈ [none, some ⟨12#8, 2, false⟩, some ⟨12#8, 7, true⟩] →
      let s : State := { dwelling 0 0 with xu.dwell := d }
      reachEvent .frameStart s = s ∧ RolesOk s ∧ (linkOf s .b).condition = .ready ∧
      ∀ l d n, (linkOf s l).role = .standby → s.xu.dwell = some d → d.heard = true → dwelt s = some n →
        s.xu.forcedCommand = false ∧ s.xu.forcedProvision = none ∧
        (linkOf s (otherLink l)).condition ≠ .txFault ∧ (linkOf s (otherLink l)).condition ≠ .portFault ∧
        ¬((linkOf s l).condition = .ready ∧ 4 ≤ n.good ∧
          (linkOf s (otherLink l)).a8 + 8 * s.xu.margin ≤ n.a8)) := by
  intro d hd
  refine ⟨reachEvent_here ?_, roles_of_links (s := dwelling 0 0) rfl rfl (by constructor <;> decide), rfl,
    fun l e n hl _ _ hn => ?_⟩
  · fin_cases hd <;> decide
  · have hg : n.good = 0 := by
      have h : n ∈ (dwelling 0 0).xu.neighbours := by
        simp only [dwelt] at hn
        split at hn
        · exact List.mem_of_find?_eq_some hn
        · cases hn
      simp [dwelling] at h
      rw [h]
    cases l
    · cases hl
    · exact ⟨rfl, rfl, nofun, nofun, fun h => by omega⟩

theorem witness_CrossoverDecided :
    reachEvent .frameStart (dwelling 248 4) = dwelling 248 4 ∧
    (dwelling 248 4).ft.next = some 200000#32 ∧ (dwelling 248 4).ft.lock ≠ .search ∧
    tickDiff 200000#32 (dwelling 248 4).ft.tick ≤ 0 ∧
    (linkOf (dwelling 248 4) .b).role = .standby ∧ (linkOf (dwelling 248 4) .b).condition = .ready ∧
    (dwelling 248 4).xu.dwell = some ⟨12#8, 2, true⟩ ∧ dwelt (dwelling 248 4) = some neighbour ∧
    (dwelling 248 4).xu.dwellBeacon = some ⟨30#6, 160000, 10⟩ ∧ neighbour.lastArrival = some 3000#32 ∧
    (linkOf (dwelling 248 4) .a).a8 + 8 * (dwelling 248 4).xu.margin = 248 ∧
    { dwelling 0 0 with xu.forcedCommand := true }.xu.forcedCommand = true ∧
    { dwelling 0 0 with xu.linkA.condition := .portFault }.xu.linkA.condition = .portFault :=
  ⟨reachEvent_here (by decide), by decide⟩

/-- A seed that puts the opening of the next window, at 200,350 + 150 - 500, at the present tick: it opens at once,
before a command of the same tick (R79, R83, R133). -/
theorem test_crossover_opensAtOnce :
    let s := dwelling 248 4
    let heardAt := fun n : Neighbour => { n with lastArrival := some 40500#32 }
    let t := after .frameStart { s with xu.neighbours := s.xu.neighbours.map heardAt }
    (t.ft.tick, t.ft.next, t.ft.window) =
      (200000#32, some 200350#32, some ⟨200500#32, 500, 150, false, 0, false, .notWaiting⟩) := by decide +kernel

/-- A dwell of seven frames whose eighth goes on to zone 11, or stays on zone 12 alone (R127). -/
def dwelt7 (others : List Neighbour) : State :=
  { dwelling 0 0 with
    xu.dwell := some ⟨12#8, 7, true⟩, xu.neighbours := { neighbour with a8 := 0, good := 0 } :: others }

def zone11 : Neighbour := { neighbour with zone := 11#8 }

/-- The dwelt entry last in the table, with an eligible one before it. -/
def dweltLast : State := { dwelt7 [] with xu.neighbours := [zone11, { neighbour with a8 := 0, good := 0 }] }

/-- From the last entry of the table the dwell goes back to the first (R127). -/
theorem test_dwell_wraps :
    let t := after .frameStart dweltLast
    (t.xu.dwell, t.xu.linkB.channel, t.xu.neighbours.map Neighbour.good) =
      (some ⟨11#8, 0, false⟩, 5#4, [0, 0]) := by decide +kernel

theorem witness_DwellCounted_wraps : reachEvent .frameStart dweltLast = dweltLast ∧
    dweltLast.xu.neighbours = [zone11] ++ { neighbour with a8 := 0, good := 0 } :: [] ∧
    ([] ++ [zone11]).find? (fun y => decide (y.zone ≠ 13#8)) = some zone11 ∧
    ∀ y ∈ [zone11] ++ [], y.zone ≠ 12#8 :=
  ⟨reachEvent_here (by decide), rfl, by decide, by decide⟩

theorem witness_CrossoverDecided_next :
    reachEvent .frameStart (dwelt7 []) = dwelt7 [] ∧
    reachEvent .frameStart (dwelt7 [zone11]) = dwelt7 [zone11] ∧ 8 ≤ 7 + 1 ∧
    [zone11].find? (fun y => decide (y.zone ≠ 13#8)) = some zone11 :=
  ⟨reachEvent_here (by decide), reachEvent_here (by decide), by decide, by decide⟩

/-- At the margin the part crosses over, one below it does not (R130); the timing is seeded at A - C = 2,850 and
advanced by one period of 160,000 (R133). -/
theorem test_crossover : (after .frameStart (dwelling 248 4)).xu.linkB.role = .primary ∧
    (after .frameStart (dwelling 247 4)).xu.linkB.role = .standby ∧
    (after .frameStart (dwelling 248 3)).xu.linkB.role = .standby ∧
    (after .frameStart (dwelling 248 4)).ft.zone = 12#8 ∧
    (after .frameStart (dwelling 248 4)).ft.start = 162850#32 ∧
    (after .frameStart (dwelling 248 4)).ft.frame = 31#6 := by decide +kernel

/-- A crossover with FORCE CROSSOVER and its provisioning operation pending, a second neighbour in the table. -/
def forcing : State :=
  { dwelling 0 3 with
    xu.forcedCommand := true, xu.forcedProvision := some 5#8, cu.state := .waiting 0x0C#8 3#4 .crossover
    xu.neighbours := [{ neighbour with a8 := 0, good := 3 }, zone11], uq.records := [queuedRecord], ft.syncErrors := 4 }

theorem witness_CrossoverDecided_forced :
    reachEvent .frameStart forcing = forcing ∧ forcing.cu.state = .waiting 0x0C#8 3#4 .crossover ∧
    forcing.xu.forcedProvision = some 5#8 ∧ forcing.ssu.burst = none ∧ (returned forcing.uq.records).length < 24 ∧
    (∀ r ∈ returned forcing.uq.records, r.kind = .join → r.state ≠ .queued) ∧
    (linkOf forcing .a).condition = .ready ∧
    forcing.xu.neighbours.find? (fun y => decide (y.zone ≠ 12#8)) = some zone11 ∧
    (∀ y ∈ (dwelling 248 4).xu.neighbours, y.zone = 12#8) :=
  ⟨reachEvent_here (by decide), by decide⟩

/-- Both requests get DONE, the reply behind the new JOIN; the old PRIMARY link dwells on zone 11, and LOCKED begins
with a Sync Error Count of 0 (R93, R131, R133, R152). -/
theorem test_crossover_forced :
    let t := after .frameStart forcing
    resultOf t = some 0#8 ∧ t.uq.records.map Record.kind = [.window, .join, .provisionReply] ∧
    (t.uq.records.map Record.payload).getD 2 [] = [0#8] ∧
    (t.xu.dwell, t.xu.linkA.role, t.xu.linkA.channel) = (some ⟨11#8, 0, false⟩, .standby, 5#4) ∧
    (t.ft.lock, t.ft.syncErrors) = (.locked, 0) := by decide +kernel

/-- LOCKED at the start of slot `k`, 12,500 ticks a slot. -/
def atSlot (k : Nat) : State :=
  { carrying [queuedRecord] locked with ft.tick := BitVec.ofNat 32 (12500 * k), ft.nextSlot := k }

/-- The same at the contention slot 4, in frame 9 of car 517, with no grant held and a JOIN waiting. -/
def contending : State :=
  { atSlot 4 with
    ft.frame := 9#6, ssu := { SlotService.reset with contention := [⟨4, 1⟩] },
    uq.records := [queuedRecord, internalRecord .join tagJoin 1#8 .urgent 9#6 []] }

theorem witness_SlotServed :
    (∀ k ∈ [9, 11, 12], reachEvent (.slotStart (BitVec.ofNat 6 k)) (atSlot k) = atSlot k) ∧
    (atSlot 9).ft.lock ≠ .search ∧ (atSlot 9).ft.next = some 200000#32 ∧
    (atSlot 9).ft.start + BitVec.ofNat 32 (9 * (atSlot 9).ft.slotLength) = 112500#32 ∧
    tickBefore 112500#32 200000#32 = true ∧ tickDiff 112500#32 (atSlot 9).ft.tick = 0 ∧ 9 < (atSlot 9).ft.slots ∧
    (atSlot 9).ft.nextSlot ≤ 9 ∧ (atSlot 9).ssu.burst = none ∧ covers (atSlot 9).ssu.grants 9 = true ∧
    covers (atSlot 9).ssu.grants 11 = true ∧ covers (atSlot 9).ssu.grants 12 = false ∧
    covers (atSlot 9).ssu.contention 12 = false ∧ primaryLink (atSlot 9) = some .a ∧
    (linkOf (atSlot 9) .a).condition = .ready ∧ (atSlot 9).ft.lock = .locked ∧
    ({ atSlot 9 with ft.lock := .holdover, ft.miss := 4 }.ft.miss ≤ 4) ∧
    { atSlot 9 with ft.lock := .acquire }.ft.lock = .acquire := by
  refine ⟨?_, by decide⟩
  intro k hk
  rcases List.mem_cons.mp hk with rfl | hk
  · exact reachEvent_here (by decide)
  rcases List.mem_cons.mp hk with rfl | hk
  · exact reachEvent_here (by decide)
  · cases List.mem_singleton.mp hk
    exact reachEvent_here (by decide)

/-- A burst of link A. -/
def burst (phase : BurstPhase) : Burst := ⟨phase, .a, 112500#32, 112700#32, 124700#32, 14⟩
def sending (phase : BurstPhase) (s : State) : State :=
  { carrying [airRecord] s with ssu.burst := some (burst phase) }

/-- A slot start with a burst in flight, a late one, and the car's turn in a contention slot. -/
theorem witness_SlotServed_idle :
    let busy9 := sending .keyed (atSlot 9)
    let late := { atSlot 9 with ft.tick := 112501#32 }
    (reachEvent (.slotStart 9#6) busy9 = busy9 ∧ busy9.ssu.burst ≠ none) ∧
    (reachEvent (.slotStart 9#6) late = late ∧ tickDiff 112500#32 late.ft.tick < 0) ∧
    (reachEvent (.slotStart 4#6) contending = contending ∧ contending.ssu.grants = [] ∧
      covers contending.ssu.contention 4 = true ∧ contending.ft.frame.toNat % 4 = contending.carid.toNat % 4) := by
  refine ⟨⟨reachEvent_here (by decide), by decide⟩, ⟨reachEvent_here (by decide), by decide⟩,
    reachEvent_here (by decide), by decide⟩

/-- Slot 9 starts at 112,500: header and one record of 10 bytes make 14, keyed 200 ticks on (R106, R108). -/
theorem test_slotStart :
    (after (.slotStart 9#6) (carrying [queuedRecord] locked)).ssu.burst =
      some ⟨.prepared, .a, 112500#32, 112700#32, 124700#32, 14⟩ ∧
    (after (.slotStart 9#6) (carrying [queuedRecord] locked)).xu.linkA.txd =
      [[0x02#8, 14#8, 0xCA#8, 0x81#8, 0x49#8, 1#8, 7#8, 4#8, 0#8, 9#8, 4#8, 1#8, 1#8, 2#8, 3#8, 4#8]] := by
  decide +kernel

/-- In a contention slot the JOIN alone goes, 9 bytes and 4 of header (R109); an unusable granted slot is counted with
a burst in flight too (R104). -/
theorem test_slotStart_others :
    (after (.slotStart 4#6) contending).ssu.burst.map Burst.length = some 13 ∧
    (after (.slotStart 9#6) { sending .keyed (atSlot 9) with ft.lock := .acquire }).ssu.unusedGrants = 1 ∧
    (after (.slotStart 9#6) (sending .keyed (atSlot 9))).ssu.unusedGrants = 0 := by decide +kernel

/-- The rows of Table 6-3: 171, 255 (limited), 220, 13, 62 and 7 bytes. -/
theorem test_capacity :
    ([(12500, 64), (21428, 64), (15625, 64), (2343, 64), (2000, 8), (2000, 64)].map fun p =>
      capacity { FrameTimer.reset with
        slotLength := p.1, timing := { Timing.reset with byteTime := p.2 } }) =
      [171, 255, 220, 13, 62, 7] := by decide

/-- A burst of slot 9 at its key tick, or at its expiry. -/
def keying (phase : BurstPhase) : State :=
  { sending phase locked with
    ft.nextSlot := 10, ft.tick := match phase with | .prepared => 112700#32 | .keyed => 124700#32 }

/-- LOCKED with link A TUNING. -/
def keyTuning : State := { keying .prepared with xu.linkA.condition := .tuning }

theorem witness_BurstKeyed :
    (reachEvent .key (keying .prepared) = keying .prepared ∧ reachEvent .key keyTuning = keyTuning ∧
      reachEvent .keyGuard (keying .keyed) = keying .keyed ∧ elapse 0#32 (keying .keyed) = keying .keyed) ∧
    (keying .prepared).ssu.burst = some (burst .prepared) ∧ (burst .prepared).phase = .prepared ∧
    tickDiff (burst .prepared).keyTick (keying .prepared).ft.tick ≤ 0 ∧
    (linkOf (keying .prepared) .a).role = .primary ∧ (linkOf (keying .prepared) .a).condition = .ready ∧
    (linkOf keyTuning .a).condition ≠ .ready ∧ (burst .keyed).phase = .keyed ∧
    tickDiff (burst .keyed).expiryTick (keying .keyed).ft.tick ≤ 0 ∧
    (linkOf (keying .keyed) .a).nextChannel = none ∧
    (linkOf { locked with xu.linkA.txFaults := 2 } .a).txFaults = 2 ∧
    (linkOf { locked with xu.linkA.txFaults := 1 } .a).txFaults < 2 :=
  ⟨⟨reachEvent_here (by decide), reachEvent_here (by decide), reachEvent_here (by decide),
    elapse_zero (by decide)⟩, by decide⟩

/-- A KEYED burst on link A with a TUNE held. -/
def keyedHolding : State := { keying .keyed with xu.linkA.nextChannel := some 5#4 }

/-- A KEYED burst with a TUNE held, and SENT reports that find none KEYED on their link. -/
theorem witness_BurstKeyed_sent :
    (elapse 0#32 keyedHolding = keyedHolding ∧ reachEvent .keyGuard keyedHolding = keyedHolding ∧
      PortReady .a keyedHolding ∧ (linkOf keyedHolding .a).nextChannel = some 5#4 ∧
      (linkOf keyedHolding .a).condition = .ready ∧ (linkOf keyedHolding .a).txFaults < 2) ∧
    (elapse 0#32 (keying .prepared) = keying .prepared ∧ (burst .prepared).phase ≠ .keyed) ∧
    (elapse 0#32 locked = locked ∧ locked.ssu.burst = none) ∧ (burst .keyed).link ≠ .b :=
  ⟨⟨elapse_zero (by decide), reachEvent_here (by decide), ⟨rfl, rfl, by decide⟩, rfl, rfl, by decide⟩,
    ⟨elapse_zero (by decide), by decide⟩, ⟨elapse_zero (by decide), rfl⟩, by decide⟩

theorem witness_BurstKeyed_port : PortReady (burst .keyed).link (keying .keyed) ∧
    Apart (keying .keyed).uq.records ∧ State.key (keying .keyed) .a = true :=
  ⟨⟨rfl, rfl, by decide⟩, by unfold Apart; decide, by decide⟩

/-- Q of 100 pays 14 bytes; a Q of -390 stops at -400 with 4 bytes of overrun (R114). -/
theorem test_keyAssertion :
    (after .keyAssertion (keying .prepared)).ab.credit = 86 ∧
    (after .keyAssertion { keying .prepared with ab.credit := -390 }).ab.credit = -400 ∧
    (after .keyAssertion { keying .prepared with ab.credit := -390 }).ab.overrun = 4 := by
  decide +kernel

theorem test_keyGuardExpiry :
    let t := after .keyGuardExpiry { keying .keyed with xu.linkA.txFaults := 2 }
    t.xu.linkA.condition = .txFault ∧ t.au.causes = 8#8 ∧
      t.uq.records = [{ airRecord with state := .queued }] := by decide +kernel

theorem test_sent : (after (.sent 0 .a) (keying .keyed)).uq.records =
      [{ airRecord with state := .awaitAck 12#6 }] ∧
    (after (.sent 0 .b) (keying .keyed)).uq.records = [airRecord] := by decide +kernel

/-- The held TUNE goes out at the burst's end (R121); a SENT of a PREPARED burst is ignored (R113). -/
theorem test_sent_held :
    let t := after (.sent 0 .a) keyedHolding
    (t.xu.linkA.channel, t.xu.linkA.condition, t.xu.linkA.tuneExpiry) = (5#4, .tuning, some 144700#32) ∧
    after (.sent 0 .a) (keying .prepared) = keying .prepared := by decide +kernel

/-! ### Windows of time -/

def beaconWindow (wait : CloseWait) (taken : Bool) : BeaconWindow :=
  ⟨200150#32, 500, 150, taken, 40, true, wait⟩

/-- A beacon window stands open at `tick` in these lock states. -/
def watchingAt (tick : Tick) (lock : LockState) (miss : Nat) (wait : CloseWait) (taken : Bool) : State :=
  { locked with
    ft := { locked.ft with
      lock := lock, miss := miss, tick := tick, start := 200000#32, next := some 400000#32, nextSlot := 16,
      window := some (beaconWindow wait taken) } }

def watching : LockState → Nat → CloseWait → Bool → State := watchingAt 200200#32

def heldArrival (s : State) : State := { s with xu.linkA.held := some 200650#32 }

/-- LOCKED as the next frame's window falls due to open, and ACQUIRE as the current frame's does. -/
def opening : State := { locked with ft.tick := 199650#32, ft.nextSlot := 16 }
def openingHere : State :=
  { locked with
    ft := { locked.ft with
      lock := .acquire, windowOpened := false, tick := 198150#32, start := 200000#32, next := some 400000#32 } }

theorem witness_BeaconWindows_open :
    (reachEvent .windowOpen opening = opening ∧ opening.ft.lock ≠ .search ∧ opening.ft.window = none ∧
      opening.ft.windowOpened = true ∧ opening.ft.next = some 200000#32 ∧
      tickDiff (200000#32 + 150#32 - 500#32) opening.ft.tick ≤ 0) ∧
    (reachEvent .windowOpen openingHere = openingHere ∧ openingHere.ft.window = none ∧
      openingHere.ft.windowOpened = false ∧
      tickDiff (openingHere.ft.start + 150#32 - 2000#32) openingHere.ft.tick ≤ 0) :=
  ⟨⟨reachEvent_here (by decide), by decide⟩, reachEvent_here (by decide), by decide⟩

/-- At E + W = 200,650, with and without an unpaired arrival, with the wait over, and at E + W + 20,000. -/
theorem witness_BeaconWindows :
    let s := watchingAt 200650#32 .locked 0 .notWaiting false
    let ended := watchingAt 200650#32 .locked 0 .ended true
    let timeout := watchingAt 220650#32 .acquire 3 .waiting false
    (reachEvent .windowClose (heldArrival s) = heldArrival s ∧
      arrivalPending (beaconWindow .notWaiting false) (heldArrival s) = true) ∧
    (reachEvent .windowClose s = s ∧ arrivalPending (beaconWindow .notWaiting false) s = false ∧
      tickDiff (200150#32 + 500#32) s.ft.tick ≤ 0) ∧
    reachEvent .windowClose ended = ended ∧
    (reachEvent .closeTimeout timeout = timeout ∧ tickDiff (200150#32 + 20500#32) timeout.ft.tick ≤ 0) ∧
    primaryLink s = some .a ∧
    (watching .holdover 6 .notWaiting false).ft.miss < 7 ∧ 7 ≤ (watching .holdover 7 .ended false).ft.miss ∧
    (watching .acquire 2 .notWaiting false).ft.miss < 3 ∧ 3 ≤ timeout.ft.miss := by
  refine ⟨⟨reachEvent_here (by decide), by decide⟩, ⟨reachEvent_here (by decide), by decide⟩,
    reachEvent_here (by decide), ⟨reachEvent_here (by decide), by decide⟩, by decide⟩

/-- At frame 10: a record due at frame 10 returns, one due at frame 11 waits on, one selected four times is
undelivered, and one with a newer record waiting is superseded (R69, R70). -/
def ackRecords : List Record :=
  [{ awaiting with state := .awaitAck 10#6 }, { awaiting with window := some 5, state := .awaitAck 11#6 },
    { awaiting with window := some 6, state := .awaitAck 9#6, attempts := 4 },
    { awaiting with window := some 7, state := .awaitAck 10#6 }, { queuedRecord with window := some 7 }]

theorem witness_BeaconWindows_apart : Apart ackRecords ∧ (timedOut 10#6 ackRecords).length < 24 ∧
    (∀ r ∈ ackRecords, r.kind ≠ .join) := by
  unfold Apart; decide

theorem test_timeouts :
    let t := after .beaconWindowClose (carrying ackRecords (watching .locked 0 .notWaiting true))
    t.uq.records.map (fun r => (r.window, r.state)) =
      [(some 4, .queued), (some 5, .awaitAck 11#6), (some 7, .queued)] ∧
    t.uq.undelivered = 1 ∧ t.uq.superseded = 1 := by decide +kernel

/-- The next frame's window opens at T0 + C - W = 199,650 (R83). -/
theorem test_beaconWindowOpen :
    (after .beaconWindowOpen locked).ft.tick = 199650#32 ∧
    (after .beaconWindowOpen locked).ft.window.map BeaconWindow.expected = some 200150#32 := by decide +kernel

theorem test_beaconWindowClose :
    (after .beaconWindowClose (watching .locked 0 .notWaiting false)).ft.lock = .holdover ∧
    (after .beaconWindowClose (watching .holdover 7 .notWaiting false)).ft.lock = .search ∧
    (after .beaconWindowClose (watching .acquire 3 .notWaiting false)).ft.lock = .search ∧
    (after .beaconWindowClose (watching .locked 0 .notWaiting true)).xu.linkA.a8 = 40 ∧
    (after .beaconWindowClose (heldArrival (watching .locked 0 .notWaiting false))).ft.window.map
      BeaconWindow.wait = some .waiting := by decide +kernel

/-- E + W + 20,000 = 220,650 (R84). -/
theorem test_closeWaitTimeout :
    (after .closeWaitTimeout (watching .locked 0 .waiting false)).ft.tick = 220650#32 ∧
    (after .closeWaitTimeout (watching .locked 0 .waiting false)).ft.lock = .holdover := by decide +kernel

/-- The dwelling part as its watch window falls due to close, at 205,000, or at 225,000 after a wait. -/
def watch (tick : Tick) (wait : CloseWait) (taken : Bool) : State :=
  { dwelling 248 4 with
    xu.watch := some ⟨taken, 40, wait⟩, ft.tick := tick, ft.next := some 400000#32, ft.window := none,
    ft.start := 200000#32, ft.nextSlot := 16 }

theorem witness_WatchWindows :
    let waits := { watch 205000#32 .notWaiting true with xu.linkB.held := some 205000#32 }
    dwelt (watch 205000#32 .notWaiting true) = some neighbour ∧ neighbour.predicted = some 203000#32 ∧
    (reachEvent .watchClose (watch 205000#32 .notWaiting true) = watch 205000#32 .notWaiting true ∧
      tickDiff (203000#32 + 2000#32) 205000#32 ≤ 0 ∧
      watchPending 203000#32 (watch 205000#32 .notWaiting true) = false) ∧
    (reachEvent .watchClose waits = waits ∧ watchPending 203000#32 waits = true) ∧
    reachEvent .watchClose (watch 205000#32 .ended true) = watch 205000#32 .ended true ∧
    (reachEvent .watchTimeout (watch 225000#32 .waiting false) = watch 225000#32 .waiting false ∧
      tickDiff (203000#32 + 22000#32) 225000#32 ≤ 0) := by
  refine ⟨by decide, rfl, ⟨reachEvent_here (by decide), by decide⟩, ⟨reachEvent_here (by decide), by decide⟩,
    reachEvent_here (by decide), reachEvent_here (by decide), by decide⟩

/-- A beacon of zone 12, and the standby link's held arrival: the first of a dwell, on time and 2,001 ticks off. -/
def beaconBytes (zone slots : Byte) : List Byte :=
  [0x4B#8, zone, 0x03#8, 0x0D#8, 0x40#8, slots, 0#8, 100#8, 1#8, 0x81#8, 0x49#8, 3#8, 0#8, 0#8]

def beacon (zone : Byte) (slots : Nat) : Beacon := ⟨11#6, zone, 200000, slots, 100, [⟨517#10, 9, 3⟩], [], []⟩

def standbyHeard (arrival : Tick) (predicted : Option Tick) : State :=
  { watch 203100#32 .notWaiting false with
    xu.linkB.held := some arrival, xu.neighbours := [{ neighbour with predicted := predicted }] }

theorem standbyHeard_port (arrival : Tick) (predicted : Option Tick) :
    PortReady .b (standbyHeard arrival predicted) ∧ RolesOk (standbyHeard arrival predicted) ∧
      (linkOf (standbyHeard arrival predicted) .b).held = some arrival :=
  ⟨⟨rfl, rfl, by simp [standbyHeard, linkOf]; decide⟩,
    ⟨by simp [standbyHeard]; decide, by simp [standbyHeard]; decide, by simp [standbyHeard]; decide,
      by simp [standbyHeard]; decide⟩, rfl⟩

theorem witness_WatchWindows_received :
    (∀ a ∈ [201000#32, 205000#32, 205001#32],
      elapse 0#32 (standbyHeard a (some 203000#32)) = standbyHeard a (some 203000#32)) ∧
    elapse 0#32 (standbyHeard 1#32 none) = standbyHeard 1#32 none ∧
    (linkOf (standbyHeard 1#32 none) .b).condition = .ready ∧ (0xA8#8).getLsbD 7 = true ∧
    (dwelt (standbyHeard 1#32 none)).map Neighbour.predicted = some none ∧
    parseBurst (beaconBytes 12#8 16#8) = .beacon (beacon 12#8 16) ∧
    (standbyHeard 1#32 none).xu.watch = some ⟨false, 40, .notWaiting⟩ ∧
    (205000#32 - 203000#32).toInt = 2000 ∧ (205001#32 - 203000#32).toInt = 2001 ∧
    (201000#32 - 203000#32).toInt = -2000 := by
  refine ⟨fun a ha => elapse_zero ?_, elapse_zero (by decide), by decide⟩
  rcases List.mem_cons.mp ha with rfl | ha
  · decide
  rcases List.mem_cons.mp ha with rfl | ha
  · decide
  · cases List.mem_singleton.mp ha
    decide

/-- On time the beacon is taken; off its prediction the count starts anew from it (R128). -/
theorem test_received_standby :
    (after (.received 0 .b 0xA8#8 (beaconBytes 12#8 16#8)) (standbyHeard 205000#32 (some 203000#32))).xu.watch =
      some ⟨true, 40, .notWaiting⟩ ∧
    (after (.received 0 .b 0xA8#8 (beaconBytes 12#8 16#8))
      (standbyHeard 205001#32 (some 203000#32))).xu.neighbours.map (fun n => (n.good, n.predicted)) =
        [(0, some 405001#32)] := by decide +kernel

/-- A8 248 becomes 248 - 31 + 40 = 257 and the good count 5 (R129). -/
theorem test_watchWindowClose :
    let t := after .watchWindowClose (watch 203000#32 .notWaiting true)
    t.ft.tick = 205000#32 ∧ t.xu.neighbours.map (fun n => (n.a8, n.good)) = [(257, 5)] := by decide +kernel

theorem test_watchCloseWaitTimeout :
    let t := after .watchCloseWaitTimeout (watch 225000#32 .waiting false)
    t.ft.tick = 225000#32 ∧ t.xu.neighbours.map (fun n => (n.a8, n.good)) = [(217, 0)] := by decide +kernel

/-! ### The link ports -/

/-- Link A TUNING in SEARCH, with or without a channel held, at a tick. -/
def tuningAt (tick : Tick) (next : Option (BitVec 4)) : State :=
  { up with
    ft.tick := tick
    xu.linkA := { LinkState.reset .primary 0#4 with
      condition := .tuning, tuneExpiry := some 20000#32, nextChannel := next } }

def tuning : Option (BitVec 4) → State := tuningAt 0#32

def scanningA : State :=
  { up with xu.linkA.scanExpiry := some 1000000#32, xu.linkA.channel := 15#4, ft.tick := 1000000#32 }

/-- A SET LINK ENABLE that waits on link A, its TUNE held or sent. -/
def enabling (held : Bool) (s : State) : State := { s with cu.state := .waiting 0x0B#8 1#4 (.linkTune .a held) }

theorem witness_TuningAndScanning :
    (∀ s ∈ [up, tuning none, tuning (some 5#4), enabling true (tuning (some 5#4))], quiet s = true) ∧
    (linkOf up .a).condition = .ready ∧ (linkOf (tuning none) .a).condition = .tuning ∧
    (linkOf (tuning none) .a).nextChannel = none ∧ (linkOf (tuning (some 5#4)) .a).nextChannel = some 5#4 ∧
    (enabling false (tuning none)).cu.state = .waiting 0x0B#8 1#4 (.linkTune .a false) ∧
    dueHere (.scanExpiry .a) scanningA = true ∧ scanningA.ft.lock = .search ∧ scanningA.ssu.burst = none ∧
    (linkOf scanningA .a).condition = .ready ∧ (linkOf scanningA .a).scanExpiry = some 1000000#32 ∧
    tickDiff 1000000#32 scanningA.ft.tick ≤ 0 := by decide

theorem tuning_port : PortReady .a (tuning none) ∧ RolesOk (tuning none) ∧
    PortReady .a (tuning (some 5#4)) ∧ RolesOk (tuning (some 5#4)) ∧ PortReady .a scanningA ∧
    RolesOk scanningA ∧ PortReady .a up ∧ RolesOk up :=
  ⟨⟨rfl, rfl, by decide⟩, ⟨by decide, by decide, by decide, by decide⟩, ⟨rfl, rfl, by decide⟩,
    ⟨by decide, by decide, by decide, by decide⟩, ⟨rfl, rfl, by decide⟩,
    ⟨by decide, by decide, by decide, by decide⟩, ⟨rfl, rfl, by decide⟩, up_roles⟩

theorem test_bstRise : (after (.bstRise 7 .a) up).xu.linkA.held = some 7#32 ∧
    (after (.bstRise 7 .a) (tuning none)).xu.linkA.held = none := by decide

theorem test_tuned : (after (.tuned 7 .a) (tuning none)).xu.linkA.condition = .ready ∧
    (after (.tuned 7 .a) (tuning none)).xu.linkA.scanExpiry = some 1000007#32 ∧
    (after (.tuned 7 .a) (tuning (some 5#4))).xu.linkA.txd = [[0x01#8, 0x05#8]] := by decide +kernel

/-- Channel 15 is followed by channel 0 (R124). -/
theorem test_scanExpiry : (after (.scanExpiry .a) scanningA).xu.linkA.channel = 0#4 ∧
    (after (.scanExpiry .a) scanningA).ft.tick = 1000000#32 := by decide +kernel

theorem witness_PortFaults :
    wellFormed (.fault 1 .a [0x84#8]) = true ∧ wellFormed (.fault 1 .a [0x81#8, 0#8]) = true ∧
    (linkOf up .a).condition ≠ .portFault ∧ dueHere (.tuneExpiry .a) (tuningAt 20000#32 none) = true ∧
    (linkOf (tuningAt 20000#32 none) .a).tuneExpiry = some 20000#32 ∧
    (linkOf up .a).tuneExpiry = none ∧
    (linkOf { up with xu.linkA.condition := .portFault } .a).condition = .portFault ∧
    (enabling false (tuningAt 20000#32 none)).cu.state = .waiting 0x0B#8 1#4 (.linkTune .a false) ∧
    (sending .prepared locked).ssu.burst = some (burst .prepared) := by decide

theorem test_fault : (after (.fault 1 .a [0x81#8, 0#8]) up).xu.linkA.condition = .portFault ∧
    (after (.fault 1 .a [0x84#8]) up).au.causes = 8#8 := by decide +kernel

theorem test_tuneExpiry : (after (.tuneExpiry .a) (tuning none)).ft.tick = 20000#32 ∧
    (after (.tuneExpiry .a) (tuning none)).xu.linkA.condition = .portFault := by decide +kernel

theorem witness_ReportsSetAside :
    PortReady .a (tuning none) ∧ PortReady .a locked ∧ PortReady .b locked ∧ PortReady .a up ∧
    (0x80#8).getLsbD 7 = true ∧ (0x3F#8).getLsbD 7 = false ∧ parseBurst [0xC0#8] = .uplink ∧
    parseBurst [] = .broken ∧ parseBurst (beaconBytes 13#8 3#8) = .beacon (beacon 13#8 3) ∧
    parseBurst [0x80#8, 12#8, 1#8, 0x40#8, 0xA8#8, 1#8, 0#8] = .downlink 12#8 [⟨517#11, 2#3, 1#8, []⟩] ∧
    withinTicks 200651#32 200150#32 500 = false ∧ withinTicks 200650#32 200150#32 500 = true :=
  ⟨tuning_port.1, locked_port .a, locked_port .b, ⟨rfl, rfl, by decide⟩, by decide, by decide,
    by decide, by decide, by decide, by decide, by decide, by decide⟩

/-- A malformed beacon (S of 3) is not received; a bad report is counted (R85, R138). -/
theorem test_received_setAside :
    (after (.received 1 .a 0xA8#8 (beaconBytes 13#8 3#8))
      (heldArrival (watching .locked 0 .notWaiting false))).ft.window.map BeaconWindow.taken = some false ∧
    (after (.received 1 .a 0x28#8 [0xC0#8]) locked).dlf.downlinkErrors = 1 := by decide +kernel

/-- ACQUIRE with a frame begun at 200,000 and its window open, or with the frame's start still to come. -/
def acquiring (begun : Bool) (arrival : Tick) : State :=
  { locked with
    xu.linkA.held := some arrival
    ft := { locked.ft with
      lock := .acquire, good := 2, tick := 201000#32, start := if begun then 200000#32 else 0#32, nextSlot := 16
      next := some (if begun then 400000#32 else 201500#32)
      window := some ⟨if begun then 200150#32 else 201650#32, 2000, 150, false, 0, begun, .notWaiting⟩ } }

theorem acquiring_port (begun : Bool) (a : Tick) : PortReady .a (acquiring begun a) ∧ RolesOk (acquiring begun a) :=
  ⟨⟨rfl, rfl, by simp [acquiring, linkOf]; decide⟩,
    ⟨by simp [acquiring]; decide, by simp [acquiring]; decide, by simp [acquiring]; decide,
      by simp [acquiring]; decide⟩⟩

theorem witness_BeaconTaken :
    PortReady .a (heldArrival (watching .locked 0 .notWaiting false)) ∧
    RolesOk (heldArrival (watching .holdover 1 .notWaiting false)) ∧
    PortReady .a { up with xu.linkA.held := some 5000#32 } ∧ (0xA8#8).getLsbD 7 = true ∧
    quiet (heldArrival (watching .locked 0 .notWaiting false)) = true ∧
    parseBurst (beaconBytes 13#8 16#8) = .beacon (beacon 13#8 16) ∧
    (linkOf (heldArrival (watching .locked 0 .notWaiting false)) .a).held = some 200650#32 ∧
    withinTicks 200650#32 200150#32 500 = true ∧ withinTicks 199650#32 200150#32 500 = true ∧
    0 < tickDiff (400000#32 + BitVec.ofInt 32 64) 200200#32 :=
  ⟨⟨rfl, rfl, by decide⟩, ⟨by decide, by decide, by decide, by decide⟩, ⟨rfl, rfl, by decide⟩, by decide, by decide,
    by decide, by decide, by decide, by decide, by decide⟩

/-- In ACQUIRE: an arrival in the window of the begun frame, one that puts the coming frame's start at the present
tick, and one out of the window; in SEARCH a link that hears a beacon (R89 to R91). -/
theorem witness_BeaconTaken_acquire :
    (quiet (acquiring true 200200#32) = true ∧ withinTicks 200200#32 200150#32 2000 = true ∧
      0 < tickDiff (200200#32 - 150#32 + 200000#32) 201000#32) ∧
    (quiet (acquiring false 201150#32) = true ∧ withinTicks 201150#32 201650#32 2000 = true ∧
      tickDiff (201150#32 - 150#32) 201000#32 = 0 ∧ (acquiring false 201150#32).ft.pendingFrame = none ∧
      (acquiring false 201150#32).xu.dwell = none) ∧
    (withinTicks 198149#32 200150#32 2000 = false ∧ 0 < tickDiff (198149#32 - 150#32 + 200000#32) 201000#32) ∧
    (up.ft.lock = .search ∧ (linkOf up .a).enabled = true ∧ (linkOf up .a).condition = .ready ∧
      0 < tickDiff (5000#32 - 150#32 + 200000#32) up.ft.tick) := by decide

/-- A neighbour list that keeps the dwelt zone on its channel, moves it, and drops it (R127). -/
theorem witness_BeaconTaken_dwell :
    let s := { dwelling 248 4 with
      xu.linkA.held := some 200150#32, ft.tick := 200200#32, ft.start := 200000#32, ft.next := some 400000#32
      ft.nextSlot := 1, ft.window := some (beaconWindow .notWaiting false) }
    quiet s = true ∧ s.ft.lock = .locked ∧ (linkOf s .b).role = .standby ∧ (linkOf s .b).condition = .ready ∧
    s.xu.dwell = some ⟨12#8, 2, true⟩ ∧ dwelt s = some neighbour ∧ neighbour.channel = 5#4 ∧
    burstOn s .b = false ∧ (linkOf s .b).channel ≠ 5#4 := by decide

/-- In SEARCH: a beacon that lists its own zone, zone 12 on channel 5 and zone 11; the link beside READY, faulted and
OFF. -/
def listBytes : List Byte := (beaconBytes 13#8 16#8).dropLast ++ [3#8, 13#8, 1#8, 12#8, 5#8, 11#8, 8#8]

def searching (k : LinkState) : State := { up with xu.linkA.held := some 5000#32, ft.tick := 5100#32, xu.linkB := k }

theorem witness_BeaconTaken_search :
    parseBurst listBytes = .beacon { beacon 13#8 16 with neighbours := [⟨13#8, 1#4⟩, ⟨12#8, 5#4⟩, ⟨11#8, 8#4⟩] } ∧
    (∀ k ∈ [up.xu.linkB, { up.xu.linkB with condition := .portFault }],
      quiet (searching k) = true ∧ (searching k).ssu.burst = none ∧ k.enabled = true) ∧
    (bOff (searching up.xu.linkB)).xu.linkB.enabled = false := by decide

/-- The list keeps zones 12 and 11, and the STANDBY link starts on zone 12 (R125 to R127). -/
theorem test_received_search :
    let t := after (.received 0 .a 0xA8#8 listBytes) (searching up.xu.linkB)
    t.xu.neighbours.map Neighbour.zone = [12#8, 11#8] ∧ t.xu.dwell = some ⟨12#8, 0, false⟩ ∧
    (t.xu.linkB.role, t.xu.linkB.channel, t.xu.linkB.condition) = (.standby, 5#4, .tuning) := by decide +kernel

/-- Table 5-5's rows 620 (limited to 64), -300 (limited), 37 and -250. -/
theorem test_correctionStep :
    [620, -300, 37, -250, 3, -3].map (fun e : Int => correctionStep (BitVec.ofInt 32 e) 0#32) =
      [64, -64, 9, -62, 0, 0] := by decide

/-- The beacon arrives 500 ticks late: 125 limited to 64 (R88). -/
theorem test_received_beacon :
    (after (.received 1 .a 0xA8#8 (beaconBytes 13#8 16#8))
      (heldArrival (watching .locked 0 .notWaiting false))).ft.next = some 400064#32 ∧
    (after (.received 1 .a 0xA8#8 (beaconBytes 13#8 16#8)) { up with xu.linkA.held := some 5000#32 }).ft.start =
      4850#32 := by decide +kernel

/-- The third good beacon of ACQUIRE gives LOCKED, and a frame start it makes due is at once (R87, R89, R92). -/
theorem test_received_acquire :
    let t := after (.received 0 .a 0xA8#8 (beaconBytes 13#8 16#8)) (acquiring false 201150#32)
    (t.ft.lock, t.ft.start, t.ft.next, t.ft.frame) = (.locked, 201000#32, some 401000#32, 11#6) := by decide +kernel

/-- A STOP_HOLD to car 517 with sequence 9, reason 2 and a text of one byte. -/
def stopBurst : List Byte := [0x80#8, 13#8, 1#8, 0x40#8, 0xA0#8, 9#8, 2#8, 2#8, 0x41#8]

def stopMessage : CarMessage := ⟨517#11, 0#3, 9#8, [2#8, 0x41#8]⟩

theorem witness_MessagesRouted :
    elapse 0#32 locked = locked ∧ PortReady .a locked ∧ locked.ft.lock ≠ .search ∧
    (linkOf locked .a).role = .primary ∧ (linkOf locked .a).condition = .ready ∧
    parseBurst stopBurst = .downlink 13#8 [stopMessage] ∧
    [0#3, 1#3, 2#3, 3#3, 4#3, 5#3, 6#3, 7#3].map kindOfCode =
      [some .stopHold, some .stopRelease, some .command, some .info, some .mirror, some .provision, some .reset,
        none] ∧
    locked.carid.toNat = 517 ∧ ring.hasFree = true ∧ mirrorWithTag windowed 9#8 = some 5 :=
  ⟨elapse_zero (by decide), locked_port .a, by decide, by decide, by decide, by decide, by decide, by decide,
    by decide, by decide⟩

/-- Eight messages staged, an INFO message second, and a repeated stop that has been accepted. -/
def stagedFull : List Staged := staged :: { staged with cls := .info } :: List.replicate 6 staged

def stopped : State :=
  { locked with
    au.stop := ⟨true, true, .hold, 517#11, 9#8, 13#8, 10#6, 2#8, [0x41#8]⟩, au.accepted := true
    dlf.recent := [⟨13#8, 517#11, 9#8, .stopHold⟩] }

theorem witness_MessagesRouted_lists :
    (8 ≤ stagedFull.length ∧ stagedFull = [staged] ++ { staged with cls := .info } :: List.replicate 6 staged ∧
      [staged].filter (fun y => decide (y.cls = .info)) = []) ∧
    (stopped.au.accepted = true ∧ stopped.au.stop.seq = stopMessage.seq ∧ stopped.au.stop.zone = 13#8 ∧
      stopped.au.stop.source = stopMessage.destination ∧
      (⟨13#8, stopMessage.destination, stopMessage.seq, .stopHold⟩ : Recent) ∈ stopped.dlf.recent) := by decide

theorem test_received_stop :
    let t := after (.received 1 .a 0x80#8 stopBurst) locked
    t.au.stop.held = true ∧ t.au.stop.text = [0x41#8] ∧ t.mae.stop = true ∧
      (after (.received 1 .a 0x80#8 stopBurst) t).dlf.duplicates = 1 := by decide +kernel

/-- An INFO message at a full ring is dropped and counted; a COMMAND message waits (R160). -/
theorem test_examineMessage_full :
    let s : State := { locked with mae.ring := some fullRing }
    let t := examineMessage 13#8 10#6 s ⟨517#11, 3#3, 9#8, []⟩
    (t.mae.staging.length, t.mae.ringOverflows, t.mae.stagingDrops) = (0, 1, 0) ∧
    (examineMessage 13#8 10#6 s ⟨517#11, 2#3, 9#8, []⟩).mae.staging.length = 1 := by decide +kernel

/-- A repeated accepted stop is acknowledged again (R147); a destination of no alias is dropped (R143). -/
theorem test_examineMessage :
    (examineMessage 13#8 10#6 stopped stopMessage).uq.records.map Record.tag = [0xF1#8] ∧
    examineMessage 13#8 10#6 locked { stopMessage with destination := 516#11 } = locked := by decide +kernel

/-! ### The table gives no bits -/

theorem test_decodeTableWord : decodeTableWord 16 5 = none ∧ up.withFetchWord 16 5 = up := by decide

end Sys2Proof.Tests
end

section
/-! SUPPORT. Whose entry a place holds: when a load or clear meets one of the other origin, what a load or clear that
meets none does, and what an evaluation pass leaves of the compare rules. -/

namespace Sys2Proof.Machine

/-! ### The origin test -/

/-- OWNED is a RADIO load or clear over a LOCAL holder and nothing else (R20). -/
theorem ownedAgainst_iff {origin : Origin} {holder : Option Origin} :
    ownedAgainst origin holder = true ↔ origin = .radioLoad ∧ holder = some .localLoad := by
  cases holder with
  | none => simp [ownedAgainst]
  | some h => cases origin <;> cases h <;> decide

/-! ### What a clear leaves of the Window Table -/

@[simp] theorem abandonWork_wt (p : Work → Bool) (s : State) : (abandonWork p s).wt = s.wt := by
  obtain ⟨_, _, _, -, h⟩ := abandonWork_eq p s
  rw [h]

@[simp] theorem dropPrime_wt (i : Nat) (s : State) : (dropPrime i s).wt = s.wt := by simp [dropPrime]

@[simp] theorem dropMirror_wt (i : Nat) (s : State) : (dropMirror i s).wt = s.wt := by simp [dropMirror]

@[simp] theorem clearRule_wt (s : State) (i : Nat) : (clearRule s i).wt = s.wt := by
  unfold clearRule; split <;> rfl

@[simp] theorem clearRulesWhere_wt (p : Rule → Bool) (s : State) : (clearRulesWhere p s).wt = s.wt := by
  unfold clearRulesWhere
  refine List.foldlRecOn (motive := fun t : State => t.wt = s.wt) _ _ rfl fun t ht i _ => ?_
  split
  · split
    · rw [clearRule_wt, ht]
    · exact ht
  · exact ht

@[simp] theorem withdrawWindow_wt (i : Nat) (s : State) : (withdrawWindow i s).wt = s.wt := rfl

/-- A clear keeps the sixteen places. -/
@[simp] theorem clearEntry_wt_length (i : Nat) (s : State) : (clearEntry i s).wt.length = s.wt.length := by
  unfold clearEntry
  split
  · split <;> simp
  · rfl

/-! ### Loads of windows -/

/-- The entry the arguments give has the load's origin. -/
theorem entryOfArgs_origin {origin : Origin} {args : List Word} {e : Entry} (h : entryOfArgs origin args = some e) :
    e.origin = origin := by
  simp only [entryOfArgs, Option.ite_none_left_eq_some, Option.map_eq_some_iff] at h
  obtain ⟨-, -, -, -, body, -, rfl⟩ := h
  rfl

/-- A placed entry stands at its index. -/
theorem entryAt_placeEntry {i : Nat} {s : State} (e : Entry) (hi : i < s.wt.length) :
    entryAt (placeEntry i e s) i = some e := by
  have hput : entryAt (putEntry i (some e) (clearEntry i s)) i = some e := by simp [entryAt, hi]
  unfold placeEntry
  simp only
  split
  · exact hput
  · exact hput

section
variable {args : List Word} {s : State} {origin : Origin} {e : Entry}

/-- A RADIO load at an index that holds a LOCAL entry. -/
theorem loadWindow_owned (hi : (loByte (argWord args 1)).toNat ≤ 15) (he : entryOfArgs .radioLoad args = some e)
    (ho : originAt s (loByte (argWord args 1)).toNat = some .localLoad) :
    loadWindow .radioLoad args s = (s, .owned) := by
  simp [loadWindow, Nat.not_lt.mpr hi, he, ownedAgainst_iff.mpr ⟨rfl, ho⟩]

/-- A load with good fields that meets no LOCAL holder places its entry, or fails one of the three checks that follow
OWNED in Table 2-4. -/
theorem loadWindow_not_owned (hi : (loByte (argWord args 1)).toNat ≤ 15) (he : entryOfArgs origin args = some e)
    (ho : ¬(origin = .radioLoad ∧ originAt s (loByte (argWord args 1)).toNat = some .localLoad)) :
    loadWindow origin args s = (placeEntry (loByte (argWord args 1)).toNat e s, .done) ∨
      ∃ c, (c = .dupTag ∨ c = .overlap ∨ c = .noSpace) ∧ loadWindow origin args s = (s, c) := by
  simp only [loadWindow, Nat.not_lt.mpr hi, he, if_false, if_neg (mt ownedAgainst_iff.mp ho)]
  split
  · exact .inr ⟨.dupTag, .inl rfl, rfl⟩
  split
  · exact .inr ⟨.overlap, .inr (.inl rfl), rfl⟩
  split
  · exact .inr ⟨.noSpace, .inr (.inr rfl), rfl⟩
  · exact .inl rfl

/-- A load that meets no LOCAL holder is never OWNED. -/
theorem loadWindow_ne_owned (hi : (loByte (argWord args 1)).toNat ≤ 15) (he : entryOfArgs origin args = some e)
    (ho : origin = .localLoad ∨ originAt s (loByte (argWord args 1)).toNat ≠ some .localLoad) :
    (loadWindow origin args s).2 ≠ .owned := by
  have hno : ¬(origin = .radioLoad ∧ originAt s (loByte (argWord args 1)).toNat = some .localLoad) := by
    rintro ⟨rfl, hl⟩
    exact ho.elim nofun fun hne => hne hl
  rcases loadWindow_not_owned hi he hno with h | ⟨c, hc, h⟩
  · rw [h]; nofun
  · rw [h]; rcases hc with rfl | rfl | rfl <;> nofun

/-- A load that is DONE leaves an entry of its own origin at the index. -/
theorem originAt_loadWindow (hw : s.wt.length = 16) (hi : (loByte (argWord args 1)).toNat ≤ 15)
    (he : entryOfArgs origin args = some e) (hd : (loadWindow origin args s).2 = .done) :
    originAt (loadWindow origin args s).1 (loByte (argWord args 1)).toNat = some origin := by
  by_cases ho : origin = .radioLoad ∧ originAt s (loByte (argWord args 1)).toNat = some .localLoad
  · obtain ⟨rfl, hl⟩ := ho
    rw [loadWindow_owned hi he hl] at hd
    cases hd
  · rcases loadWindow_not_owned hi he ho with h | ⟨c, hc, h⟩
    · rw [h, originAt, entryAt_placeEntry e (by omega), Option.map_some, entryOfArgs_origin he]
    · rw [h] at hd
      rcases hc with rfl | rfl | rfl <;> cases hd

/-- A RADIO clear at an index that holds a LOCAL entry. -/
theorem clearWindow_owned (hi : argNat args 1 ≤ 15) (ho : originAt s (argNat args 1) = some .localLoad) :
    clearWindow .radioLoad args s = (s, .owned) := by
  simp [clearWindow, Nat.not_lt.mpr hi, ownedAgainst_iff.mpr ⟨rfl, ho⟩]

end

/-! ### What an evaluation pass leaves of the Field Test Unit -/

@[simp] theorem mapCapture_ftu (i : Nat) (f : Capture → Capture) (s : State) : (mapCapture i f s).ftu = s.ftu := by
  unfold mapCapture
  split
  · split <;> rfl
  · rfl

@[simp] theorem offer_ftu (r : Record) (s : State) : (offer r s).ftu = s.ftu := by
  simp only [offer, raiseCause_eq]
  split <;> rfl

@[simp] theorem snapshot_ftu (i : Nat) (s : State) : (snapshot i s).ftu = s.ftu := by
  unfold snapshot
  split
  · split
    · rw [offer_ftu, mapCapture_ftu]
    · rfl
  · rfl

/-- A trigger that fires may be counted as gated, and leaves the rules alone (R50). -/
@[simp] theorem fireTrigger_rules (i : Nat) (s : State) : (fireTrigger i s).ftu.rules = s.ftu.rules := by
  unfold fireTrigger gatedSnapshot
  split
  · split
    · rw [mapCapture_ftu]
    · split
      · rw [snapshot_ftu]
      · rfl
  · rfl

@[simp] theorem offerRiseTo_rules (f : Nat) (s : State) (i : Nat) : (offerRiseTo f s i).ftu.rules = s.ftu.rules := by
  unfold offerRiseTo
  split
  · split
    · exact fireTrigger_rules i s
    · rfl
  · rfl

@[simp] theorem offerRises_rules (before : BitVec 8) (s : State) :
    (offerRises before s).ftu.rules = s.ftu.rules := by
  unfold offerRises
  refine List.foldlRecOn (motive := fun t : State => t.ftu.rules = s.ftu.rules) _ _ rfl fun t ht f _ => ?_
  split
  · exact List.foldlRecOn (motive := fun u : State => u.ftu.rules = s.ftu.rules) _ _ ht
      fun u hu i _ => (offerRiseTo_rules f u i).trans hu
  · exact ht

/-- An evaluation pass changes no rule (R43). -/
@[simp] theorem runPass_rules (rules : List Rule) (s : State) : (runPass rules s).ftu.rules = s.ftu.rules := by
  simp [runPass]

/-! ### Loads and clears of compare rules -/

/-- The Condition Flags once the rule `r` has replaced the one at place `i`: an old target flag that differs is false
(R40). -/
def replacedFlags (i : Nat) (r : Rule) (s : State) : BitVec 8 :=
  match ruleAt s i with
  | some old => if old.target = r.target then s.ftu.flags else setConditionFlag s.ftu.flags old.target false
  | none => s.ftu.flags

/-- The state with the rule `r` at place `i`, before any evaluation (R40). -/
def withRule (i : Nat) (r : Rule) (s : State) : State :=
  { s with ftu := { s.ftu with rules := s.ftu.rules.set i (some r), flags := replacedFlags i r s } }

/-- New values in the Field Test Unit leave the windows as they are. -/
theorem captureAt_ftu (s : State) (ftu : FieldTest) (j : Nat) :
    captureAt { s with ftu := ftu } j = captureAt s j := rfl

theorem ruleAt_withRule {i : Nat} {s : State} (r : Rule) (hi : i < s.ftu.rules.length) :
    ruleAt (withRule i r s) i = some r := by simp [ruleAt, withRule, hi]

/-- A rule is placed, and then evaluated exactly where its window is ACTIVE and VRST is not asserted (R40). -/
theorem placeRule_eq (i : Nat) (r : Rule) (s : State) :
    placeRule i r s =
      if s.vrst = false ∧ (captureAt s r.window).any (fun c => decide (c.state = .active)) = true then
        runPass [r] (withRule i r s)
      else withRule i r s := by
  unfold placeRule withRule replacedFlags
  cases ruleAt s i with
  | none =>
    simp only [captureAt_ftu]
    cases captureAt s r.window <;> simp [and_comm]
  | some old =>
    by_cases ht : old.target = r.target
    · simp only [if_pos ht, captureAt_ftu]
      cases captureAt s r.window <;> simp [and_comm]
    · simp only [if_neg ht, captureAt_ftu]
      cases captureAt s r.window <;> simp [and_comm]

theorem ruleAt_placeRule {i : Nat} {s : State} (r : Rule) (hi : i < s.ftu.rules.length) :
    ruleAt (placeRule i r s) i = some r := by
  rw [placeRule_eq]
  split
  · rw [ruleAt, runPass_rules]
    exact ruleAt_withRule r hi
  · exact ruleAt_withRule r hi

/-- A rule placed on a window that is LOADING, or under VRST, is not evaluated (R40). -/
theorem placeRule_unevaluated {i : Nat} {r : Rule} {s : State}
    (h : s.vrst = true ∨ ∀ c, captureAt s r.window = some c → c.state = .loading) :
    placeRule i r s = withRule i r s := by
  rw [placeRule_eq, if_neg]
  rintro ⟨hv, ha⟩
  rcases h with hvrst | hloading
  · simp [hvrst] at hv
  · cases hc : captureAt s r.window with
    | none => simp [hc] at ha
    | some c => simp [hc, hloading c hc] at ha

/-- The rule the arguments name has the load's origin, and its other fields do not depend on it. -/
theorem ruleOfArgs_eq_map (origin : Origin) (args : List Word) (s : State) :
    ruleOfArgs origin args s = (ruleOfArgs .localLoad args s).map fun r => { r with origin := origin } := by
  unfold ruleOfArgs
  simp only
  split
  · split <;> rfl
  · rfl

theorem ruleOfArgs_origin {origin : Origin} {args : List Word} {s : State} {r : Rule}
    (h : ruleOfArgs origin args s = some r) : r.origin = origin := by
  rw [ruleOfArgs_eq_map, Option.map_eq_some_iff] at h
  obtain ⟨_, -, rfl⟩ := h
  rfl

section
variable {args : List Word} {s : State} {origin : Origin} {r : Rule}

theorem loadCompare_badIndex (hi : 7 < argNat args 1) : loadCompare origin args s = (s, .badIndex) := by
  simp [loadCompare, hi]

theorem loadCompare_badField (hi : argNat args 1 ≤ 7) (hr : ruleOfArgs origin args s = none) :
    loadCompare origin args s = (s, .badField) := by
  simp [loadCompare, Nat.not_lt.mpr hi, hr]

theorem loadCompare_owned (hi : argNat args 1 ≤ 7) (hr : ruleOfArgs origin args s = some r)
    (ho : origin = .radioLoad ∧ (ruleAt s (argNat args 1)).map Rule.origin = some .localLoad) :
    loadCompare origin args s = (s, .owned) := by
  simp [loadCompare, Nat.not_lt.mpr hi, hr, ownedAgainst_iff.mpr ho]

theorem loadCompare_done (hi : argNat args 1 ≤ 7) (hr : ruleOfArgs origin args s = some r)
    (ho : ¬(origin = .radioLoad ∧ (ruleAt s (argNat args 1)).map Rule.origin = some .localLoad)) :
    loadCompare origin args s = (placeRule (argNat args 1) r s, .done) := by
  simp [loadCompare, Nat.not_lt.mpr hi, hr, mt ownedAgainst_iff.mp ho]

theorem clearCompare_badIndex (hi : 7 < argNat args 1) : clearCompare origin args s = (s, .badIndex) := by
  simp [clearCompare, hi]

theorem clearCompare_owned (hi : argNat args 1 ≤ 7)
    (ho : origin = .radioLoad ∧ (ruleAt s (argNat args 1)).map Rule.origin = some .localLoad) :
    clearCompare origin args s = (s, .owned) := by
  simp [clearCompare, Nat.not_lt.mpr hi, ownedAgainst_iff.mpr ho]

/-- A clear of an empty place changes nothing (R41). -/
theorem clearCompare_of_none (hi : argNat args 1 ≤ 7) (hn : ruleAt s (argNat args 1) = none) :
    clearCompare origin args s = (s, .done) := by
  simp [clearCompare, clearRule, Nat.not_lt.mpr hi, hn, ownedAgainst]

/-- A clear that meets no LOCAL holder empties the place and sets its target flag false (R41). -/
theorem clearCompare_of_some (hi : argNat args 1 ≤ 7)
    (ho : ¬(origin = .radioLoad ∧ (ruleAt s (argNat args 1)).map Rule.origin = some .localLoad))
    (hr : ruleAt s (argNat args 1) = some r) :
    clearCompare origin args s = ({ s with ftu := { s.ftu with
      rules := s.ftu.rules.set (argNat args 1) none
      flags := setConditionFlag s.ftu.flags r.target false } }, .done) := by
  simp only [clearCompare, Nat.not_lt.mpr hi, if_false, if_neg (mt ownedAgainst_iff.mp ho)]
  simp only [clearRule, hr]

end

/-! ### Loads of the Alias Table -/

section
variable {args : List Word} {s : State} {origin : Origin}

/-- Bad fields of a group entry: a mask of more than seven bits, or one that is not empty with an address that names
no group (R144). -/
abbrev BadGroup (args : List Word) : Prop :=
  128 ≤ (argWord args 3).toNat ∨ (argWord args 3 ≠ 0#16 ∧ (argNat args 2 < 1024 ∨ 2047 < argNat args 2))

theorem loadGroup_badIndex (hi : 5 < argNat args 1) : loadGroup origin args s = (s, .badIndex) := by
  simp [loadGroup, hi]

theorem loadGroup_badField (hi : argNat args 1 ≤ 5) (hb : BadGroup args) :
    loadGroup origin args s = (s, .badField) := by
  simp only [loadGroup, Nat.not_lt.mpr hi, if_false, if_pos hb]

theorem loadGroup_owned (hi : argNat args 1 ≤ 5) (hb : ¬BadGroup args)
    (ho : origin = .radioLoad ∧ (groupAt s (argNat args 1)).map GroupEntry.origin = some .localLoad) :
    loadGroup origin args s = (s, .owned) := by
  simp only [loadGroup, Nat.not_lt.mpr hi, if_false, if_neg hb, if_pos (ownedAgainst_iff.mpr ho)]

theorem loadGroup_done (hi : argNat args 1 ≤ 5) (hb : ¬BadGroup args)
    (ho : ¬(origin = .radioLoad ∧ (groupAt s (argNat args 1)).map GroupEntry.origin = some .localLoad)) :
    loadGroup origin args s = (putGroup (argNat args 1)
      (if argWord args 3 = 0#16 then none else some ⟨origin, argNat args 2, (argWord args 3).setWidth 7⟩) s,
      .done) := by
  simp only [loadGroup, Nat.not_lt.mpr hi, if_false, if_neg hb, if_neg (mt ownedAgainst_iff.mp ho)]

end

/-! ### The origin rules -/

/-- Settles O37: windows, compare rules and group entries each go through the one origin test, and each answer of a load or
clear is a lemma above. -/
theorem loadOrigins : Obligations.LoadOrigins := by
  unfold Obligations.LoadOrigins
  refine ⟨?windows, ?rules, ?groups⟩
  case windows =>
    intro args s origin e hw i hi he
    refine ⟨?_, loadWindow_ne_owned hi he, originAt_loadWindow hw hi he, ?_⟩
    · rintro rfl ho
      exact loadWindow_owned hi he ho
    · intro k hk ho
      rw [← hk] at hi ho
      exact clearWindow_owned hi ho
  case rules =>
    intro args s origin hlen i held owned
    refine ⟨ruleOfArgs_eq_map .radioLoad args s, fun hi => ⟨loadCompare_badIndex hi, clearCompare_badIndex hi⟩,
      loadCompare_badField, fun r hi hr => ⟨loadCompare_owned hi hr, fun ho => ?_, fun ho hun => ?_⟩,
      fun hi => ⟨clearCompare_owned hi, fun _ hn => clearCompare_of_none hi (Option.map_eq_none_iff.mp hn),
        fun _ ho => clearCompare_of_some hi ho⟩⟩
    · have hlt : argNat args 1 < s.ftu.rules.length := hlen ▸ Nat.lt_succ_of_le hi
      rw [loadCompare_done hi hr ho]
      exact ⟨ruleOfArgs_origin hr, rfl, ruleAt_placeRule r hlt⟩
    · rw [loadCompare_done hi hr ho, placeRule_unevaluated hun]
      rfl
  case groups =>
    intro args s origin i address mask owned put bad
    exact ⟨loadGroup_badIndex, loadGroup_badField, loadGroup_owned, loadGroup_done⟩

end Sys2Proof.Machine
end

section
/-! SUPPORT. What a compare rule tests and what its flag then reads: a flag read after it is written, the number a
primed image word stands for, and the six tests on a value of any width. -/

namespace Sys2Proof.Machine

/-! ### A flag read after it is written -/

/-- A flag that is written reads as written, whatever the other flags. -/
theorem conditionFlag_setConditionFlag {f : Nat} (hf : f < 8) (flags : BitVec 8) (v : Bool) :
    conditionFlag (setConditionFlag flags f v) f = v := by
  cases v <;> simp [conditionFlag, setConditionFlag, hf]

/-! ### The word a rule looks at -/

/-- The high byte weighs 256. -/
theorem toNat_mkWord (h l : Byte) : (mkWord h l).toNat = l.toNat + 256 * h.toNat := by
  rw [mkWord, BitVec.toNat_append, ← Nat.shiftLeft_add_eq_or_of_lt l.isLt, Nat.shiftLeft_eq]
  omega

/-- Two primed bytes of the image make its word, the low byte at the even offset (R29). -/
theorem imageWord_of_primed {c : Capture} {k : Nat} {low high : Byte} (hl : c.image[2 * k]? = some (some low))
    (hh : c.image[2 * k + 1]? = some (some high)) : imageWord c k = mkWord high low := by
  simp [imageWord, List.getD_eq_getElem?_getD, hl, hh]

/-! ### The six tests -/

/-- The number that `bits`, below `size`, stands for: in two's complement where it is read as signed (R42). -/
def numberOfBits (signed : Bool) (size bits : Nat) : Int :=
  if signed = true ∧ size ≤ 2 * bits then (bits : Int) - size else bits

/-- The condition each test puts on the value's bit pattern, the constant's and the value's number (Table 3-3). -/
def Test.Holds (t : Test) (bits const : Nat) (value : Int) : Prop :=
  match t with
  | .eq => bits = const
  | .ne => bits ≠ const
  | .gez => 0 ≤ value
  | .gtz => 0 < value
  | .ltz => value < 0
  | .lez => value ≤ 0

/-- The number a test reads off `n` bits. -/
theorem numberOfBits_toNat {n : Nat} (signed : Bool) (v : BitVec n) :
    (if signed then v.toInt else (v.toNat : Int)) = numberOfBits signed (2 ^ n) v.toNat := by
  cases signed with
  | false => simp [numberOfBits]
  | true =>
    rw [BitVec.toInt_eq_toNat_cond]
    by_cases h : 2 * v.toNat < 2 ^ n
    · simp [numberOfBits, h, Nat.not_le.mpr h]
    · simp [numberOfBits, h, Nat.not_lt.mp h]

/-- A test on a value of any width compares bit patterns for EQ and NE and reads the value's number otherwise. -/
theorem testValue_iff {n : Nat} (t : Test) (signed : Bool) (v c : BitVec n) :
    testValue t signed v c = true ↔ t.Holds v.toNat c.toNat (numberOfBits signed (2 ^ n) v.toNat) := by
  rw [← numberOfBits_toNat]
  cases t with
  | eq | ne => simp [testValue, Test.Holds, BitVec.toNat_eq]
  | gez | gtz | ltz | lez => simp [testValue, zeroTest, Test.Holds]

/-! ### The rule's result in its flag -/

/-- A rule on a window with an image leaves its result on the image word in its flag. -/
theorem conditionFlag_evalInto {r : Rule} {c : Capture} {s : State} (flags : BitVec 8) (ht : r.target < 8)
    (hc : captureAt s r.window = some c) :
    conditionFlag (evalInto s flags r) r.target = evalRule r (imageWord c r.offset) := by
  simp only [evalInto, hc, conditionFlag_setConditionFlag ht]

/-- Settles O39: the flag reads the rule's result on the primed word, and each width hands `testValue_iff` its own part
of that word and of the constant. -/
theorem ruleTests : Obligations.RuleTests := by
  unfold Obligations.RuleTests
  intro r c low high flags s ht hc hl hh bits size const value
  rw [conditionFlag_evalInto flags ht hc, imageWord_of_primed hl hh]
  change evalRule r (mkWord high low) = true ↔ r.test.Holds bits const (numberOfBits r.signed size bits)
  have hconst : (loByte r.const).toNat = r.const.toNat % 256 := BitVec.toNat_setWidth 8 r.const
  cases hw : r.width with
  | low8 =>
    simpa only [evalRule, hw, loByte_mkWord, bits, size, const, hconst, Nat.reducePow] using
      testValue_iff r.test r.signed low (loByte r.const)
  | high8 =>
    simpa only [evalRule, hw, hiByte_mkWord, bits, size, const, hconst, Nat.reducePow] using
      testValue_iff r.test r.signed high (loByte r.const)
  | word16 =>
    simpa only [evalRule, hw, toNat_mkWord, bits, size, const, Nat.reducePow] using
      testValue_iff r.test r.signed (mkWord high low) r.const

end Sys2Proof.Machine
end

section
/-! SUPPORT. What an operation leaves of all that the invariants speak of: `Moved s t` says that `t` comes from `s` by
updates that start, suspend and list no job, place or clear no entry, and leave the pins and the links' roles alone. One
lemma for each such operation of the model carries `Moved` through it. -/

-- One proof is checked after another: each worker thread of Lean reserves memory of its own.
set_option Elab.async false

namespace Sys2Proof.Machine

/-! ### The relation -/

/-- The links' roles and enable marks. -/
def roles (x : Crossover) : Role × Bool × Role × Bool :=
  (x.linkA.role, x.linkA.enabled, x.linkB.role, x.linkB.enabled)

/-- The ranks of the running job and of the suspended ones below it. -/
def ranks (m : Engine) : List Nat := (m.running.toList ++ m.stack).map fun j => kindRank j.work.kind

/-- The engine after an update that starts, suspends and lists no job: jobs and prime entries only go, and no limit of a
list or of the ring is passed. -/
structure EngineMove (m n : Engine) : Prop where
  ranks : (ranks n).Sublist (ranks m) := by exact .refl _
  stack : n.stack.length ≤ m.stack.length := by exact le_rfl
  mirrorList : m.mirrorList.length ≤ Config.mirrorListMax → n.mirrorList.length ≤ Config.mirrorListMax := by exact id
  staging : m.staging.length ≤ Config.stagingMax → n.staging.length ≤ Config.stagingMax := by exact id
  prime : n.primeList.Sublist m.primeList := by exact .refl _
  ring : (∀ r, m.ring = some r → r.Ok) → ∀ r, n.ring = some r → r.Ok := by exact id

theorem EngineMove.trans {m n o : Engine} (h : EngineMove m n) (g : EngineMove n o) : EngineMove m o where
  ranks := g.ranks.trans h.ranks
  stack := g.stack.trans h.stack
  mirrorList := g.mirrorList ∘ h.mirrorList
  staging := g.staging ∘ h.staging
  prime := g.prime.trans h.prime
  ring := g.ring ∘ h.ring

/-- The credit lies from -4K to 8K. -/
def Airtime.Ok (b : Airtime) : Prop := -4 * (b.allowance : Int) ≤ b.credit ∧ b.credit ≤ 8 * (b.allowance : Int)

/-- What `t` keeps of `s` after updates within the blocks, the links' roles aside. -/
structure Within (s t : State) : Prop where
  vrst : t.vrst = s.vrst := by rfl
  base : t.bpu.base = s.bpu.base := by rfl
  copy : t.bpu.copy.length = s.bpu.copy.length := by rfl
  windows : t.wt.length = s.wt.length := by rfl
  captures : ∀ i, (captureAt t i).isSome = (captureAt s i).isSome := by intro _; rfl
  rules : t.ftu.rules.length = s.ftu.rules.length := by rfl
  groups : t.dlf.groups.length = s.dlf.groups.length := by rfl
  records : s.uq.records.length ≤ Config.recordsMax → t.uq.records.length ≤ Config.recordsMax := by exact id
  grants : s.ssu.grants.length ≤ Config.grantsMax → t.ssu.grants.length ≤ Config.grantsMax := by exact id
  contention : s.ssu.contention.length ≤ Config.contentionMax → t.ssu.contention.length ≤ Config.contentionMax := by
    exact id
  neighbours : s.xu.neighbours.length ≤ Config.neighboursMax → t.xu.neighbours.length ≤ Config.neighboursMax := by
    exact id
  recent : s.dlf.recent.length ≤ Config.recentMax → t.dlf.recent.length ≤ Config.recentMax := by exact id
  credit : s.ab.Ok → t.ab.Ok := by exact id
  engine : EngineMove s.mae t.mae := by exact {}

/-- What `t` keeps of `s` after updates within the blocks. -/
structure Moved (s t : State) : Prop extends Within s t where
  roles : roles t.xu = roles s.xu := by rfl

protected theorem Moved.rfl {s : State} : Moved s s := {}

theorem Within.trans {s t u : State} (h : Within s t) (g : Within t u) : Within s u where
  vrst := g.vrst.trans h.vrst
  base := g.base.trans h.base
  copy := g.copy.trans h.copy
  windows := g.windows.trans h.windows
  captures := fun i => (g.captures i).trans (h.captures i)
  rules := g.rules.trans h.rules
  groups := g.groups.trans h.groups
  records := g.records ∘ h.records
  grants := g.grants ∘ h.grants
  contention := g.contention ∘ h.contention
  neighbours := g.neighbours ∘ h.neighbours
  recent := g.recent ∘ h.recent
  credit := g.credit ∘ h.credit
  engine := h.engine.trans g.engine

theorem Moved.trans {s t u : State} (h : Moved s t) (g : Moved t u) : Moved s u where
  toWithin := h.toWithin.trans g.toWithin
  roles := g.roles.trans h.roles

protected theorem Moved.ite {s t u : State} {p : Prop} [Decidable p] (ht : Moved s t) (hu : Moved s u) :
    Moved s (if p then t else u) := by
  split
  exacts [ht, hu]

/-- A fold of operations that each move the state moves it. -/
protected theorem Moved.foldl {α : Type} {s t : State} {f : State → α → State} (hf : ∀ u x, Moved u (f u x)) (l : List α)
    (h : Moved s t) : Moved s (l.foldl f t) :=
  List.foldlRecOn (motive := Moved s) l f h fun u hu x _ => hu.trans (hf u x)

/-! ### Ops -/

section
variable {s t : State}

/-- New values in the Frame Timer, whatever they are. -/
protected theorem Moved.setFt (h : Moved s t) (v : FrameTimer) : Moved s { t with ft := v } := h.trans {}

protected theorem Moved.countTicks (h : Moved s t) (n : Nat) : Moved s (countTicks n t) := h.trans {}

/-- A place that holds something is one of the table's. -/
theorem lt_length_of_entryAt {i : Nat} {e : Entry} (h : entryAt t i = some e) : i < t.wt.length := by
  by_contra hge
  simp [entryAt, List.getD_eq_getElem?_getD, List.getElem?_eq_none (Nat.not_lt.mp hge)] at h

theorem entryAt_putEntry_self {i : Nat} (e : Option Entry) (h : i < t.wt.length) : entryAt (putEntry i e t) i = e := by
  simp [entryAt, h]

theorem entryAt_putEntry_ne {i j : Nat} (e : Option Entry) (h : i ≠ j) :
    entryAt (putEntry i e t) j = entryAt t j := by
  simp [entryAt, List.getD_eq_getElem?_getD, List.getElem?_set_ne h]

theorem captureAt_of_entry {i : Nat} {e : Entry} (h : entryAt t i = some e) :
    (captureAt t i).isSome = e.body.isCapture := by
  simp only [captureAt, h]
  cases e.body <;> rfl

/-- An entry whose fields are changed, its kind kept, moves nothing else. -/
theorem Moved.putEntry_same {i : Nat} {e : Entry} {b : EntryBody} (he : entryAt t i = some e)
    (hb : b.isCapture = e.body.isCapture) (h : Moved s t) : Moved s (putEntry i (some { e with body := b }) t) := by
  refine h.trans { windows := by simp, captures := fun k => ?_ }
  by_cases hk : i = k
  · subst hk
    rw [captureAt_of_entry (entryAt_putEntry_self _ (lt_length_of_entryAt he)), captureAt_of_entry he, hb]
  · simp only [captureAt, entryAt_putEntry_ne _ hk]

protected theorem Moved.mapCapture (h : Moved s t) (i : Nat) (f : Capture → Capture) : Moved s (mapCapture i f t) := by
  unfold Machine.mapCapture
  split
  case h_2 => exact h
  next e he =>
    split
    case h_2 => exact h
    next c hc => exact h.putEntry_same he (by rw [hc]; rfl)

protected theorem Moved.mapMirror (h : Moved s t) (i : Nat) (f : Mirror → Mirror) : Moved s (mapMirror i f t) := by
  unfold Machine.mapMirror
  split
  case h_2 => exact h
  next e he =>
    split
    case h_1 => exact h
    next m hm => exact h.putEntry_same he (by rw [hm]; rfl)

/-- A link takes new values of every kind. -/
protected theorem Within.mapLink (h : Within s t) (l : Link) (f : LinkState → LinkState) : Within s (mapLink l f t) := by
  cases l with
  | a => exact h.trans {}
  | b => exact h.trans {}

/-- A link takes new values, its role and enable mark as they were. -/
protected theorem Moved.mapLink (h : Moved s t) {l : Link} {f : LinkState → LinkState}
    (hf : ∀ k, (f k).role = k.role ∧ (f k).enabled = k.enabled := by exact fun _ => ⟨rfl, rfl⟩) :
    Moved s (mapLink l f t) := by
  cases l with
  | a => exact h.trans { roles := by simp [Machine.mapLink, putLink, Machine.roles, linkOf, hf] }
  | b => exact h.trans { roles := by simp [Machine.mapLink, putLink, Machine.roles, linkOf, hf] }

protected theorem Moved.requestAttention (h : Moved s t) : Moved s (requestAttention t) := h.trans {}

protected theorem Moved.requestStop (h : Moved s t) : Moved s (requestStop t) := h.trans {}

@[simp] theorem markRestart_kind (j : Job) : (markRestart j).work.kind = j.work.kind := by
  unfold markRestart
  split <;> simp [Work.kind, *]

protected theorem Moved.requestStatus (h : Moved s t) : Moved s (requestStatus t) := by
  unfold Machine.requestStatus
  split
  · exact h.trans { engine := { ranks := by simp [ranks, Function.comp_def], stack := by simp } }
  · exact h.trans {}

protected theorem Moved.setAttention (h : Moved s t) (r p : BitVec 6) (e : Bool) : Moved s (setAttention r p e t) := by
  unfold Machine.setAttention
  dsimp only
  split
  exacts [h.trans {}, h.trans {}]

protected theorem Moved.raiseRequest (h : Moved s t) (c : RequestClass) : Moved s (raiseRequest c t) :=
  h.setAttention _ _ _

protected theorem Moved.clearRequests (h : Moved s t) (m : BitVec 6) : Moved s (clearRequests m t) :=
  h.setAttention _ _ _

protected theorem Moved.raiseCause (h : Moved s t) (c : FaultCause) : Moved s (raiseCause c t) :=
  (h.trans {}).raiseRequest .fault

protected theorem Moved.replyCommand (h : Moved s t) (r : ResultCode) (d : List Word) : Moved s (replyCommand r d t) :=
  h.trans {}

end

/-! ### Uplink -/

theorem length_updateFirst {α : Type} {p : α → Bool} {f : α → α} :
    ∀ {l m : List α}, updateFirst p f l = some m → m.length = l.length
  | [], _, h => nomatch h
  | x :: l, m, h => by
    unfold updateFirst at h
    split at h
    · cases h; rfl
    · obtain ⟨k, hk, rfl⟩ := Option.map_eq_some_iff.mp h
      simp [length_updateFirst hk]

theorem length_removeFirst {α : Type} {p : α → Bool} :
    ∀ {l m : List α}, removeFirst p l = some m → m.length + 1 = l.length
  | [], _, h => nomatch h
  | x :: l, m, h => by
    unfold removeFirst at h
    split at h
    · cases h; rfl
    · obtain ⟨k, hk, rfl⟩ := Option.map_eq_some_iff.mp h
      simp [length_removeFirst hk]

theorem length_makeRoom {c : RecordClass} {l m : List Record} (h : makeRoom c l = some m) : m.length + 1 = l.length := by
  unfold makeRoom at h
  split at h
  · nomatch h
  · exact length_removeFirst h
  · split at h
    · next hb => exact length_removeFirst (hb.trans h)
    · exact length_removeFirst h

theorem length_joinTail {q : UplinkQueue} (r : Record) (h : q.records.length ≤ Config.recordsMax) :
    (joinTail q r).1.records.length ≤ Config.recordsMax := by
  unfold joinTail
  split
  · simp only [List.length_append, List.length_singleton]; omega
  · split
    · next hm =>
      have := length_makeRoom hm
      simp only [List.length_append, List.length_singleton]; omega
    · exact h

/-- An offered record keeps the queue within its limit (R62). -/
theorem length_offerTo {q : UplinkQueue} (r : Record) (h : q.records.length ≤ Config.recordsMax) :
    (offerTo q r).1.records.length ≤ Config.recordsMax := by
  have merged : ∀ {f : Record → Record} {l : List Record}, updateFirst (mergesWith r) f q.records = some l →
      l.length ≤ Config.recordsMax := fun hl => by rw [length_updateFirst hl]; exact h
  unfold offerTo
  split
  iterate 3
    split
    · next hl => exact merged hl
    · exact length_joinTail r h
  · exact length_joinTail r h

theorem length_settleRecords (fate : List Record → Record → Fate) :
    ∀ before rs, (settleRecords fate before rs).records.length ≤ before.length + rs.length
  | before, [] => by simp [settleRecords]
  | before, r :: rest => by
    unfold settleRecords
    split
    · next t _ =>
      have := length_settleRecords fate (before ++ [t]) rest
      simp only [List.length_append, List.length_cons, List.length_nil] at this ⊢
      omega
    all_goals
      have := length_settleRecords fate before rest
      simp only [List.length_cons]
      omega

section
variable {s t : State}

protected theorem Moved.offer (h : Moved s t) (r : Record) : Moved s (offer r t) := by
  have hq : Moved s { t with uq := (offerTo t.uq r).1 } := h.trans { records := length_offerTo r }
  unfold Machine.offer
  dsimp only
  split
  exacts [hq.raiseCause _, hq]

protected theorem Moved.createJoin (h : Moved s t) : Moved s (createJoin t) := by
  unfold Machine.createJoin
  exact Moved.offer (h.trans {}) _

protected theorem Moved.offerStopAck (h : Moved s t) : Moved s (offerStopAck t) := h.offer _

protected theorem Moved.offerProvisionReply (h : Moved s t) (q : Byte) (r : ResultCode) :
    Moved s (offerProvisionReply q r t) := h.offer _

protected theorem Moved.settleQueue (h : Moved s t) (fate : List Record → Record → Fate) :
    Moved s (settleQueue fate t) := by
  have hq : Moved s { t with
      uq.records := (settleRecords fate [] t.uq.records).records
      uq.superseded := counterAdd t.uq.superseded (settleRecords fate [] t.uq.records).superseded
      uq.undelivered := counterAdd t.uq.undelivered (settleRecords fate [] t.uq.records).undelivered } :=
    h.trans { records := fun hl => by simpa using (length_settleRecords fate [] _).trans (by simpa using hl) }
  unfold Machine.settleQueue
  dsimp only
  split
  exacts [hq, hq.raiseCause _]

theorem length_ackEntry (carid : BitVec 10) (q : UplinkQueue) (e : AckEntry) :
    (ackEntry carid q e).records.length ≤ q.records.length := by
  unfold ackEntry
  split
  · exact le_rfl
  split
  · exact List.length_filterMap_le _ _
  · exact le_rfl

protected theorem Moved.takeAckList (h : Moved s t) (acks : List AckEntry) : Moved s (takeAckList acks t) :=
  h.trans { records := fun hl => (List.foldlRecOn (motive := fun q : UplinkQueue => q.records.length ≤ _) acks _ hl
    fun q hq e _ => (length_ackEntry t.carid q e).trans hq) }

protected theorem Moved.withdrawWindow (h : Moved s t) (i : Nat) : Moved s (withdrawWindow i t) :=
  h.trans { records := (List.length_filterMap_le _ _).trans }

protected theorem Moved.emptyQueue (h : Moved s t) : Moved s (emptyQueue t) :=
  Moved.createJoin (h.trans { records := (List.length_filterMap_le _ _).trans })

protected theorem Moved.dropQueuedJoin (h : Moved s t) : Moved s (dropQueuedJoin t) :=
  h.trans { records := (List.length_filter_le _ _).trans }

protected theorem Moved.joinTest (h : Moved s t) : Moved s (joinTest t) := by
  unfold Machine.joinTest
  split
  exacts [h.createJoin, h]

/-! ### Attention -/

protected theorem Moved.acceptRead (h : Moved s t) (v : Word) : Moved s (acceptRead v t) := by
  unfold Machine.acceptRead
  split
  · split
    · dsimp only
      split
      · exact Moved.offerStopAck ((h.setAttention _ _ _).trans {})
      · exact h.setAttention _ _ _
    · exact h
  · exact h

protected theorem Moved.recordStop (h : Moved s t) (k : StopKind) (source : BitVec 11) (seq zone : Byte)
    (frame : BitVec 6) (payload : List Byte) : Moved s (recordStop k source seq zone frame payload t) :=
  (Moved.clearRequests (h.trans {}) _).requestStop.requestStatus

protected theorem Moved.stopDeposited (h : Moved s t) : Moved s (stopDeposited t) := by
  unfold Machine.stopDeposited
  split
  exacts [h, h.raiseRequest _]

protected theorem Moved.vehicleReleaseAttention (h : Moved s t) : Moved s (vehicleReleaseAttention t) := by
  have hstop : Moved s (if t.au.stop.held then requestStop { t with au.accepted := false }
      else if t.au.stop.recorded && !t.au.accepted then requestStop t else t) := by
    split
    · exact h.trans {}
    split
    exacts [h.requestStop, h]
  unfold Machine.vehicleReleaseAttention
  exact .ite hstop (hstop.raiseRequest _)

end
end Sys2Proof.Machine
end

section
/-! SUPPORT. The operations of the engine's lists, the field tests, the links and the Slot Service Unit move the state
(`Moved`). -/

-- One proof is checked after another: each worker thread of Lean reserves memory of its own.
set_option Elab.async false

namespace Sys2Proof.Machine

variable {s t : State}

/-! ### Engine -/

protected theorem Moved.endRunning (h : Moved s t) : Moved s (endRunning t) := by
  have hr : (ranks { t.mae with running := none }).Sublist (ranks t.mae) :=
    (List.sublist_append_right t.mae.running.toList t.mae.stack).map _
  unfold Machine.endRunning
  exact .ite (h.trans { engine := { ranks := hr } }) (h.trans { engine := { ranks := hr } })

protected theorem Moved.abandonWork (h : Moved s t) (p : Work → Bool) : Moved s (abandonWork p t) := by
  obtain ⟨w, m, n, -, he⟩ := abandonWork_eq p t
  rw [he]
  have hrun : (t.mae.running.filter fun j => !p j.work).toList.Sublist t.mae.running.toList := by
    cases hj : t.mae.running with
    | none => exact .refl _
    | some j => cases hp : p j.work <;> simp [Option.filter, hp]
  exact h.trans { engine := {
    ranks := (hrun.append List.filter_sublist).map _
    stack := List.length_filter_le _ _ } }

protected theorem Moved.dropPrime (h : Moved s t) (i : Nat) : Moved s (dropPrime i t) := by
  unfold Machine.dropPrime
  exact Moved.abandonWork (h.trans { engine := { prime := List.filter_sublist } }) _

protected theorem Moved.dropMirror (h : Moved s t) (i : Nat) : Moved s (dropMirror i t) := by
  unfold Machine.dropMirror
  exact Moved.abandonWork (h.trans { engine := { mirrorList := (List.length_filter_le _ _).trans } }) _

/-- A list below its limit takes one more. -/
theorem length_append_le {α : Type} {l : List α} {n : Nat} (x : α) (h : l.length < n) : (l ++ [x]).length ≤ n := by
  simpa using h

protected theorem Moved.listMirror (h : Moved s t) (i o : Nat) (w : List Word) : Moved s (listMirror i o w t) := by
  unfold Machine.listMirror
  split
  · next hl => exact h.trans { engine := { mirrorList := fun _ => length_append_le _ hl } }
  · exact h.trans {}

protected theorem Moved.listAge (h : Moved s t) (i : Nat) : Moved s (listAge i t) := by
  unfold Machine.listAge
  split
  · exact h
  split
  · next hl => exact h.trans { engine := { mirrorList := fun _ => length_append_le _ hl } }
  · exact h

protected theorem Moved.dropStaleInfo (h : Moved s t) : Moved s (dropStaleInfo t) := by
  unfold Machine.dropStaleInfo
  split
  · exact h
  · refine .ite h (Moved.raiseCause (h.trans { engine := { staging := fun hl => ?_ } }) _)
    simpa only [List.length_drop] using (Nat.sub_le _ _).trans hl

theorem length_joinStaging (m : Staged) (q : List Staged) : (joinStaging m q).length = q.length + 1 := by
  unfold joinStaging
  split
  · have := List.length_eq_length_filter_add (l := q) Staged.isInfo
    simp only [List.length_append, List.length_cons]
    omega
  · simp

theorem length_evictInfo : ∀ {q r : List Staged}, evictInfo q = some r → r.length + 1 = q.length
  | [], _, h => nomatch h
  | x :: q, r, h => by
    unfold evictInfo at h
    split at h
    · cases h; rfl
    · obtain ⟨k, hk, rfl⟩ := Option.map_eq_some_iff.mp h
      simp [length_evictInfo hk]

protected theorem Moved.stagingOverflow (h : Moved s t) : Moved s (stagingOverflow t) := by
  unfold Machine.stagingOverflow
  exact Moved.raiseCause (h.trans {}) _

protected theorem Moved.stageMessage (h : Moved s t) (m : Staged) : Moved s (stageMessage m t) := by
  unfold Machine.stageMessage
  split
  · exact h.trans {}
  split
  · next hl =>
    exact Moved.dropStaleInfo (h.trans { engine := { staging := fun _ => by rw [length_joinStaging]; exact hl } })
  split
  · exact h.stagingOverflow
  split
  · next q hq =>
    refine Moved.dropStaleInfo (Moved.stagingOverflow (h.trans { engine := { staging := fun hl => ?_ } }))
    rw [length_joinStaging, length_evictInfo hq]
    exact hl
  · exact h.stagingOverflow

/-- SET RING leaves a ring inside the address space, or none (R161). -/
protected theorem Moved.installRing (h : Moved s t) (base slots : Nat) : Moved s (installRing base slots t).1 := by
  unfold Machine.installRing
  split
  · exact h.trans { engine := { staging := fun _ => Nat.zero_le _, ring := fun _ _ hr => nomatch hr } }
  split
  · exact h
  split
  · exact h
  · next _ hn _ =>
    push Not at hn
    dsimp only
    refine Moved.dropStaleInfo (h.trans { engine := { ring := fun _ r hr => ?_ } })
    cases hr
    exact ⟨hn.1, hn.2.1, by simpa using hn.2.2.1, hn.2.2.2, by dsimp only; omega, by dsimp only; omega,
      by dsimp only; omega⟩

protected theorem Moved.takeReadIndex (h : Moved s t) (v : Nat) : Moved s (takeReadIndex v t) := by
  unfold Machine.takeReadIndex
  split
  · exact h
  next r hr =>
    have ht : ∀ p : Bool, Moved s (if p then { t with mae.indexFaults := bump t.mae.indexFaults } else t) :=
      fun p => .ite (h.trans {}) h
    have hring : ∀ p : Bool, (if p then { t with mae.indexFaults := bump t.mae.indexFaults } else t).mae.ring =
      t.mae.ring := fun p => by cases p <;> rfl
    refine .ite (Moved.dropStaleInfo ((ht _).trans { engine := { ring := fun hok q hq => ?_ } })) (ht _)
    have hor : r.Ok := hok r ((hring _).trans hr)
    obtain ⟨h4, h64, hb, he, hw, hrd, hv⟩ := hor
    cases hq
    refine ⟨h4, h64, hb, he, hw, ?_, hv⟩
    dsimp only
    split
    · omega
    · next hc => exact Nat.lt_of_not_le (by simpa using hc)

/-! ### Field tests -/

protected theorem Moved.snapshot (h : Moved s t) (i : Nat) : Moved s (snapshot i t) := by
  unfold Machine.snapshot
  split
  · split
    · exact (h.mapCapture _ _).offer _
    · exact h
  · exact h

protected theorem Moved.gatedSnapshot (h : Moved s t) (i : Nat) (c : Capture) : Moved s (gatedSnapshot i c t) := by
  unfold Machine.gatedSnapshot
  exact .ite (h.snapshot i) (h.trans {})

protected theorem Moved.fireTrigger (h : Moved s t) (i : Nat) : Moved s (fireTrigger i t) := by
  unfold Machine.fireTrigger
  split
  · exact .ite (h.mapCapture _ _) (h.gatedSnapshot _ _)
  · exact h

protected theorem Moved.triggerTest (h : Moved s t) (i k : Nat) : Moved s (triggerTest i k t) := by
  unfold Machine.triggerTest
  split
  case h_2 => exact h
  split
  case h_2 => exact h
  split
  · exact .ite (h.fireTrigger i) h
  · exact .ite (h.fireTrigger i) h
  · exact .ite (Moved.fireTrigger (h.mapCapture _ _) i) (.ite (h.mapCapture _ _) h)
  · exact h
  · exact h

protected theorem Moved.periodTick (h : Moved s t) (i : Nat) : Moved s (periodTick t i) := by
  unfold Machine.periodTick
  split
  case h_2 => exact h
  split
  · exact .ite (h.mapCapture _ _) (.ite (h.mapCapture _ _) (Moved.fireTrigger (h.mapCapture _ _) i))
  all_goals exact h

protected theorem Moved.offerRises (h : Moved s t) (before : BitVec 8) : Moved s (offerRises before t) := by
  have hto : ∀ (f : Nat) (u : State) (i : Nat), Moved u (offerRiseTo f u i) := fun f u i => by
    unfold offerRiseTo
    split
    · exact .ite (Moved.rfl.fireTrigger i) .rfl
    · exact .rfl
  unfold Machine.offerRises
  exact h.foldl (fun u f => .ite (Moved.rfl.foldl (hto f) _) .rfl) _

protected theorem Moved.runPass (h : Moved s t) (rules : List Rule) : Moved s (runPass rules t) := by
  unfold Machine.runPass
  exact Moved.offerRises (h.trans {}) _

protected theorem Moved.clearRule (h : Moved s t) (i : Nat) : Moved s (clearRule t i) := by
  unfold Machine.clearRule
  split
  · exact h.trans { rules := List.length_set }
  · exact h

protected theorem Moved.clearRulesWhere (h : Moved s t) (p : Rule → Bool) : Moved s (clearRulesWhere p t) := by
  unfold Machine.clearRulesWhere
  refine h.foldl (fun u i => ?_) _
  split
  · exact .ite (Moved.rfl.clearRule i) .rfl
  · exact .rfl

protected theorem Moved.placeRule (h : Moved s t) (i : Nat) (r : Rule) : Moved s (placeRule i r t) := by
  have hw : Moved s (withRule i r t) := h.trans { rules := List.length_set }
  rw [placeRule_eq]
  exact .ite (hw.runPass _) hw

protected theorem Moved.loadCompare (h : Moved s t) (o : Origin) (args : List Word) :
    Moved s (loadCompare o args t).1 := by
  unfold Machine.loadCompare
  dsimp only
  split
  · exact h
  split
  · exact h
  split
  exacts [h, h.placeRule _ _]

protected theorem Moved.clearCompare (h : Moved s t) (o : Origin) (args : List Word) :
    Moved s (clearCompare o args t).1 := by
  unfold Machine.clearCompare
  dsimp only
  split
  · exact h
  split
  exacts [h, h.clearRule _]

/-! ### Links -/

protected theorem Moved.releaseClose (h : Moved s t) (l : Link) : Moved s (releaseClose l t) := by
  unfold Machine.releaseClose
  exact .ite (h.trans {}) h

protected theorem Moved.releaseWatch (h : Moved s t) (l : Link) : Moved s (releaseWatch l t) := by
  unfold Machine.releaseWatch
  exact .ite (h.trans {}) h

protected theorem Moved.sendTune (h : Moved s t) (l : Link) (ch : BitVec 4) : Moved s (sendTune l ch t) := by
  unfold Machine.sendTune
  exact (Moved.releaseClose h.mapLink l).releaseWatch l

protected theorem Moved.retune (h : Moved s t) (l : Link) (ch : BitVec 4) : Moved s (retune l ch t) := by
  unfold Machine.retune
  split
  · exact h
  · exact h
  · exact h.mapLink
  · exact .ite h.mapLink (h.sendTune l ch)

protected theorem Moved.noteTuneSent (h : Moved s t) (l : Link) : Moved s (noteTuneSent l t) := by
  unfold Machine.noteTuneSent
  split
  · exact .ite (h.trans {}) h
  all_goals exact h

protected theorem Moved.sendNext (h : Moved s t) (l : Link) : Moved s (sendNext l t) := by
  unfold Machine.sendNext
  split
  · exact (h.sendTune l _).noteTuneSent l
  · exact h

protected theorem Moved.endBurst (h : Moved s t) (l : Link) : Moved s (endBurst l t) := by
  unfold Machine.endBurst
  exact .ite (Moved.sendNext (h.trans {}) l) (h.trans {})

protected theorem Moved.abandonBurst (h : Moved s t) : Moved s (abandonBurst t) := by
  unfold Machine.abandonBurst
  split
  · exact Moved.endBurst (Moved.settleQueue (h.trans {}) _) _
  · exact h

protected theorem Moved.settleBurst (h : Moved s t) : Moved s (settleBurst t) := by
  unfold Machine.settleBurst
  split
  · exact .ite h.abandonBurst h
  · exact h

protected theorem Moved.mapNeighbour (h : Moved s t) (z : Byte) (f : Neighbour → Neighbour) :
    Moved s (mapNeighbour z f t) :=
  h.trans { neighbours := (le_of_eq (List.length_map _)).trans }

protected theorem Moved.endDwell (h : Moved s t) : Moved s (endDwell t) := h.trans {}

protected theorem Moved.startDwell (h : Moved s t) (l : Link) (n : Neighbour) : Moved s (startDwell l n t) := by
  unfold Machine.startDwell
  have hd := Moved.mapNeighbour (h.trans (u := { t with
    xu.dwell := some ⟨n.zone, 0, false⟩, xu.watch := none, xu.dwellBeacon := none }) {}) n.zone
    fun x => { x with good := 0, predicted := none }
  exact .ite hd (hd.retune l _)

protected theorem Moved.adjustDwell (h : Moved s t) : Moved s (adjustDwell t) := by
  have hstart : ∀ l, Moved s (match t.xu.neighbours.find? (Neighbour.eligible t.ft.zone) with
      | some x => startDwell l x t
      | none => endDwell t) := fun l => by
    split
    exacts [h.startDwell l _, h.endDwell]
  unfold Machine.adjustDwell
  split
  · exact h.endDwell
  split
  · exact .ite h (hstart _)
  · exact hstart _

protected theorem Moved.advanceDwell (h : Moved s t) : Moved s (advanceDwell t) := by
  unfold Machine.advanceDwell
  split
  · split
    · exact h.trans {}
    split
    · exact .ite (h.trans {}) (h.startDwell _ _)
    · exact h
  · exact h

protected theorem Moved.answerLinkEnable (h : Moved s t) (l : Link) : Moved s (answerLinkEnable l t) := by
  unfold Machine.answerLinkEnable
  split
  · exact .ite (h.replyCommand _ _) h
  all_goals exact h

protected theorem Moved.endDwellOf (h : Moved s t) (l : Link) : Moved s (endDwellOf l t) := by
  unfold Machine.endDwellOf
  exact .ite h.endDwell h

protected theorem Moved.enterPortFault (h : Moved s t) (l : Link) : Moved s (enterPortFault l t) := by
  unfold Machine.enterPortFault
  exact .ite h ((((Moved.releaseClose h.mapLink l).endDwellOf l).raiseCause _).settleBurst.answerLinkEnable l)

protected theorem Moved.enterTxFault (h : Moved s t) (l : Link) : Moved s (enterTxFault l t) := by
  unfold Machine.enterTxFault
  exact (Moved.endDwellOf h.mapLink l).raiseCause _

protected theorem Moved.answerForced (h : Moved s t) (r : ResultCode) : Moved s (answerForced r t) := by
  have hf : Moved s (if t.xu.forcedCommand then replyCommand r [] { t with xu.forcedCommand := false } else t) :=
    .ite (h.trans {}) h
  unfold Machine.answerForced
  dsimp only
  split
  · exact Moved.offerProvisionReply (hf.trans {}) _ _
  · exact hf

protected theorem Moved.setLock (h : Moved s t) (k : LockState) : Moved s (setLock k t) := by
  unfold Machine.setLock
  exact .ite (h.trans {}) (Moved.requestStatus (h.trans {}))

protected theorem Moved.startScan (h : Moved s t) (l : Link) : Moved s (startScan l t) := by
  unfold Machine.startScan
  exact .ite (Moved.retune h.mapLink l _) h

protected theorem Moved.dropTiming (h : Moved s t) : Moved s (dropTiming t) := by
  unfold Machine.dropTiming
  exact .ite h (Moved.setLock (h.trans {}) _)

protected theorem Moved.enterSearch (h : Moved s t) : Moved s (enterSearch t) := by
  have hg : Moved s { dropTiming t with ssu.grants := [], ssu.contention := [], ab.restart := true } :=
    h.dropTiming.trans { grants := fun _ => Nat.zero_le _, contention := fun _ => Nat.zero_le _ }
  exact (((hg.settleQueue _).endDwell.answerForced _).startScan .a).startScan .b

/-! ### Slot service -/

theorem length_grantsFor (id : BitVec 10) (n : Nat) (gs : List BeaconGrant) : (grantsFor id n gs).length ≤ n :=
  List.length_take_le _ _

protected theorem Moved.takeGrantList (h : Moved s t) (gs : List BeaconGrant) : Moved s (takeGrantList gs t) := by
  have hg : Moved s { t with
      ssu.grants := grantsFor t.carid Config.grantsMax gs
      ssu.contention := grantsFor allCars Config.contentionMax gs } :=
    h.trans { grants := fun _ => length_grantsFor _ _ _, contention := fun _ => length_grantsFor _ _ _ }
  unfold Machine.takeGrantList
  exact .ite hg.dropQueuedJoin hg

protected theorem Moved.countBeyond (h : Moved s t) : Moved s (countBeyond t) := h.trans {}

protected theorem Moved.noteOversize (h : Moved s t) (places : List Nat) : Moved s (noteOversize places t) := by
  unfold Machine.noteOversize
  exact .ite h (Moved.raiseCause (h.trans { records := (le_of_eq List.length_mapIdx).trans }) _)

protected theorem Moved.sendBurst (h : Moved s t) (l : Link) (k : BitVec 6) (p : Packing) :
    Moved s (sendBurst l k p t) := by
  unfold Machine.sendBurst
  exact .ite h (Moved.mapLink (h.trans { records := (le_of_eq List.length_mapIdx).trans }))

protected theorem Moved.prepare (h : Moved s t) (l : Link) (k : BitVec 6) (cs : List Candidate) :
    Moved s (prepare l k cs t) := (h.noteOversize _).sendBurst _ _ _

protected theorem Moved.serveSlot (h : Moved s t) (k : BitVec 6) (late : Bool) : Moved s (serveSlot k late t) := by
  unfold Machine.serveSlot
  split
  · split
    · exact .ite h (h.prepare _ _ _)
    · exact h.trans {}
  split
  · split
    · exact .ite h (h.prepare _ _ _)
    · exact h
  · exact h

/-- The charge stops at -4K (R114). -/
theorem Airtime.Ok.charge {b : Airtime} (h : b.Ok) (n : Nat) : (chargeCredit n b).Ok := by
  unfold Airtime.Ok at *
  unfold chargeCredit
  dsimp only
  split
  · exact h
  split
  · dsimp only; omega
  · dsimp only; omega

/-- The credit of a frame stops at 8K (R115). -/
theorem Airtime.Ok.frame {b : Airtime} (h : b.Ok) : (creditFrame b).Ok := by
  unfold Airtime.Ok at *
  unfold creditFrame
  dsimp only
  omega

/-- A new allowance takes the credit into its own bounds (R116). -/
theorem Airtime.Ok.allow {b : Airtime} (h : b.Ok) (k : Nat) : (takeAllowance k b).Ok := by
  unfold Airtime.Ok at *
  unfold takeAllowance
  dsimp only
  split
  · omega
  split
  · next hk => subst hk; exact h
  · omega

protected theorem Moved.keyBurst (h : Moved s t) : Moved s (keyBurst t) := by
  unfold Machine.keyBurst
  split
  · exact .ite (.ite (h.trans { credit := fun hk => hk.charge _ }) h.abandonBurst) h
  · exact h

protected theorem Moved.countTxFault (h : Moved s t) (l : Link) : Moved s (countTxFault l t) := by
  unfold Machine.countTxFault
  exact .ite (Moved.enterTxFault h.mapLink l) h.mapLink

protected theorem Moved.expireBurst (h : Moved s t) : Moved s (expireBurst t) := by
  unfold Machine.expireBurst
  split
  · exact .ite (((Moved.settleQueue (h.trans {}) _).countTxFault _).endBurst _) h
  · exact h

protected theorem Moved.completeBurst (h : Moved s t) (l : Link) : Moved s (completeBurst l t) := by
  unfold Machine.completeBurst
  split
  · exact .ite (Moved.endBurst (Moved.settleQueue (Moved.mapLink (h.trans {})) _) l) h
  · exact h

end Sys2Proof.Machine
end

section
/-! SUPPORT. The operations of the Frame Timer, the ports, the images, the filter, the commands and the words of a job
move the state (`Moved`), but for those that change a role, place or clear an entry, or start a job. -/

-- One proof is checked after another: each worker thread of Lean reserves memory of its own.
set_option Elab.async false

namespace Sys2Proof.Machine

variable {s t : State}

/-! ### Frame timer -/

protected theorem Moved.enterLocked (h : Moved s t) : Moved s (enterLocked t) := by
  unfold Machine.enterLocked
  exact Moved.setLock (h.trans {}) _

protected theorem Moved.enterAcquire (h : Moved s t) (n : Nat) : Moved s (enterAcquire n t) := by
  unfold Machine.enterAcquire
  exact Moved.setLock (h.trans {}) _

protected theorem Moved.openWindow (h : Moved s t) : Moved s (openWindow t) := by
  unfold Machine.openWindow
  split
  exacts [h.trans {}, h]

protected theorem Moved.followOpening (h : Moved s t) : Moved s (followOpening t) := by
  unfold Machine.followOpening
  split
  exacts [.ite h h.openWindow, h]

protected theorem Moved.ageTick (h : Moved s t) (i : Nat) : Moved s (ageTick t i) := by
  unfold Machine.ageTick
  split
  · next m _ =>
    have hu : ∀ f, Moved s (if m.ageWord then listAge i (mapMirror i f t) else mapMirror i f t) := fun f =>
      .ite (Moved.listAge (h.mapMirror _ _) i) (h.mapMirror _ _)
    exact .ite ((hu _).raiseCause _) (hu _)
  · exact h

protected theorem Moved.slotStartAt (h : Moved s t) (k : BitVec 6) : Moved s (slotStartAt k t) := by
  unfold Machine.slotStartAt
  split
  · exact Moved.serveSlot (h.trans {}) _ _
  · exact h

protected theorem Moved.averageQuality (h : Moved s t) (q : Nat) : Moved s (averageQuality q t) := by
  unfold Machine.averageQuality
  split
  exacts [h.mapLink, h]

protected theorem Moved.countMiss (h : Moved s t) : Moved s (countMiss t) := by
  unfold Machine.countMiss
  dsimp only
  split
  · exact h
  · exact .ite (h.trans {}) (Moved.enterSearch (h.trans {}))
  · exact Moved.setLock (h.trans {}) _
  · exact .ite (h.trans {}) (Moved.enterSearch (h.trans {}))

protected theorem Moved.closeWindow (h : Moved s t) (w : BeaconWindow) : Moved s (closeWindow w t) := by
  have hq : ∀ q fate, Moved s (joinTest (settleQueue fate (averageQuality q { t with ft.window := none }))) :=
    fun q fate => ((Moved.averageQuality (h.trans {}) q).settleQueue fate).joinTest
  unfold Machine.closeWindow
  exact .ite (hq _ _) (hq _ _).countMiss

protected theorem Moved.fallClose (h : Moved s t) : Moved s (fallClose t) := by
  unfold Machine.fallClose
  split
  · split
    · exact .ite (h.trans {}) (h.closeWindow _)
    · exact h
    · exact h.closeWindow _
  · exact h

protected theorem Moved.closeTimeout (h : Moved s t) : Moved s (closeTimeout t) := by
  unfold Machine.closeTimeout
  split
  · split
    · exact h.closeWindow _
    all_goals exact h
  · exact h

theorem length_keepNeighbour {own : Byte} {old acc : List Neighbour} (e : NeighbourEntry)
    (h : acc.length ≤ Config.neighboursMax) : (keepNeighbour own old acc e).length ≤ Config.neighboursMax := by
  unfold keepNeighbour
  split
  · exact h
  · next hn =>
    push Not at hn
    exact length_append_le _ hn.2.2

protected theorem Moved.takeNeighbourList (h : Moved s t) (own : Byte) (es : List NeighbourEntry) :
    Moved s (takeNeighbourList own es t) := by
  have hn : Moved s { t with xu.neighbours := es.foldl (keepNeighbour own t.xu.neighbours) [] } :=
    h.trans { neighbours := fun _ => (List.foldlRecOn
      (motive := fun ns : List Neighbour => ns.length ≤ Config.neighboursMax) es _ (Nat.zero_le _)
      fun ns hns e _ => length_keepNeighbour e hns) }
  unfold Machine.takeNeighbourList
  dsimp only
  split
  · exact .ite (hn.startDwell _ _) hn.adjustDwell
  · exact hn.adjustDwell

protected theorem Moved.distribute (h : Moved s t) (b : Beacon) : Moved s (distribute b t) := by
  unfold Machine.distribute
  exact Moved.takeNeighbourList (((h.takeAckList _).takeGrantList _).trans { credit := fun hk => hk.allow _ }) _ _

protected theorem Moved.takeLock (h : Moved s t) : Moved s (takeLock t) := by
  unfold Machine.takeLock
  split
  · exact h
  · exact .ite (h.trans {}) h.enterLocked
  · exact h
  · exact h.enterLocked

/-! ### Ports -/

protected theorem Moved.raiseBst (h : Moved s t) (l : Link) : Moved s (raiseBst l t) := by
  unfold Machine.raiseBst
  exact .ite h.mapLink h

protected theorem Moved.takeTuned (h : Moved s t) (l : Link) : Moved s (takeTuned l t) := by
  have hu : ∀ f : LinkState → LinkState, (∀ k, (f k).role = k.role ∧ (f k).enabled = k.enabled) →
      Moved s (if (linkOf (mapLink l f t) l).nextChannel.isSome then sendNext l (mapLink l f t)
        else mapLink l (fun k => { k with condition := .ready }) (mapLink l f t)) := fun f hf =>
    .ite (Moved.sendNext (h.mapLink hf) l) (h.mapLink hf).mapLink
  unfold Machine.takeTuned
  refine .ite (.ite (Moved.answerLinkEnable ?_ l) ?_) h
  all_goals exact hu _ fun _ => ⟨rfl, rfl⟩

protected theorem Moved.expireTune (h : Moved s t) (l : Link) : Moved s (expireTune l t) := by
  unfold Machine.expireTune
  exact .ite (h.enterPortFault l) h

protected theorem Moved.expireScan (h : Moved s t) (l : Link) : Moved s (expireScan l t) := by
  unfold Machine.expireScan
  exact .ite (Moved.retune h.mapLink l _) h

protected theorem Moved.takeFault (h : Moved s t) (l : Link) : Moved s (takeFault l t) := by
  unfold Machine.takeFault
  exact .ite (h.enterPortFault l) h

protected theorem Moved.predictFrom (h : Moved s t) (z : Byte) (a : Tick) (f : Neighbour → Neighbour) :
    Moved s (predictFrom z a f t) := by
  unfold Machine.predictFrom
  exact Moved.mapNeighbour (h.trans {}) _ _

protected theorem Moved.watchReport (h : Moved s t) (a : Option Tick) (q : Nat) (burst : List Byte) :
    Moved s (watchReport a q burst t) := by
  unfold Machine.watchReport
  split
  case h_2 => exact h
  refine .ite ?_ h
  unfold watchBeacon
  dsimp only
  split
  · exact Moved.predictFrom (h.trans {}) _ _ _
  · exact .ite (.ite (h.trans {}) (Moved.mapNeighbour (h.trans {}) _ _)) (Moved.predictFrom (h.trans {}) _ _ _)

protected theorem Moved.closeWatch (h : Moved s t) (z : Byte) (w : WatchWindow) : Moved s (closeWatch z w t) := by
  unfold Machine.closeWatch
  exact Moved.mapNeighbour (h.trans {}) _ _

protected theorem Moved.fallWatch (h : Moved s t) : Moved s (fallWatch t) := by
  unfold Machine.fallWatch
  split
  · split
    · exact .ite (h.trans {}) (h.closeWatch _ _)
    · exact h
    · exact h.closeWatch _ _
  · exact h

protected theorem Moved.watchTimeout (h : Moved s t) : Moved s (watchTimeout t) := by
  unfold Machine.watchTimeout
  split
  · split
    · exact h.closeWatch _ _
    all_goals exact h
  · exact h

protected theorem Moved.enableMove (h : Moved s t) (l : Link) : Moved s (enableMove l t) := by
  unfold Machine.enableMove
  exact .ite (h.startScan l) (.ite (h.retune l _) h.adjustDwell)

/-- The clearing of a link's fault touches neither role nor mark (R137). -/
protected theorem Moved.clearLinkFaults (h : Moved s t) : Moved s (clearLinkFaults t) := by
  have hf : ∀ k : LinkState, (if k.enabled then k.cleared else k).role = k.role ∧
      (if k.enabled then k.cleared else k).enabled = k.enabled := fun k => by split <;> exact ⟨rfl, rfl⟩
  unfold Machine.clearLinkFaults
  exact Moved.mapLink (f := fun k => if k.enabled then k.cleared else k) (h.mapLink hf) hf

protected theorem Moved.restartLinks (h : Moved s t) : Moved s (restartLinks t) :=
  h.emptyQueue.clearLinkFaults.enterSearch

/-! ### Images -/

protected theorem Moved.completePriming (h : Moved s t) (i : Nat) : Moved s (completePriming i t) := by
  unfold Machine.completePriming
  have hu : ∀ f rules, Moved s (runPass rules (dropPrime i (mapCapture i f t))) := fun f rules =>
    (Moved.dropPrime (h.mapCapture _ _) i).runPass _
  dsimp only
  split
  · exact .ite (Moved.gatedSnapshot ((hu _ _).mapCapture _ _) _ _) (hu _ _)
  · exact hu _ _

protected theorem Moved.completeIfPrimed (h : Moved s t) (i : Nat) : Moved s (completeIfPrimed i t) := by
  unfold Machine.completeIfPrimed
  split
  exacts [.ite (h.completePriming i) h, h]

protected theorem Moved.captureHandOver (h : Moved s t) (i k : Nat) (w : Word) (lanes : Lanes) :
    Moved s (captureHandOver i k w lanes t) := by
  have hb : Moved s (captureBytes i k w lanes t) := h.mapCapture _ _
  unfold Machine.captureHandOver
  split
  case h_2 => exact h
  dsimp only
  split
  · exact (hb.runPass _).triggerTest i k
  · exact (hb.triggerTest i k).completeIfPrimed i

protected theorem Moved.snapshotNow (h : Moved s t) (args : List Word) : Moved s (snapshotNow args t).1 := by
  unfold Machine.snapshotNow
  dsimp only
  split
  · exact h
  split
  · split
    exacts [h.snapshot _, h]
  · exact h

/-! ### Downlink -/

protected theorem Moved.putGroup (h : Moved s t) (i : Nat) (g : Option GroupEntry) : Moved s (putGroup i g t) :=
  h.trans { groups := List.length_set }

protected theorem Moved.loadGroup (h : Moved s t) (o : Origin) (args : List Word) : Moved s (loadGroup o args t).1 := by
  unfold Machine.loadGroup
  dsimp only
  split
  · exact h
  split
  · exact h
  split
  exacts [h, h.putGroup _ _]

protected theorem Moved.clearGroup (h : Moved s t) (args : List Word) : Moved s (clearGroup args t).1 := by
  unfold Machine.clearGroup
  dsimp only
  split
  exacts [h, h.putGroup _ _]

protected theorem Moved.clearGroupsOf (h : Moved s t) (o : Origin) : Moved s (clearGroupsOf o t) :=
  h.trans { groups := List.length_map _ }

protected theorem Moved.dropDuplicate (h : Moved s t) (r : Recent) : Moved s (dropDuplicate r t) := by
  unfold Machine.dropDuplicate
  exact .ite (Moved.offerStopAck (h.trans {})) (h.trans {})

protected theorem Moved.routeMirror (h : Moved s t) (p : List Byte) : Moved s (routeMirror p t) := by
  have hm : Moved s (missMirror t) := h.trans {}
  unfold Machine.routeMirror
  split
  · dsimp only
    split
    · exact hm
    split
    exacts [h.listMirror _ _ _, hm]
  · exact hm

protected theorem Moved.forceProvision (h : Moved s t) (q : Byte) : Moved s (forceProvision q t) := by
  unfold Machine.forceProvision
  exact .ite (h.offerProvisionReply _ _) (h.trans {})

protected theorem Moved.setTiming (h : Moved s t) (args : List Word) : Moved s (setTiming args t).1 := h.trans {}

protected theorem Moved.setMargin (h : Moved s t) (args : List Word) : Moved s (setMargin args t).1 := h.trans {}

theorem length_addRecent {r : Recent} {rs : List Recent} (h : rs.length ≤ Config.recentMax) :
    (addRecent r rs).length ≤ Config.recentMax := by
  unfold addRecent
  dsimp only
  split
  · simpa using h
  · next hn => exact Nat.not_lt.mp hn

/-! ### Commands -/

protected theorem Moved.queryWindow (h : Moved s t) (args : List Word) : Moved s (queryWindow args t) := by
  unfold Machine.queryWindow
  dsimp only
  split
  · exact h.replyCommand _ _
  split
  all_goals exact h.replyCommand _ _

protected theorem Moved.setRing (h : Moved s t) (args : List Word) : Moved s (setRing args t) := by
  unfold Machine.setRing
  exact .ite (h.trans {}) (Moved.replyCommand (h.installRing _ _) _ _)

protected theorem Moved.endRingWait (h : Moved s t) : Moved s (endRingWait t) := by
  unfold Machine.endRingWait
  split
  · exact .ite h (Moved.replyCommand (h.installRing _ _) _ _)
  all_goals exact h

protected theorem Moved.forceCommand (h : Moved s t) : Moved s (forceCommand t) := by
  unfold Machine.forceCommand
  exact .ite (h.replyCommand _ _) (h.trans {})

protected theorem Moved.zeroCounters (h : Moved s t) : Moved s (zeroCounters t) := h.trans {}

protected theorem Moved.overrunCommand (h : Moved s t) : Moved s (overrunCommand t) := by
  unfold Machine.overrunCommand
  exact Moved.raiseCause (h.trans {}) _

/-! ### The words of a job -/

protected theorem Moved.settlePrime (h : Moved s t) (i : Nat) : Moved s (settlePrime i t) := by
  unfold Machine.settlePrime
  exact .ite (h.dropPrime i) h

/-- The job on top of the stack goes on where it was. -/
protected theorem Moved.resumeJob (h : Moved s t) {j : Job} {rest : List Job} (hr : t.mae.running = none)
    (hs : t.mae.stack = j :: rest) : Moved s (resumeJob j rest t) := by
  have hstack : rest.length ≤ t.mae.stack.length := by simp [hs]
  have hj : Moved s { t with mae.stack := rest, mae.running := some j } :=
    h.trans { engine := { ranks := by simp [ranks, hr, hs], stack := hstack } }
  unfold Machine.resumeJob
  split
  · next hw =>
    have hranks : ranks { t.mae with running := some ⟨.status false, 0⟩, stack := rest } = ranks t.mae := by
      simp [ranks, hr, hs, hw, Work.kind]
    exact h.trans { engine := { ranks := hranks ▸ .refl _, stack := hstack } }
  · exact hj.settlePrime _
  all_goals exact hj

/-- The running job goes on at another word. -/
protected theorem Moved.advanceTo (h : Moved s t) {j : Job} (hj : t.mae.running = some j) (n : Nat) :
    Moved s (advanceTo n j t) :=
  h.trans { engine := { ranks := by simp [ranks, hj] } }

theorem indexValue_lt {r : Ring} (h : r.Ok) (u : Option (Nat × RingClass)) : indexValue r u < r.slots := by
  have hs : 0 < r.slots := Nat.lt_of_lt_of_le (by decide) h.1
  unfold indexValue
  dsimp only
  split
  · split <;> exact Nat.mod_lt _ hs
  · exact Nat.mod_lt _ hs

protected theorem Moved.publishRing (h : Moved s t) (c : RingClass) : Moved s (publishRing c t) := by
  unfold Machine.publishRing
  split
  case h_2 => exact h.endRunning
  next r hr =>
    have hp : ∀ u, Moved s { t with
        mae.ring := some { r with w := indexValue r t.mae.unpublished }, mae.unpublished := u } := fun u => by
      refine h.trans { engine := { ring := fun hok q hq => ?_ } }
      cases hq
      obtain ⟨h4, h64, hb, he, -, hrd, hv⟩ := hok r hr
      exact ⟨h4, h64, hb, he, indexValue_lt (hok r hr) _, hrd, hv⟩
    dsimp only
    split
    · exact ((hp _).endRunning.raiseRequest _).raiseRequest _
    · exact (hp _).endRunning.raiseRequest _

protected theorem Moved.finishRecord (h : Moved s t) {j : Job} (hj : t.mae.running = some j) (c : RingClass)
    (slot : Nat) : Moved s (finishRecord c slot j t) := by
  unfold Machine.finishRecord
  split
  · exact .ite (h.advanceTo hj _) (Moved.endRunning (h.trans {}))
  · exact h.endRunning

protected theorem Moved.mirrorDeposited (h : Moved s t) (i : Nat) : Moved s (mirrorDeposited i t) := by
  unfold Machine.mirrorDeposited
  dsimp only
  split
  · exact .ite (Moved.listAge (h.mapMirror _ _) i) (h.mapMirror _ _)
  · exact h.mapMirror _ _

protected theorem Moved.resultDeposited (h : Moved s t) : Moved s (resultDeposited t) := by
  unfold Machine.resultDeposited
  exact Moved.raiseRequest (h.trans {}) _

@[simp] theorem mapCapture_mae (i : Nat) (f : Capture → Capture) (s : State) : (mapCapture i f s).mae = s.mae := by
  unfold mapCapture
  split
  · split <;> rfl
  · rfl

protected theorem Moved.primeFilled (h : Moved s t) {j : Job} (hj : t.mae.running = some j) (i k : Nat) (v : Word) :
    Moved s (primeFilled i k v j t) := by
  unfold Machine.primeFilled
  exact (Moved.completeIfPrimed (Moved.advanceTo (h.mapCapture _ _) (by simpa using hj) _) i).settlePrime i

protected theorem Moved.jobWordDone (h : Moved s t) {j : Job} (hj : t.mae.running = some j) (b : BusWord) (v : Word) :
    Moved s (jobWordDone j b v t) := by
  unfold Machine.jobWordDone
  dsimp only
  split
  · exact .ite (h.advanceTo hj _) h.endRunning
  · exact .ite (h.advanceTo hj _) h.endRunning.stopDeposited
  · next r _ =>
    have hp : ∀ c : Bool, Moved s (if c then { t with mae.publication := false } else t) := fun c =>
      .ite (h.trans {}) h
    have hpj : ∀ c : Bool, (if c then { t with mae.publication := false } else t).mae.running = some j := fun c => by
      cases c <;> exact hj
    exact .ite ((hp _).advanceTo (hpj _) _) (hp _).endRunning.resultDeposited
  · exact .ite (h.advanceTo hj _) (.ite (h.finishRecord hj _ _) (h.publishRing _))
  · exact .ite (h.advanceTo hj _) (h.endRunning.mirrorDeposited _)
  · exact h.endRunning
  · exact .ite (h.advanceTo hj _) h.endRunning
  · exact h.primeFilled hj _ _ _

protected theorem Moved.noteDeposit (h : Moved s t) (b : BusWord) (v : Word) : Moved s (noteDeposit b v t) := by
  unfold Machine.noteDeposit
  exact .ite (h.trans {}) h

protected theorem Moved.completeWord (h : Moved s t) (b : BusWord) : Moved s (completeWord b t) := by
  unfold Machine.completeWord
  dsimp only
  split
  · next j hj =>
    refine Moved.jobWordDone ?_ hj _ _
    split
    · exact Moved.noteDeposit (h.trans {}) _ _
    · exact h.trans {}
  · split
    · exact Moved.noteDeposit (h.trans {}) _ _
    · exact h.trans {}

end Sys2Proof.Machine
end

section
/-! SUPPORT. Every step keeps every invariant. `Keeps s t` says that each invariant that holds of `s` holds of `t`; one
lemma for each operation that starts a job, places or clears an entry or changes a role, and for all that call one. -/

-- One proof is checked after another: each worker thread of Lean reserves memory of its own.
set_option Elab.async false

namespace Sys2Proof.Machine

/-! ### The relation -/

/-- Each invariant of the statements goes from `s` to `t`. -/
structure Keeps (s t : State) : Prop where
  page : PageOk s → PageOk t
  tables : TablesOk s → TablesOk t
  lists : TablesOk s → ListsOk s → ListsOk t
  stack : StackOk s → StackOk t
  credit : CreditOk s → CreditOk t
  roles : RolesOk s → RolesOk t
  ring : RingOk s → RingOk t

protected theorem Keeps.rfl {s : State} : Keeps s s := ⟨id, id, fun _ => id, id, id, id, id⟩

theorem Keeps.trans {s t u : State} (h : Keeps s t) (g : Keeps t u) : Keeps s u where
  page := g.page ∘ h.page
  tables := g.tables ∘ h.tables
  lists := fun ht hl => g.lists (h.tables ht) (h.lists ht hl)
  stack := g.stack ∘ h.stack
  credit := g.credit ∘ h.credit
  roles := g.roles ∘ h.roles
  ring := g.ring ∘ h.ring

theorem Within.tables {s t : State} (h : Within s t) (ht : TablesOk s) : TablesOk t :=
  ⟨h.windows.trans ht.windows, h.rules.trans ht.rules, h.groups.trans ht.groups, h.copy.trans ht.copy⟩

theorem Within.lists {s t : State} (h : Within s t) (hl : ListsOk s) : ListsOk t where
  records := h.records hl.records
  grants := h.grants hl.grants
  contention := h.contention hl.contention
  neighbours := h.neighbours hl.neighbours
  recent := h.recent hl.recent
  stack := h.engine.stack.trans hl.stack
  mirrorList := h.engine.mirrorList hl.mirrorList
  staging := h.engine.staging hl.staging
  prime := h.engine.prime.length_le.trans hl.prime
  primeOnce := hl.primeOnce.sublist h.engine.prime
  primeOfCapture := fun i hi => (h.captures i).trans (hl.primeOfCapture i (h.engine.prime.subset hi))
  primeInReset := fun hv => List.sublist_nil.mp (hl.primeInReset (h.vrst ▸ hv) ▸ h.engine.prime)

/-- Updates within the blocks keep every invariant, if they keep that of the roles. -/
theorem Within.keeps {s t : State} (h : Within s t) (hr : RolesOk s → RolesOk t) : Keeps s t where
  page := fun ⟨c, hc, hb⟩ => ⟨c, hc, h.base.trans hb⟩
  tables := h.tables
  lists := fun _ => h.lists
  stack := fun hs => List.Pairwise.sublist h.engine.ranks hs
  credit := h.credit
  roles := hr
  ring := h.engine.ring

theorem rolesOk_iff (s : State) : RolesOk s ↔
    (s.xu.linkA.role = .off ↔ s.xu.linkA.enabled = false) ∧ (s.xu.linkB.role = .off ↔ s.xu.linkB.enabled = false) ∧
    ¬(s.xu.linkA.role = .primary ∧ s.xu.linkB.role = .primary) ∧
    (s.xu.linkA.enabled = true ∨ s.xu.linkB.enabled = true →
      s.xu.linkA.role = .primary ∨ s.xu.linkB.role = .primary) :=
  ⟨fun ⟨a, b, c, d⟩ => ⟨a, b, c, d⟩, fun ⟨a, b, c, d⟩ => ⟨a, b, c, d⟩⟩

/-- R120 speaks of the roles and enable marks alone. -/
theorem rolesOk_of_roles {s t : State} (h : roles t.xu = roles s.xu) (hs : RolesOk s) : RolesOk t := by
  simp only [roles, Prod.mk.injEq] at h
  obtain ⟨ha, hae, hb, hbe⟩ := h
  rw [rolesOk_iff] at hs ⊢
  rwa [ha, hae, hb, hbe]

theorem Moved.keeps {s t : State} (h : Moved s t) : Keeps s t := h.toWithin.keeps (rolesOk_of_roles h.roles)

variable {s t u : State}

/-- What is kept up to `t` is kept by a move from there. -/
theorem Keeps.moved (h : Keeps s t) (m : Moved t u) : Keeps s u := h.trans m.keeps

protected theorem Keeps.ite {p : Prop} [Decidable p] (ht : Keeps s t) (hu : Keeps s u) :
    Keeps s (if p then t else u) := by
  split
  exacts [ht, hu]

protected theorem Keeps.foldl {α : Type} {f : State → α → State} (hf : ∀ u x, Keeps u (f u x)) (l : List α)
    (h : Keeps s t) : Keeps s (l.foldl f t) :=
  List.foldlRecOn (motive := Keeps s) l f h fun u hu x _ => hu.trans (hf u x)

/-! ### Entries -/

@[simp] theorem dropPrime_primeList (i : Nat) (t : State) :
    (dropPrime i t).mae.primeList = t.mae.primeList.filter fun k => decide (k ≠ i) := by
  unfold dropPrime
  obtain ⟨_, _, _, -, h⟩ := abandonWork_eq (Work.isPrimeOf i)
    { t with mae.primeList := t.mae.primeList.filter fun k => decide (k ≠ i) }
  rw [h]

/-- An entry is placed or cleared where no PRIME job of a CAPTURE window stands for its index. -/
theorem Keeps.putEntry {i : Nat} {e : Option Entry} (hi : captureAt t i = none ∨ i ∉ t.mae.primeList) (h : Keeps s t) :
    Keeps s (putEntry i e t) := by
  refine h.trans ⟨id, fun ht => ⟨List.length_set.trans ht.windows, ht.rules, ht.groups, ht.copy⟩, fun _ hl => ?_, id, id,
    fun hr => ⟨hr.offA, hr.offB, hr.notBoth, hr.one⟩, id⟩
  refine ⟨hl.records, hl.grants, hl.contention, hl.neighbours, hl.recent, hl.stack, hl.mirrorList, hl.staging, hl.prime,
    hl.primeOnce, fun k hk => ?_, hl.primeInReset⟩
  have hne : i ≠ k := by
    rintro rfl
    have := hl.primeOfCapture i hk
    rcases hi with hi | hi
    · simp [hi] at this
    · exact hi hk
  simpa only [captureAt, entryAt_putEntry_ne e hne] using hl.primeOfCapture k hk

protected theorem Keeps.clearEntry (h : Keeps s t) (i : Nat) : Keeps s (clearEntry i t) := by
  unfold Machine.clearEntry
  split
  case h_2 => exact h
  next e he =>
    split
    · exact (h.moved (Moved.dropPrime (Moved.clearRulesWhere (Moved.rfl.withdrawWindow i) _) i)).putEntry
        (.inr (by simp))
    · next m hm =>
      refine (h.moved (Moved.rfl.dropMirror i)).putEntry (.inl ?_)
      simp only [captureAt, entryAt, dropMirror_wt]
      rw [entryAt] at he
      simp only [he, hm]

/-- A cleared place is empty. -/
theorem entryAt_clearEntry_self (i : Nat) (t : State) : entryAt (clearEntry i t) i = none := by
  unfold clearEntry
  split
  · next e he =>
    have hlt : i < t.wt.length := lt_length_of_entryAt he
    split <;> exact entryAt_putEntry_self _ (by simpa using hlt)
  · next hn => exact hn

/-- Places that are all below `n` and named once are at most `n`. -/
theorem length_le_of_nodup_lt {l : List Nat} {n : Nat} (hn : l.Nodup) (hl : ∀ i ∈ l, i < n) : l.length ≤ n := by
  simpa using (hn.subperm (l₂ := List.range n) fun i hi => List.mem_range.mpr (hl i hi)).length_le

/-- A CAPTURE window is one of the sixteen. -/
theorem lt_of_captureAt {i : Nat} (h : (captureAt t i).isSome = true) : i < t.wt.length := by
  cases he : entryAt t i with
  | none => simp [captureAt, he] at h
  | some e => exact lt_length_of_entryAt he

/-- A loaded CAPTURE window's PRIME job joins the list (R22, R30). -/
theorem Keeps.appendPrime {i : Nat} {e : Entry} (hi : i ≤ 15) (hc : captureAt t i = none)
    (hb : e.body.isCapture = true) (hv : t.vrst = false) (h : Keeps s t) :
    Keeps s (appendPrime i (Machine.putEntry i (some e) t)) := by
  have hp : Keeps t (Machine.putEntry i (some e) t) := Keeps.rfl.putEntry (.inl hc)
  refine h.trans ⟨hp.page, fun ht => ⟨(hp.tables ht).windows, ht.rules, ht.groups, ht.copy⟩, fun ht hl => ?_,
    hp.stack, hp.credit, fun hr => ⟨hr.offA, hr.offB, hr.notBoth, hr.one⟩, hp.ring⟩
  have hw : i < t.wt.length := by rw [ht.windows]; omega
  have hnew : (captureAt (Machine.putEntry i (some e) t) i).isSome = true :=
    (captureAt_of_entry (entryAt_putEntry_self (some e) hw)).trans hb
  have hnot : i ∉ t.mae.primeList := fun hm => by simpa [hc] using hl.primeOfCapture i hm
  have hall : ∀ k ∈ t.mae.primeList ++ [i], (captureAt (Machine.putEntry i (some e) t) k).isSome = true := by
    intro k hk
    rcases List.mem_append.mp hk with hk | hk
    · exact (hp.lists ht hl).primeOfCapture k hk
    · cases List.mem_singleton.mp hk
      exact hnew
  have honce : (t.mae.primeList ++ [i]).Nodup :=
    List.nodup_append.mpr ⟨hl.primeOnce, List.nodup_singleton i, fun a ha b hb' => by
      cases List.mem_singleton.mp hb'
      exact fun hab => hnot (hab ▸ ha)⟩
  have hlt : ∀ k ∈ t.mae.primeList ++ [i], k < 16 := fun k hk => by
    simpa [ht.windows] using lt_of_captureAt (hall k hk)
  exact ⟨hl.records, hl.grants, hl.contention, hl.neighbours, hl.recent, hl.stack, hl.mirrorList, hl.staging,
    length_le_of_nodup_lt honce hlt, honce, hall, fun hv' => absurd (hv.symm.trans hv') nofun⟩

protected theorem Keeps.placeEntry (h : Keeps s t) {i : Nat} (hi : i ≤ 15) (e : Entry) : Keeps s (placeEntry i e t) := by
  have hc : captureAt (Machine.clearEntry i t) i = none := by simp [captureAt, entryAt_clearEntry_self]
  unfold Machine.placeEntry
  dsimp only
  split
  · next hb =>
    simp only [Bool.and_eq_true, Bool.not_eq_true'] at hb
    exact (h.clearEntry i).appendPrime hi hc hb.1 hb.2
  · exact (h.clearEntry i).putEntry (.inl hc)

protected theorem Keeps.clearWindow (h : Keeps s t) (o : Origin) (args : List Word) :
    Keeps s (clearWindow o args t).1 := by
  unfold Machine.clearWindow
  dsimp only
  split
  · exact h
  split
  exacts [h, h.clearEntry _]

protected theorem Keeps.clearEntriesOf (h : Keeps s t) (o : Origin) : Keeps s (clearEntriesOf o t) := by
  unfold Machine.clearEntriesOf
  exact h.foldl (fun u i => .ite (Keeps.rfl.clearEntry i) .rfl) _

protected theorem Keeps.loadWindow (h : Keeps s t) (o : Origin) (args : List Word) :
    Keeps s (loadWindow o args t).1 := by
  unfold Machine.loadWindow
  dsimp only
  split
  · exact h
  · next hi =>
    split
    · exact h
    repeat' split
    exacts [h, h, h, h, h.placeEntry (Nat.not_lt.mp hi) _]

/-! ### Roles -/

/-- The roles swap between an enabled STANDBY link and the other (R133). -/
protected theorem Keeps.swapRoles (h : Keeps s t) {l : Link} (hr : (linkOf t l).role = .standby)
    (he : (linkOf t l).enabled = true) (a8 : Nat) : Keeps s (swapRoles l a8 t) := by
  unfold Machine.swapRoles
  refine Keeps.moved (t := mapLink (otherLink l) (fun k => { k with role := .standby, a8 := 0 })
    (mapLink l (fun k => { k with role := .primary, a8 := a8 }) t)) (h.trans ?_) Moved.rfl.requestStatus.settleBurst
  refine ((Moved.rfl.toWithin.mapLink l _).mapLink _ _).keeps fun ho => ?_
  rw [rolesOk_iff] at ho ⊢
  obtain ⟨ha, hb, hn, h1⟩ := ho
  cases l <;> simp_all [linkOf, mapLink, putLink, otherLink]

/-- What the decision knows of a qualified STANDBY link (R127, R131). -/
theorem qualifiedStandby_role {l : Link} {n : Neighbour} {b : DwellBeacon} {a : Tick}
    (h : qualifiedStandby t = some (l, n, b, a)) :
    (linkOf t l).role = .standby ∧ (linkOf t l).enabled = true := by
  have hd : dwellingLink t = some l := by
    unfold qualifiedStandby at h
    split at h
    · next hl _ _ _ =>
      split at h
      · split at h
        · cases h; exact hl
        · cases h
      · cases h
    · cases h
  unfold dwellingLink standbyLink linkWithRole at hd
  split at hd
  · next l' hl =>
    split at hd
    · next hc =>
      cases hd
      simp only [Bool.and_eq_true] at hc
      refine ⟨?_, hc.1.1⟩
      split at hl
      · next ha => cases hl; exact ha
      · split at hl
        · next hb => cases hl; exact hb
        · cases hl
    · cases hd
  · cases hd

protected theorem Keeps.crossOver (h : Keeps s t) {l : Link} (hr : (linkOf t l).role = .standby)
    (he : (linkOf t l).enabled = true) (n : Neighbour) (b : DwellBeacon) (a : Tick) :
    Keeps s (crossOver l n b a t) := by
  unfold Machine.crossOver
  extract_lets t₁ t₂ t₃ ssu t₄ t₅ t₆
  have h₂ : Keeps s t₂ := (h.swapRoles hr he n.a8).moved (Moved.rfl.setFt _)
  have h₃ : Keeps s t₃ := .ite (h₂.moved Moved.rfl.enterLocked) (h₂.moved (Moved.rfl.enterAcquire _))
  have h₄ : Keeps s t₄ := h₃.moved { grants := fun _ => Nat.zero_le _, contention := fun _ => Nat.zero_le _ }
  have h₆ : Keeps s t₆ :=
    h₄.moved ((Moved.rfl.settleQueue _).createJoin.endDwell.adjustDwell.raiseRequest _)
  clear_value t₆
  exact h₆.moved (Moved.followOpening {})

protected theorem Keeps.decideCrossover (h : Keeps s t) : Keeps s (decideCrossover t) := by
  unfold Machine.decideCrossover
  split
  · next l n b a hq =>
    obtain ⟨hr, he⟩ := qualifiedStandby_role hq
    have hc := h.crossOver hr he n b a
    exact .ite (hc.moved (Moved.rfl.answerForced _)) (.ite hc (h.moved Moved.rfl.advanceDwell))
  · exact h.moved (Moved.rfl.answerForced _).advanceDwell

protected theorem Keeps.frameStartAt (h : Keeps s t) (fn : Tick) : Keeps s (frameStartAt fn t) := by
  unfold Machine.frameStartAt
  have hp : Moved t ((List.range 16).foldl periodTick { t with ft := beginFrame fn t.ft }) :=
    (Moved.rfl.setFt _).foldl (fun u i => Moved.rfl.periodTick i) _
  have hc : ∀ u : State, Moved u { u with ab := creditFrame u.ab } := fun _ => { credit := fun hk => hk.frame }
  exact (h.moved ((hp.trans (hc _)).foldl (fun u i => Moved.rfl.ageTick i) _).requestStatus.countBeyond).decideCrossover

protected theorem Keeps.runFrameStart (h : Keeps s t) : Keeps s (runFrameStart t) := by
  unfold Machine.runFrameStart
  split
  exacts [h.frameStartAt _, h]

protected theorem Keeps.followFrameStart (h : Keeps s t) : Keeps s (followFrameStart t) := by
  unfold Machine.followFrameStart
  split
  exacts [.ite h (h.frameStartAt _), h]

protected theorem Keeps.takeInWindow (h : Keeps s t) (a : Tick) (q : Nat) (b : Beacon) (w : BeaconWindow) :
    Keeps s (takeInWindow a q b w t) := by
  unfold Machine.takeInWindow
  exact (h.moved ((Moved.rfl.setFt _).distribute b).takeLock).followFrameStart

protected theorem Keeps.takeReseed (h : Keeps s t) (a : Tick) (b : Beacon) : Keeps s (takeReseed a b t) := by
  unfold Machine.takeReseed
  exact (h.moved (((Moved.rfl.setFt _).distribute b).enterAcquire 1).adjustDwell).followFrameStart.moved
    Moved.rfl.followOpening

/-- The enabled link that heard the beacon becomes PRIMARY, an enabled other link STANDBY (R125). -/
protected theorem Keeps.claimPrimary (h : Keeps s t) {l : Link} (he : (linkOf t l).enabled = true) (q : Nat) :
    Keeps s (claimPrimary l q t) := by
  have hlinks : ∀ f g : LinkState → LinkState,
      (∀ k, (f k).role = .primary ∧ (f k).enabled = k.enabled) →
      (∀ k, (g k).role = (if k.enabled then .standby else k.role) ∧ (g k).enabled = k.enabled) →
      Keeps s (mapLink (otherLink l) g (mapLink l f t)) := fun f g hf hg => by
    refine h.trans (((Moved.rfl.toWithin.mapLink l _).mapLink _ _).keeps fun ho => ?_)
    rw [rolesOk_iff] at ho ⊢
    obtain ⟨ha, hb, hn, h1⟩ := ho
    cases l with
    | a => cases hx : t.xu.linkB.enabled <;> simp_all [linkOf, mapLink, putLink, otherLink]
    | b => cases hx : t.xu.linkA.enabled <;> simp_all [linkOf, mapLink, putLink, otherLink]
  unfold Machine.claimPrimary
  refine Keeps.moved (Keeps.ite (Keeps.moved ?_ Moved.rfl.requestStatus) ?_) Moved.rfl.settleBurst
  all_goals exact hlinks _ _ (fun _ => ⟨rfl, rfl⟩) fun k => by split <;> exact ⟨rfl, rfl⟩

protected theorem Keeps.takeInSearch (h : Keeps s t) {l : Link} (he : (linkOf t l).enabled = true) (a : Tick) (q : Nat)
    (b : Beacon) : Keeps s (takeInSearch l a q b t) := by
  unfold Machine.takeInSearch
  exact ((h.claimPrimary he q).moved ((((Moved.rfl.setFt _).distribute b).enterAcquire 1).adjustDwell.raiseRequest
    _)).followFrameStart.moved Moved.rfl.followOpening

protected theorem Keeps.screenBeacon (h : Keeps s t) (a : Tick) (q : Nat) (b : Beacon) :
    Keeps s (screenBeacon a q b t) := by
  have hout : ∀ p : Bool, Keeps s (if p then { t with ft.syncErrors := min 255 (t.ft.syncErrors + 1) }
      else takeReseed a b t) := fun p => .ite (h.moved {}) (h.takeReseed a b)
  unfold Machine.screenBeacon
  dsimp only
  split
  · exact h.moved {}
  split
  · exact .ite h (.ite (h.takeInWindow a q b _) (hout _))
  · exact hout _

protected theorem Keeps.handBeacon (h : Keeps s t) {l : Link} (he : t.ft.lock = .search → (linkOf t l).enabled = true)
    (a : Tick) (q : Nat) (b : Beacon) : Keeps s (handBeacon l a q b t) := by
  unfold Machine.handBeacon
  split
  · split
    · next hs => exact h.takeInSearch (he hs) a q b
    · exact h.screenBeacon a q b
  · exact h

/-- A link is enabled: STANDBY beside an enabled link, else PRIMARY, where it was OFF (R136). -/
protected theorem Keeps.markEnabled (h : Keeps s t) (l : Link) : Keeps s (markEnabled l t) := by
  have hm : Keeps s (mapLink l (fun k => { k.cleared with enabled := true, role := enabledRole t l }) t) := by
    refine h.trans ((Moved.rfl.toWithin.mapLink l _).keeps fun ho => ?_)
    rw [rolesOk_iff] at ho ⊢
    obtain ⟨ha, hb, hn, h1⟩ := ho
    cases l with
    | a => cases hx : t.xu.linkA.role <;> cases hy : t.xu.linkB.enabled <;>
        simp_all [linkOf, mapLink, putLink, otherLink, enabledRole]
    | b => cases hx : t.xu.linkB.role <;> cases hy : t.xu.linkA.enabled <;>
        simp_all [linkOf, mapLink, putLink, otherLink, enabledRole]
  unfold Machine.markEnabled
  exact .ite (hm.moved Moved.rfl.requestStatus) hm

@[simp] theorem LinkState.disabled_role (k : LinkState) : k.disabled.role = .off := rfl

@[simp] theorem LinkState.disabled_enabled (k : LinkState) : k.disabled.enabled = false := rfl

/-- The burst of a link that goes is settled, and the roles stand as the disable left them (R135). -/
theorem Moved.disabled (l : Link) (t : State) :
    Moved (mapLink l LinkState.disabled t) (settleBurst (requestStatus (mapLink l LinkState.disabled t))) :=
  Moved.rfl.requestStatus.settleBurst

protected theorem Keeps.disableLink (h : Keeps s t) (l : Link) : Keeps s (disableLink l t) := by
  have hw : Within t (settleBurst (requestStatus (mapLink l LinkState.disabled t))) :=
    (Moved.rfl.toWithin.mapLink l _).trans (Moved.disabled l t).toWithin
  have hr := (Moved.disabled l t).roles
  unfold Machine.disableLink
  dsimp only
  split
  · next hp =>
    refine Keeps.moved (h.trans ((hw.mapLink _ _).keeps fun ho => ?_)) (Moved.rfl.enterSearch.raiseRequest _)
    rw [rolesOk_iff] at ho ⊢
    obtain ⟨ha, hb, hn, h1⟩ := ho
    simp only [decide_eq_true_eq] at hp
    generalize settleBurst (requestStatus (mapLink l LinkState.disabled t)) = u at hr ⊢
    cases l with
    | a =>
      simp only [Machine.roles, Prod.mk.injEq] at hr
      cases hx : t.xu.linkB.enabled <;> simp_all [linkOf, mapLink, putLink, otherLink]
    | b =>
      simp only [Machine.roles, Prod.mk.injEq] at hr
      cases hx : t.xu.linkA.enabled <;> simp_all [linkOf, mapLink, putLink, otherLink]
  · next hp =>
    refine Keeps.moved (h.trans (hw.keeps fun ho => ?_)) Moved.rfl.endDwell
    rw [rolesOk_iff] at ho ⊢
    obtain ⟨ha, hb, hn, h1⟩ := ho
    simp only [decide_eq_true_eq] at hp
    generalize settleBurst (requestStatus (mapLink l LinkState.disabled t)) = u at hr ⊢
    cases l with
    | a =>
      simp only [Machine.roles, Prod.mk.injEq] at hr
      cases hx : t.xu.linkB.enabled <;> simp_all [linkOf, mapLink, putLink]
    | b =>
      simp only [Machine.roles, Prod.mk.injEq] at hr
      cases hx : t.xu.linkA.enabled <;> simp_all [linkOf, mapLink, putLink]

protected theorem Keeps.setLinkEnable (h : Keeps s t) (args : List Word) : Keeps s (setLinkEnable args t) := by
  have hreply : ∀ {u : State} l, Keeps s u → Keeps s (replyCondition l u) := fun l hu =>
    hu.moved (Moved.rfl.replyCommand _ _)
  unfold Machine.setLinkEnable
  split
  · exact h.moved (Moved.rfl.replyCommand _ _)
  · next l _ =>
    have hmove : Keeps s (enableMove l (markEnabled l t)) := (h.markEnabled l).moved (Moved.rfl.enableMove l)
    refine .ite (.ite (hreply l h) (hreply l (h.disableLink l))) (.ite ?_ (h.moved (Moved.rfl.replyCommand _ _)))
    dsimp only
    split
    · exact hmove.moved {}
    · exact hreply l hmove

end Sys2Proof.Machine
end

section
/-! SUPPORT. Every step keeps every invariant, continued: messages and reports, the Command Unit, the engine's choice, the
clock, the bus and the rows, up to `keeps_step`. -/

-- One proof is checked after another: each worker thread of Lean reserves memory of its own.
set_option Elab.async false

namespace Sys2Proof.Machine

variable {s t : State}

/-! ### Messages and reports -/

protected theorem Keeps.provision (h : Keeps s t) (code : Byte) (args : List Word) :
    Keeps s (provision code args t).1 := by
  have hargs : ∀ n (op : State → State × ResultCode), Keeps s (op t).1 → Keeps s (withArgs n args op t).1 :=
    fun n op ho => by
      unfold withArgs
      split
      exacts [h, ho]
  unfold Machine.provision
  repeat' split
  · exact hargs _ _ (h.loadWindow _ _)
  · exact hargs _ _ (h.clearWindow _ _)
  · exact hargs _ _ (h.moved (Moved.rfl.loadCompare _ _))
  · exact hargs _ _ (h.moved (Moved.rfl.clearCompare _ _))
  · exact hargs _ _ (h.moved (Moved.rfl.loadGroup _ _))
  · exact hargs _ _ (h.moved (Moved.rfl.setTiming _))
  · exact hargs _ _ (h.moved (Moved.rfl.setMargin _))
  · exact h

protected theorem Keeps.routeProvision (h : Keeps s t) (q : Byte) (p : List Byte) : Keeps s (routeProvision q p t) := by
  unfold Machine.routeProvision
  split
  · exact h.moved (Moved.rfl.offerProvisionReply _ _)
  · exact .ite (h.moved (Moved.rfl.forceProvision q)) ((h.provision _ _).moved (Moved.rfl.offerProvisionReply _ _))

/-- After a network reset the credit is the allowance (R116, R153). -/
theorem Moved.creditRestart (t : State) : Moved t { t with ab.credit := t.ab.allowance, ab.restart := true } :=
  { credit := fun _ => by unfold Airtime.Ok; dsimp only; omega }

protected theorem Keeps.networkReset (h : Keeps s t) : Keeps s (networkReset t) := by
  have hg : ∀ u : State, Moved u (clearGrants u) := fun u =>
    { grants := fun _ => Nat.zero_le _, contention := fun _ => Nat.zero_le _ }
  have hc := ((Moved.rfl (s := clearEntriesOf .radioLoad t)).clearRulesWhere (fun r => r.origin = .radioLoad)).clearGroupsOf
    .radioLoad
  exact (((h.clearEntriesOf .radioLoad).moved hc.emptyQueue).moved (hg _)).moved (Moved.creditRestart _)

protected theorem Keeps.routeMessage (h : Keeps s t) (r : Recent) (frame : BitVec 6) (p : List Byte) :
    Keeps s (routeMessage r frame p t) := by
  unfold Machine.routeMessage
  split
  · exact h.moved (Moved.rfl.recordStop _ _ _ _ _ _)
  · exact h.moved (Moved.rfl.recordStop _ _ _ _ _ _)
  · exact h.moved (Moved.rfl.stageMessage _)
  · exact h.moved (Moved.rfl.stageMessage _)
  · exact h.moved (Moved.rfl.routeMirror _)
  · exact h.routeProvision _ _
  · exact h.networkReset

protected theorem Keeps.examineMessage (h : Keeps s t) (zone : Byte) (frame : BitVec 6) (m : CarMessage) :
    Keeps s (examineMessage zone frame t m) := by
  unfold Machine.examineMessage
  split
  · exact h.moved {}
  · have ht : Keeps s (if 56 < m.payload.length then { t with dlf.truncations := bump t.dlf.truncations } else t) :=
      .ite (h.moved {}) h
    refine .ite ?_ ht
    unfold takeAccepted
    exact .ite (ht.moved (Moved.rfl.dropDuplicate _))
      ((ht.moved { recent := length_addRecent }).routeMessage _ _ _)

protected theorem Keeps.takeDownlink (h : Keeps s t) (zone : Byte) (ms : List CarMessage) :
    Keeps s (takeDownlink zone ms t) := by
  unfold Machine.takeDownlink
  exact .ite h (.ite (h.moved {}) (h.foldl (fun u m => Keeps.rfl.examineMessage _ _ m) _))

protected theorem Keeps.filterReport (h : Keeps s t) {l : Link}
    (he : t.ft.lock = .search → (linkOf t l).enabled = true) (a : Option Tick) (status : Byte) (burst : List Byte) :
    Keeps s (filterReport l a status burst t) := by
  unfold Machine.filterReport
  split
  · exact h.moved {}
  split
  · exact h
  · exact h.moved {}
  · split
    exacts [h.handBeacon he _ _ _, h]
  · exact h.takeDownlink _ _

protected theorem Keeps.routeReport (h : Keeps s t) (l : Link) (a : Option Tick) (status : Byte) (burst : List Byte) :
    Keeps s (routeReport l a status burst t) := by
  unfold Machine.routeReport
  dsimp only
  split
  · split
    · next hc =>
      simp only [scanning, Bool.and_eq_true] at hc
      exact h.filterReport (fun _ => hc.1.1.1.2) _ _ _
    · exact h
  · next hs =>
    split
    · exact .ite (h.filterReport (fun hl => absurd hl hs) _ _ _) h
    · exact .ite (h.moved (Moved.rfl.watchReport _ _ _)) h
    · exact h

protected theorem Keeps.takeReceived (h : Keeps s t) (l : Link) (status : Byte) (burst : List Byte) :
    Keeps s (takeReceived l status burst t) := by
  unfold Machine.takeReceived
  exact .ite (((h.moved Moved.rfl.mapLink).routeReport l _ _ _).moved
    ((Moved.rfl.releaseClose l).releaseWatch l)) h

protected theorem Keeps.takePortMessage (h : Keeps s t) (l : Link) (m : List Byte) : Keeps s (takePortMessage l m t) := by
  unfold Machine.takePortMessage
  split
  · exact h
  · exact h.moved (Moved.rfl.takeTuned l)
  · exact .ite (h.moved (Moved.rfl.completeBurst l)) h
  · exact h.takeReceived _ _ _
  · exact h.moved (Moved.rfl.takeFault l)
  · exact h.moved (Moved.rfl.takeFault l)

/-! ### The Command Unit -/

protected theorem Keeps.replyWith {r : State × ResultCode} (h : Keeps s r.1) : Keeps s (replyWith r) :=
  h.moved (Moved.rfl.replyCommand _ _)

protected theorem Keeps.runCommand (h : Keeps s t) (code : Byte) (args : List Word) : Keeps s (runCommand code args t) := by
  have hr : ∀ {u : State} r d, Moved t u → Keeps s (replyCommand r d u) := fun _ _ hu => h.moved (hu.replyCommand _ _)
  unfold Machine.runCommand
  exact .ite (hr _ _ .rfl) <| .ite (h.loadWindow _ _).replyWith <| .ite (h.clearWindow _ _).replyWith <|
    .ite (h.moved (Moved.rfl.queryWindow _)) <| .ite (hr _ _ (Moved.rfl.loadCompare _ _)) <|
    .ite (hr _ _ (Moved.rfl.clearCompare _ _)) <| .ite (hr _ _ (Moved.rfl.loadGroup _ _)) <|
    .ite (hr _ _ (Moved.rfl.clearGroup _)) <| .ite (h.moved (Moved.rfl.setRing _)) <|
    .ite (hr _ _ (Moved.rfl.setTiming _)) <| .ite (hr _ _ (Moved.rfl.setMargin _)) <| .ite (h.setLinkEnable _) <|
    .ite (h.moved Moved.rfl.forceCommand) <| .ite (hr _ _ (Moved.rfl.snapshotNow _)) <|
    .ite (hr _ _ Moved.rfl.zeroCounters) <| .ite (hr _ _ Moved.rfl.restartLinks) <| hr _ _ .rfl

protected theorem Keeps.takeCommand (h : Keeps s t) (w : Word) : Keeps s (takeCommand w t) := by
  unfold Machine.takeCommand
  split
  · exact h
  split
  · exact (h.moved {}).runCommand _ _
  · exact h.moved Moved.rfl.overrunCommand
  · exact h.moved Moved.rfl.overrunCommand

/-! ### The engine's choice -/

/-- No job runs, and a job of kind `k` would outrank the one on top of the stack. -/
structure CanStart (k : JobKind) (m : Engine) : Prop where
  idle : m.running = none
  outranks : ∀ j ∈ m.stack.head?, kindRank k < kindRank j.work.kind

/-- A job that starts where none runs outranks every suspended one, since it outranks the top (R158). -/
protected theorem Keeps.runJob (h : Keeps s t) {w : Work} (hw : CanStart w.kind t.mae) : Keeps s (runJob w t) := by
  refine h.trans ⟨id, fun ht => ⟨ht.windows, ht.rules, ht.groups, ht.copy⟩, fun _ hl => ⟨hl.records, hl.grants,
    hl.contention, hl.neighbours, hl.recent, hl.stack, hl.mirrorList, hl.staging, hl.prime, hl.primeOnce,
    hl.primeOfCapture, hl.primeInReset⟩, fun hs => ?_, id, fun hr => ⟨hr.offA, hr.offB, hr.notBoth, hr.one⟩, id⟩
  have hstack : (t.mae.stack.map fun j => kindRank j.work.kind).Pairwise (· < ·) := by
    simpa [StackOk, hw.idle] using hs
  have hnew : ∀ j ∈ t.mae.stack, kindRank w.kind < kindRank j.work.kind := by
    cases hj : t.mae.stack with
    | nil => nofun
    | cons j rest =>
      rw [hj, List.map_cons, List.pairwise_cons] at hstack
      have htop := hw.outranks j (by simp [hj])
      intro x hx
      rcases List.mem_cons.mp hx with rfl | hx
      · exact htop
      · exact htop.trans (hstack.1 _ (List.mem_map_of_mem hx))
  simpa [StackOk, runJob, hstack] using hnew

/-- The running job goes on a stack that has room (R158). -/
theorem Keeps.suspend (h : Keeps s t) {j : Job} (hj : t.mae.running = some j)
    (hl : t.mae.stack.length < Config.stackMax) :
    Keeps s { t with mae.stack := j :: t.mae.stack, mae.running := none } := by
  refine h.trans ⟨id, fun ht => ⟨ht.windows, ht.rules, ht.groups, ht.copy⟩, fun _ ho => ⟨ho.records, ho.grants,
    ho.contention, ho.neighbours, ho.recent, by simpa using hl, ho.mirrorList, ho.staging, ho.prime, ho.primeOnce,
    ho.primeOfCapture, ho.primeInReset⟩, fun hs => ?_, id, fun hr => ⟨hr.offA, hr.offB, hr.notBoth, hr.one⟩, id⟩
  simpa [StackOk, hj] using hs

theorem length_takeStaged {cls : RingClass} : ∀ {q : List Staged} {m : Staged} {r : List Staged},
    takeStaged cls q = some (m, r) → r.length + 1 = q.length
  | [], _, _, h => nomatch h
  | x :: q, m, r, h => by
    unfold takeStaged at h
    split at h
    · cases h; rfl
    · obtain ⟨⟨a, b⟩, hk, he⟩ := Option.map_eq_some_iff.mp h
      cases he
      simp [length_takeStaged hk]

protected theorem Keeps.startRing (h : Keeps s t) {cls : RingClass} (hs : CanStart (ringKind cls) t.mae) :
    Keeps s (startRing cls t) := by
  unfold Machine.startRing
  split
  · next r m rest hr hq =>
    have hm : Moved t { t with mae.staging := rest, mae.ring := some { r with v := (r.v + 1) % r.slots } } := by
      refine { engine := { staging := fun hl => ?_, ring := fun hok q hq => ?_ } }
      · have := length_takeStaged hq
        dsimp only
        omega
      · cases hq
        obtain ⟨h4, h64, hb, he, hw, hrd, -⟩ := hok r hr
        exact ⟨h4, h64, hb, he, hw, hrd, Nat.mod_lt _ (Nat.lt_of_lt_of_le (by decide) h4)⟩
    exact ((h.moved hm).runJob (w := .ring cls r.v (recordWords m)) ⟨hs.idle, hs.outranks⟩).moved Moved.rfl.dropStaleInfo
  · exact h

protected theorem Keeps.startListed (h : Keeps s t) (hs : CanStart .mirror t.mae) : Keeps s (startListed t) := by
  unfold Machine.startListed
  split
  · exact h
  · next job rest hl =>
    have hrest : rest.length ≤ t.mae.mirrorList.length := hl ▸ Nat.le_succ _
    have ht : Keeps s { t with mae.mirrorList := rest } := h.moved { engine := { mirrorList := hrest.trans } }
    dsimp only
    split
    · next i o words =>
      unfold startMirror
      dsimp only
      have hc : ∀ u : State, Keeps u { u with mae.mirrorClamps := bump u.mae.mirrorClamps } := fun u => Moved.keeps {}
      refine .ite ((Keeps.ite (ht.trans (hc _)) ht).moved Moved.rfl.endRunning) ?_
      refine (Keeps.ite (ht.trans (hc _)) ht).runJob ?_
      split <;> exact ⟨hs.idle, hs.outranks⟩
    · exact ht.runJob ⟨hs.idle, hs.outranks⟩

protected theorem Keeps.startPrime (h : Keeps s t) (hs : CanStart .prime t.mae) : Keeps s (startPrime t) := by
  unfold Machine.startPrime
  split
  · exact h
  · next i rest hl =>
    have ht : Keeps s { t with mae.primeList := rest } :=
      h.moved { engine := { prime := hl ▸ List.sublist_cons_self i rest } }
    exact (ht.runJob (w := .prime i) ⟨hs.idle, hs.outranks⟩).moved (Moved.rfl.settlePrime i)

protected theorem Keeps.startJob (h : Keeps s t) {k : JobKind} (hs : CanStart k t.mae) : Keeps s (startJob k t) := by
  unfold Machine.startJob
  split
  · exact (h.moved {}).runJob ⟨hs.idle, hs.outranks⟩
  · exact (h.moved {}).runJob ⟨hs.idle, hs.outranks⟩
  · split
    · exact (h.moved {}).runJob ⟨hs.idle, hs.outranks⟩
    · exact h
  · exact h.startRing hs
  · exact h.startListed hs
  · exact h.startRing hs
  · exact Keeps.runJob (w := .status false) (h.moved {}) ⟨hs.idle, hs.outranks⟩
  · exact h.startPrime hs

protected theorem Keeps.chooseNext (h : Keeps s t) (hr : t.mae.running = none) : Keeps s (chooseNext t) := by
  unfold Machine.chooseNext
  split
  · next he =>
    split
    · exact h.startJob ⟨hr, by simp [he]⟩
    · exact h
  · next j rest he =>
    have hres : Keeps s (resumeJob j rest t) := h.moved (Moved.rfl.resumeJob hr he)
    split
    · split
      · next hk => exact h.startJob ⟨hr, by simpa [he] using hk⟩
      · exact hres
    · exact hres

protected theorem Keeps.preempt (h : Keeps s t) {j : Job} (hj : t.mae.running = some j) : Keeps s (preempt j t) := by
  unfold Machine.preempt
  split
  · next k hk =>
    obtain ⟨-, hlt, hroom⟩ := of_preempting hk
    exact (h.suspend hj hroom).startJob ⟨rfl, by simpa using hlt⟩
  · exact h

protected theorem Keeps.chooseJob (h : Keeps s t) : Keeps s (chooseJob t) := by
  unfold Machine.chooseJob
  split
  · split
    · next hr => exact h.chooseNext hr
    · next j hj => exact h.preempt hj
  · exact h

protected theorem Keeps.chooseJobs : ∀ (n : Nat) {t : State}, Keeps s t → Keeps s (chooseJobs n t)
  | 0, _, h => h
  | n + 1, _, h => by
    unfold Machine.chooseJobs
    exact .ite (Keeps.chooseJobs n h.chooseJob) h.chooseJob

protected theorem Keeps.settleEngine (h : Keeps s t) : Keeps s (settleEngine t) := h.chooseJobs 32

protected theorem Keeps.settle (h : Keeps s t) : Keeps s (settle t) := (h.moved Moved.rfl.endRingWait).settleEngine

/-! ### The clock -/

protected theorem Keeps.occur (h : Keeps s t) (e : Event) : Keeps s (occur e t) := by
  unfold Machine.occur
  split
  · exact h.runFrameStart
  · exact h.moved (Moved.rfl.slotStartAt _)
  · exact h.moved Moved.rfl.expireBurst
  · exact h.moved Moved.rfl.keyBurst
  · exact h.moved Moved.rfl.openWindow
  · exact h.moved Moved.rfl.fallClose
  · exact h.moved Moved.rfl.closeTimeout
  · exact h.moved Moved.rfl.fallWatch
  · exact h.moved Moved.rfl.watchTimeout
  · exact h.moved (Moved.rfl.expireTune _)
  · exact h.moved (Moved.rfl.expireScan _)

protected theorem Keeps.openGap (h : Keeps s t) : Keeps s (openGap t) := by
  unfold Machine.openGap beginWord
  exact .ite (h.settle.moved {}) h.settle

protected theorem Keeps.runFor : ∀ (n : Nat) (r : Int) {t : State}, Keeps s t → Keeps s (runFor n r t)
  | 0, r, _, h => h.moved (Moved.rfl.countTicks _)
  | n + 1, r, t, h => by
    have hg : Keeps s (if 0 < r then openGap t else t) := .ite h.openGap h
    unfold Machine.runFor
    dsimp only
    split
    · exact .ite (Keeps.runFor n _ ((hg.moved (Moved.rfl.countTicks _)).occur _)) (hg.moved (Moved.rfl.countTicks _))
    · exact hg.moved (Moved.rfl.countTicks _)

protected theorem Keeps.elapse (h : Keeps s t) (dt : Tick) : Keeps s (elapse dt t) := by
  unfold Machine.elapse
  exact .ite (h.runFor _ _) h

protected theorem Keeps.takeEvent (h : Keeps s t) (e : Event) : Keeps s (takeEvent e t) := by
  have hr : Keeps s (reachEvent e t) := by
    unfold reachEvent
    split
    exacts [h.runFor _ _, h]
  unfold Machine.takeEvent
  exact .ite (hr.occur e) hr

/-! ### The bus -/

protected theorem Keeps.handControl (h : Keeps s t) (k : Nat) (v : Word) : Keeps s (handControl k v t) := by
  unfold Machine.handControl
  repeat' split
  · exact h.takeCommand v
  · exact h.moved (Moved.rfl.setAttention _ _ _)
  · exact h.moved (Moved.rfl.setAttention _ _ _)
  · exact h.moved (Moved.rfl.clearRequests _)
  · exact h.moved {}
  · exact h.moved (Moved.rfl.takeReadIndex _)
  · exact h

protected theorem Moved.mergeCopy (h : Moved s t) (k : Nat) (v : Word) (lanes : Lanes) :
    Moved s (mergeCopy k v lanes t).2 := by
  unfold Machine.mergeCopy
  split
  · exact h.trans { copy := List.length_set }
  · exact h

protected theorem Moved.suppressWrite (h : Moved s t) : Moved s (suppressWrite t) := by
  unfold Machine.suppressWrite
  exact Moved.raiseCause (h.trans {}) _

protected theorem Moved.writeRam (h : Moved s t) (a : Nat) (v : Word) (lanes : Lanes) :
    Moved s (writeRam a v lanes t) := h.trans {}

protected theorem Keeps.performClass (h : Keeps s t) (c : WriteClass) (a : Nat) (v : Word) (lanes : Lanes) :
    Keeps s (performClass c a v lanes t) := by
  have hw : Keeps s (writeRam a v lanes t) := h.moved (Moved.rfl.writeRam _ _ _)
  unfold Machine.performClass
  split
  · exact h.moved Moved.rfl.suppressWrite
  · exact h.moved Moved.rfl.suppressWrite
  · exact hw
  · exact hw
  · exact .ite hw ((hw.moved (Moved.rfl.mergeCopy _ _ _)).handControl _ _)
  · exact .ite hw (hw.moved (Moved.rfl.captureHandOver _ _ _ _))

protected theorem Keeps.performCycle (h : Keeps s t) (c : Cycle) : Keeps s (performCycle c t) := by
  have hread : ∀ a, Keeps s (performRead a t) := fun a => by
    have hp : ∀ v, Keeps s { t with bpu.pd := v } := fun v => h.moved {}
    have hf : ∀ u : State, Moved u { u with ft.syncErrors := 0 } := fun u => {}
    unfold performRead watchedRead
    exact .ite (.ite ((hp _).moved (Moved.rfl.acceptRead _)) (.ite ((hp _).moved (hf _)) (hp _))) (hp _)
  unfold Machine.performCycle
  refine .ite h (.ite (hread _) (.ite ?_ h))
  unfold performWrite
  exact .ite h (.ite (h.performClass _ _ _ _) (h.moved (Moved.rfl.writeRam _ _ _)))

protected theorem Keeps.releaseHold (h : Keeps s t) : Keeps s (releaseHold t) := by
  unfold Machine.releaseHold
  split
  · exact (h.moved {}).performCycle _
  · exact h

protected theorem Keeps.completeBus (h : Keeps s t) (b : BusWord) : Keeps s (completeBus b t) :=
  (h.moved (Moved.rfl.completeWord b)).settle.releaseHold

protected theorem Keeps.finishBus (h : Keeps s t) : Keeps s (finishBus t) := by
  unfold Machine.finishBus
  split
  exacts [h.completeBus _, h.releaseHold]

protected theorem Keeps.beginCycle (h : Keeps s t) (c : Cycle) : Keeps s (beginCycle c t) := by
  have hh : ∀ b, Keeps s (holdFor b c t) := fun b => h.moved {}
  unfold Machine.beginCycle
  split
  · exact .ite (hh _) (h.performCycle c)
  split
  · exact h.performCycle c
  · exact .ite (hh _) ((h.moved {}).performCycle c)

protected theorem Keeps.processorCycle (h : Keeps s t) (c : Cycle) : Keeps s (processorCycle c t) := by
  unfold Machine.processorCycle
  exact .ite (h.finishBus.beginCycle c) (h.beginCycle c)

protected theorem Keeps.completeWrite (h : Keeps s t) : Keeps s (completeWrite t) := by
  unfold Machine.completeWrite
  split
  exacts [.ite (h.completeBus _) h, h]

protected theorem Keeps.completeRead (h : Keeps s t) : Keeps s (completeRead t) := by
  unfold Machine.completeRead
  split
  exacts [.ite (h.completeBus _) h, h]

protected theorem Keeps.idleTick (h : Keeps s t) : Keeps s (idleTick t) := by
  unfold Machine.idleTick
  dsimp only
  split
  exacts [(h.elapse _).completeBus _, h.elapse _]

/-! ### The resets -/

/-- An entry as the release of VRST leaves it (R36). -/
def Entry.reloaded (e : Entry) : Entry :=
  { e with body := match e.body with
      | .capture c => .capture (reload c)
      | .mirror m => .mirror m }

@[simp] theorem Entry.reloaded_isCapture (e : Entry) : e.reloaded.body.isCapture = e.body.isCapture := by
  unfold Entry.reloaded
  cases e.body <;> rfl

/-- A table of windows whose entries below `n` are reloaded. -/
def ReloadedBelow (n : Nat) (old new : List (Option Entry)) : Prop :=
  new.length = old.length ∧
    ∀ i, new.getD i none = if i < n then (old.getD i none).map Entry.reloaded else old.getD i none

/-- Where index `n` holds nothing to reload, the reloaded part reaches one index further as it stands. -/
theorem ReloadedBelow.skip {n : Nat} {old new : List (Option Entry)} (h : ReloadedBelow n old new)
    (hn : (old.getD n none).map Entry.reloaded = old.getD n none) : ReloadedBelow (n + 1) old new := by
  refine ⟨h.1, fun i => ?_⟩
  rw [h.2 i]
  rcases Nat.lt_trichotomy i n with hi | rfl | hi
  · rw [if_pos hi, if_pos (Nat.lt_succ_of_lt hi)]
  · rw [if_neg (lt_irrefl i), if_pos (Nat.lt_succ_self i), hn]
  · rw [if_neg (by omega), if_neg (by omega)]

/-- The entry at index `n` reloaded. -/
theorem ReloadedBelow.set {n : Nat} {old new : List (Option Entry)} (h : ReloadedBelow n old new) {e : Entry}
    (he : old.getD n none = some e) : ReloadedBelow (n + 1) old (new.set n (some e.reloaded)) := by
  have hn : n < new.length := h.1 ▸ lt_length_of_entryAt (t := { State.reset with wt := old }) he
  refine ⟨by simpa using h.1, fun i => ?_⟩
  by_cases hi : i = n
  · subst hi
    rw [if_pos (Nat.lt_succ_self i), he]
    simp [hn]
  · rw [show (new.set n (some e.reloaded)).getD i none = new.getD i none by
      simp [List.getD_eq_getElem?_getD, List.getElem?_set_ne (Ne.symm hi)], h.2 i]
    have : i < n + 1 ↔ i < n := by omega
    simp only [this]

/-- The release of VRST, index by index: the CAPTURE entries below `n` are LOADING with their marks clear, and their
PRIME jobs are listed in ascending index (R36). -/
theorem vehicleRelease_upTo (s : State) (n : Nat) : ∃ wt, ReloadedBelow n s.wt wt ∧
    (List.range n).foldl
      (fun s i => if (captureAt s i).isSome then appendPrime i (mapCapture i reload s) else s) s =
      { s with
        wt := wt
        mae.primeList := s.mae.primeList ++ (List.range n).filter fun i => (captureAt s i).isSome } := by
  induction n with
  | zero => exact ⟨s.wt, ⟨rfl, by simp⟩, by simp⟩
  | succ n ih =>
    obtain ⟨wt, hwt, hfold⟩ := ih
    rw [List.range_succ, List.foldl_append, hfold, List.filter_append]
    have hn : wt.getD n none = entryAt s n := by rw [hwt.2 n, if_neg (lt_irrefl n)]; rfl
    generalize hu : ({ s with wt := wt, mae.primeList := _ } : State) = u
    have hun : entryAt u n = entryAt s n := by rw [← hu]; exact hn
    have huc : captureAt u n = captureAt s n := by simp only [captureAt, hun]
    simp only [List.foldl_cons, List.foldl_nil, huc]
    cases he : entryAt s n with
    | none => exact ⟨wt, hwt.skip (by rw [show s.wt.getD n none = none from he]; rfl), by simp [captureAt, he, ← hu]⟩
    | some e =>
      have hold : s.wt.getD n none = some e := he
      cases hb : e.body with
      | mirror m =>
        refine ⟨wt, hwt.skip ?_, by simp [captureAt, he, hb, ← hu]⟩
        cases e
        cases hb
        rw [hold]
        rfl
      | capture c =>
        refine ⟨wt.set n (some e.reloaded), hwt.set hold, ?_⟩
        have hm : mapCapture n reload u = { u with wt := u.wt.set n (some e.reloaded) } := by
          unfold mapCapture
          rw [hun, he]
          simp only [hb, putEntry, Entry.reloaded]
        have hc : (captureAt s n).isSome = true := by rw [captureAt_of_entry he, hb]; rfl
        have hf : ([n].filter fun i => (captureAt s i).isSome) = [n] := List.filter_cons_of_pos hc
        rw [hm, if_pos hc, hf, ← List.append_assoc, ← hu]
        rfl

end Sys2Proof.Machine
end

section
/-! SUPPORT. Every step keeps every invariant, completed: what a row can do (`Effect`), the resets, and `Effect.keeps`. -/

-- One proof is checked after another: each worker thread of Lean reserves memory of its own.
set_option Elab.async false

namespace Sys2Proof.Machine

variable {s t : State}

/-! ### What a row can do -/

/-- The next states of the rows. -/
inductive Effect (s : State) : State → Prop
  | cycle (dt : Tick) (c : Cycle) : Effect s (processorCycle c (elapse dt s))
  | event (e : Event) : Effect s (takeEvent e s)
  | writeDone : Effect s (completeWrite (elapse 0#32 s))
  | readDone : Effect s (completeRead (elapse 0#32 s))
  | jobStart : Effect s (settleEngine (elapse 0#32 s))
  | waitEnd : Effect s (endRingWait (elapse 0#32 s))
  | rise (dt : Tick) (l : Link) : Effect s (raiseBst l (elapse dt s))
  | message (dt : Tick) (l : Link) (m : List Byte) : Effect s (takePortMessage l m (elapse dt s))
  | received (dt : Tick) (l : Link) (status : Byte) (burst : List Byte) : Effect s (takeReceived l status burst (elapse dt s))
  | startUp (carid : BitVec 10) (cpsel : BitVec 3) (h : s.porn = false) :
      Effect s (startUpMoves (sampleStraps carid cpsel s))
  | powerDown (h : s.porn = true) : Effect s (powerDown s)
  | asserted (dt : Tick) (hp : s.porn = true) : Effect s (vehicleAssert (elapse dt s))
  | released (dt : Tick) (hp : s.porn = true) (hv : s.vrst = true) : Effect s (vehicleRelease (elapse dt s))
  | level (b : Bool) (h : s.porn = false) : Effect s { s with vrst := b }
  | passing (dt : Tick) : Effect s (elapse dt s)
  | nothing : Effect s s

/-- Every row is one of these. -/
theorem exec_effect (i : Instr) (s : State) : ∃ t, exec i s = .next t ∧ Effect s t := by
  cases i
  case startUp carid cpsel =>
    cases hp : s.porn
    · exact ⟨_, by simp [exec, execStartUp, hp], .startUp carid cpsel hp⟩
    · exact ⟨s, by simp [exec, execStartUp, hp], .nothing⟩
  case powerOnReset =>
    cases hp : s.porn
    · exact ⟨s, by simp [exec, execPowerOnReset, hp], .nothing⟩
    · exact ⟨_, by simp [exec, execPowerOnReset, hp], .powerDown hp⟩
  case vrstAsserted dt =>
    cases hp : s.porn <;> cases hv : s.vrst
    · exact ⟨_, by simp [exec, execVrstAsserted, hp, hv, elapse_down dt hp], .level true hp⟩
    · exact ⟨_, by simp [exec, execVrstAsserted, hv], .passing dt⟩
    · exact ⟨_, by simp [exec, execVrstAsserted, hp, hv], .asserted dt hp⟩
    · exact ⟨_, by simp [exec, execVrstAsserted, hv], .passing dt⟩
  case vrstReleased dt =>
    cases hp : s.porn <;> cases hv : s.vrst
    · exact ⟨_, by simp [exec, execVrstReleased, hv], .passing dt⟩
    · exact ⟨_, by simp [exec, execVrstReleased, hp, hv, elapse_down dt hp], .level false hp⟩
    · exact ⟨_, by simp [exec, execVrstReleased, hv], .passing dt⟩
    · exact ⟨_, by simp [exec, execVrstReleased, hp, hv], .released dt hp hv⟩
  case maeWordCycleComplete => exact ⟨_, rfl, .writeDone⟩
  case primeRead => exact ⟨_, rfl, .readDone⟩
  case jobStart => exact ⟨_, rfl, .jobStart⟩
  case setRingWaitEnd => exact ⟨_, rfl, .waitEnd⟩
  case bstRise dt l => exact ⟨_, rfl, .rise dt l⟩
  case tuned dt l => exact ⟨_, rfl, .message dt l _⟩
  case sent dt l => exact ⟨_, rfl, .message dt l _⟩
  case fault dt l m => exact ⟨_, rfl, .message dt l m⟩
  case received dt l status burst => exact ⟨_, rfl, .received dt l status burst⟩
  case frameStart | slotStart | keyAssertion | keyGuardExpiry | beaconWindowOpen | beaconWindowClose | closeWaitTimeout |
      tuneExpiry | scanExpiry | watchWindowClose | watchCloseWaitTimeout => exact ⟨_, rfl, .event _⟩
  all_goals exact ⟨_, rfl, .cycle _ _⟩

/-- A step with a command waiting has that row's effect on the rest, and one with none is the idle tick. -/
theorem step_effect (h : step s = .next t) :
    (s.pending = [] ∧ t = idleTick s) ∨ ∃ rest, Effect { s with pending := rest } t := by
  unfold step at h
  split at h
  · next hp => exact .inl ⟨hp, (Host.Outcome.next.inj h).symm⟩
  · next i rest _ =>
    obtain ⟨u, hu, he⟩ := exec_effect i { s with pending := rest }
    cases hu.symm.trans h
    exact .inr ⟨rest, he⟩

/-! ### The resets -/

theorem memoryOk_reset : MemoryOk State.reset := by
  unfold MemoryOk
  decide

theorem pageOk_reset : PageOk State.reset := ⟨0, by decide, rfl⟩

theorem tablesOk_reset : TablesOk State.reset := ⟨rfl, rfl, rfl, rfl⟩

theorem listsOk_reset : ListsOk State.reset where
  records := by decide
  grants := by decide
  contention := by decide
  neighbours := by decide
  recent := by decide
  stack := by decide
  mirrorList := by decide
  staging := by decide
  prime := by decide
  primeOnce := .nil
  primeOfCapture := nofun
  primeInReset := fun _ => rfl

theorem stackOk_reset : StackOk State.reset := .nil

theorem creditOk_reset : CreditOk State.reset := by unfold CreditOk; decide

theorem rolesOk_reset : RolesOk State.reset := ⟨by decide, by decide, by decide, by decide⟩

theorem ringOk_reset : RingOk State.reset := nofun

/-- The power-on values, with any RAM, level, queue, PD and held cycle, meet every invariant. -/
theorem Keeps.powerOn (s : State) (ram : Memory) (vrst : Bool) (q : List Instr) (pd : Word) (hold : Option Cycle) :
    Keeps s { State.reset with
      ram := ram, vrst := vrst, pending := q, bpu := { BusPath.reset with pd := pd, hold := hold } } where
  page := fun _ => pageOk_reset
  tables := fun _ => ⟨rfl, rfl, rfl, rfl⟩
  lists := fun _ _ => { listsOk_reset with primeInReset := fun _ => rfl }
  stack := fun _ => stackOk_reset
  credit := fun _ => creditOk_reset
  roles := fun _ => { rolesOk_reset with }
  ring := fun _ => ringOk_reset

protected theorem Keeps.powerDown (s : State) : Keeps s (powerDown s) :=
  (Keeps.powerOn s _ _ _ _ _).releaseHold

/-- The straps give a base of R2's list. -/
theorem Keeps.straps (s : State) (carid : BitVec 10) (cpsel : BitVec 3) : Keeps s (sampleStraps carid cpsel s) where
  page := fun _ => ⟨cpsel.toNat, Nat.le_of_lt_succ cpsel.isLt, rfl⟩
  tables := fun h => { h with }
  lists := fun _ h => { h with }
  stack := id
  credit := id
  roles := fun h => { h with }
  ring := id

protected theorem Keeps.startUp (s : State) (carid : BitVec 10) (cpsel : BitVec 3) :
    Keeps s (startUpMoves (sampleStraps carid cpsel s)) := by
  unfold startUpMoves
  exact .ite ((Keeps.straps s carid cpsel).moved Moved.rfl.requestAttention.requestStatus)
    ((Keeps.straps s carid cpsel).moved (Moved.requestStatus (Moved.requestAttention (Moved.createJoin
      Moved.rfl.enterSearch))))

/-- The engine of an assertion of VRST holds no job and no ring (R168). -/
theorem Keeps.assertEngine (s : State) : Keeps s (vehicleAssertEngine { s with vrst := true }) where
  page := id
  tables := fun h => { h with }
  lists := fun _ h => { h with
    stack := Nat.zero_le _, mirrorList := Nat.zero_le _, staging := Nat.zero_le _, prime := Nat.zero_le _
    primeOnce := .nil, primeOfCapture := nofun, primeInReset := fun _ => rfl }
  stack := fun _ => .nil
  credit := id
  roles := fun h => { h with }
  ring := fun _ => nofun

protected theorem Keeps.clearCopy (s : State) : Keeps s (clearCopy s) where
  page := id
  tables := fun h => { h with copy := rfl }
  lists := fun _ h => { h with }
  stack := id
  credit := id
  roles := fun h => { h with }
  ring := id

protected theorem Keeps.vehicleAssert (s : State) : Keeps s (vehicleAssert s) := by
  have hw : Keeps s (vehicleAssertWindows (vehicleAssertEngine { s with vrst := true })) :=
    ((Keeps.assertEngine s).clearEntriesOf _).foldl (fun u i => (Moved.rfl.mapCapture i disarm).keeps) _
  have hm : Moved (vehicleAssertWindows (vehicleAssertEngine { s with vrst := true }))
      (vehicleAssertAttention (clearGroupsOf .localLoad (clearRulesWhere (fun r => decide (r.origin = .localLoad))
        (vehicleAssertWindows (vehicleAssertEngine { s with vrst := true }))))) :=
    ((Moved.rfl.clearRulesWhere _).clearGroupsOf _).setAttention _ _ _
  have hc : ∀ u : State, Moved u (vehicleAssertCommand u) := fun u => {}
  exact ((hw.moved hm).moved (hc _)).trans (.clearCopy _)

theorem captureAt_isSome (s : State) (i : Nat) :
    (captureAt s i).isSome = (entryAt s i).any fun e => e.body.isCapture := by
  cases he : entryAt s i with
  | none => simp [captureAt, he]
  | some e =>
    rw [captureAt_of_entry he]
    cases hb : e.body <;> simp [hb, EntryBody.isCapture]

/-- The windows of a release of VRST: every CAPTURE window's PRIME job is listed, each once (R36). -/
theorem Keeps.releaseWindows (hv : s.vrst = true) : Keeps s (vehicleReleaseWindows { s with vrst := false }) := by
  obtain ⟨wt, ⟨hlen, hget⟩, heq⟩ := vehicleRelease_upTo { s with vrst := false } 16
  rw [show vehicleReleaseWindows _ = _ from heq]
  refine ⟨id, fun h => ⟨hlen.trans h.windows, h.rules, h.groups, h.copy⟩, fun _ h => ?_, id, id, fun h => { h with }, id⟩
  have hnone : s.mae.primeList = [] := h.primeInReset hv
  refine { h with
    prime := ?_, primeOnce := ?_, primeOfCapture := fun i hi => ?_, primeInReset := nofun }
  all_goals dsimp only at *
  · rw [hnone, List.nil_append]
    exact (List.length_filter_le _ _).trans_eq (List.length_range ..)
  · rw [hnone, List.nil_append]
    exact List.nodup_range.filter _
  · rw [hnone, List.nil_append, List.mem_filter, List.mem_range, captureAt_isSome] at hi
    rw [captureAt_isSome, entryAt, hget i, if_pos hi.1]
    have hc : (s.wt.getD i none).any (fun e => e.body.isCapture) = true := hi.2
    simpa only [Option.any_map, Function.comp_def, Entry.reloaded_isCapture] using hc

protected theorem Keeps.vehicleRelease (hv : s.vrst = true) : Keeps s (vehicleRelease s) :=
  ((Keeps.releaseWindows hv).moved Moved.rfl.requestStatus.vehicleReleaseAttention).settleEngine

/-! ### Every row -/

theorem Effect.keeps (h : Effect s t) : Keeps s t ∨ s.porn = false ∧ ∃ b, t = { s with vrst := b } := by
  have hs : Keeps s s := .rfl
  cases h
  case level b h => exact .inr ⟨h, b, rfl⟩
  all_goals left
  case cycle dt c => exact (hs.elapse dt).processorCycle c
  case event e => exact hs.takeEvent e
  case writeDone => exact (hs.elapse _).completeWrite
  case readDone => exact (hs.elapse _).completeRead
  case jobStart => exact (hs.elapse _).settleEngine
  case waitEnd => exact (hs.elapse _).moved Moved.rfl.endRingWait
  case rise dt l => exact (hs.elapse dt).moved (Moved.rfl.raiseBst l)
  case message dt l m => exact (hs.elapse dt).takePortMessage l m
  case received dt l status burst => exact (hs.elapse dt).takeReceived l status burst
  case startUp carid cpsel h => exact .startUp s carid cpsel
  case powerDown h => exact .powerDown s
  case asserted dt hp => exact (hs.elapse dt).trans (.vehicleAssert _)
  case released dt hp hv => exact (hs.elapse dt).trans (.vehicleRelease ((elapse_vrst dt s).trans hv))
  case passing dt => exact hs.elapse dt
  case nothing => exact hs

/-- A step keeps every invariant, but for an edge of VRST while PORN is low, which changes the level alone (log 22). -/
theorem step_keeps (h : step s = .next t) :
    Keeps s t ∨ s.porn = false ∧ ∃ b q, t = { s with vrst := b, pending := q } := by
  obtain ⟨-, rfl⟩ | ⟨q, he⟩ := step_effect h
  · exact .inl Keeps.rfl.idleTick
  · have hq : Moved s { s with pending := q } := {}
    obtain hk | ⟨hp, b, rfl⟩ := he.keeps
    · exact .inl (hq.keeps.trans hk)
    · exact .inr ⟨hp, b, q, rfl⟩

/-- Settles O3. -/
theorem resetMeetsInvariants : Obligations.ResetMeetsInvariants :=
  ⟨memoryOk_reset, pageOk_reset, fun _ => rfl, tablesOk_reset, listsOk_reset, stackOk_reset, creditOk_reset, rolesOk_reset,
    ringOk_reset⟩

/-- Settles O5, by `step_keeps`. -/
theorem stepKeepsTables : Obligations.StepKeepsTables := by
  intro s t hp ht h
  obtain hk | ⟨-, b, q, rfl⟩ := step_keeps h
  · exact ⟨hk.page hp, hk.tables ht⟩
  · exact ⟨hp, { ht with }⟩

/-- Settles O7, by `step_keeps`; while PORN is low the Prime List is empty. -/
theorem stepKeepsLists : Obligations.StepKeepsLists := by
  intro s t ht hpow hl h
  obtain hk | ⟨hp, b, q, rfl⟩ := step_keeps h
  · exact hk.lists ht hl
  · exact { hl with primeInReset := fun _ => by rw [show s.mae.primeList = [] by rw [hpow hp]; rfl] }

/-- Settles O8, by `step_keeps`. -/
theorem stepKeepsStackOrder : Obligations.StepKeepsStackOrder := by
  intro s t hs h
  obtain hk | ⟨-, b, q, rfl⟩ := step_keeps h
  exacts [hk.stack hs, hs]

/-- Settles O9, by `step_keeps`. -/
theorem stepKeepsCredit : Obligations.StepKeepsCredit := by
  intro s t hs h
  obtain hk | ⟨-, b, q, rfl⟩ := step_keeps h
  exacts [hk.credit hs, hs]

/-- Settles O10, by `step_keeps`. -/
theorem stepKeepsRoles : Obligations.StepKeepsRoles := by
  intro s t hs h
  obtain hk | ⟨-, b, q, rfl⟩ := step_keeps h
  exacts [hk.roles hs, { hs with }]

/-- Settles O11, by `step_keeps`. -/
theorem stepKeepsRing : Obligations.StepKeepsRing := by
  intro s t hs h
  obtain hk | ⟨-, b, q, rfl⟩ := step_keeps h
  exacts [hk.ring hs, hs]

end Sys2Proof.Machine
end

section
/-! SUPPORT. What every row leaves alone: the waiting commands and the RAM's canonical form, and the pins and straps but for
the pin rows. -/

-- One proof is checked after another: each worker thread of Lean reserves memory of its own.
set_option Elab.async false

namespace Sys2Proof.Machine

variable {s t u : State}

/-! ### The pins and the RAM -/

/-- `t` has the pins, straps, base and queue of `s`, and its RAM is canonical if that of `s` is. -/
structure Pinned (s t : State) : Prop where
  pins : pins t = pins s
  memory : MemoryOk s → MemoryOk t

theorem Pinned.refl (s : State) : Pinned s s := ⟨rfl, id⟩

theorem Pinned.trans (h : Pinned s t) (g : Pinned t u) : Pinned s u := ⟨g.pins.trans h.pins, g.memory ∘ h.memory⟩

theorem Pinned.of_face (h : face t = face s) : Pinned s t :=
  ⟨pins_of_face h, fun hm => by rwa [MemoryOk, ram_of_face h]⟩

theorem Pinned.of_gapKeeps (h : GapKeeps s t) : Pinned s t := by
  have hf := h.1
  simp only [face, Face.mk.injEq] at hf
  obtain ⟨hp, hv, hc, ho, hr, hq, hb, -⟩ := hf
  refine ⟨by simp only [Machine.pins, *], fun hm => ?_⟩
  rwa [MemoryOk, hr]

theorem pinned_elapse (dt : Tick) (s : State) : Pinned s (elapse dt s) := .of_gapKeeps (gapKeeps_elapse dt s)

theorem pinned_performCycle (c : Cycle) (s : State) : Pinned s (performCycle c s) :=
  ⟨pins_performCycle c s, memoryOk_performCycle c⟩

theorem pinned_settle (s : State) : Pinned s (settle s) := .of_face (face_settle s)

theorem pinned_releaseHold (s : State) : Pinned s (releaseHold s) := by
  unfold releaseHold
  split
  · exact (⟨rfl, id⟩ : Pinned s { s with bpu.hold := none }).trans (pinned_performCycle _ _)
  · exact .refl s

theorem pinned_completeBus (b : BusWord) (s : State) : Pinned s (completeBus b s) :=
  (⟨pins_completeWord b s, memoryOk_completeWord b⟩ : Pinned s (completeWord b s)).trans
    ((pinned_settle _).trans (pinned_releaseHold _))

theorem pinned_finishBus (s : State) : Pinned s (finishBus s) := by
  unfold finishBus
  split
  exacts [pinned_completeBus _ s, pinned_releaseHold s]

theorem pinned_beginCycle (c : Cycle) (s : State) : Pinned s (beginCycle c s) := by
  have hheld : ∀ b, Pinned s (holdFor b c s) := fun b => ⟨rfl, id⟩
  have hpassed : Pinned s { s with bpu.passOver := s.bpu.passOver + 1 } := ⟨rfl, id⟩
  unfold beginCycle
  split
  · split
    exacts [hheld _, pinned_performCycle c s]
  split
  · exact pinned_performCycle c s
  · split
    exacts [hheld _, hpassed.trans (pinned_performCycle c _)]

theorem pinned_processorCycle (c : Cycle) (s : State) : Pinned s (processorCycle c s) := by
  unfold processorCycle
  split
  exacts [(pinned_finishBus s).trans (pinned_beginCycle c _), pinned_beginCycle c s]

theorem pinned_completeWrite (s : State) : Pinned s (completeWrite s) := by
  unfold completeWrite
  repeat' split
  exacts [pinned_completeBus _ s, .refl s, .refl s]

theorem pinned_completeRead (s : State) : Pinned s (completeRead s) := by
  unfold completeRead
  repeat' split
  exacts [pinned_completeBus _ s, .refl s, .refl s]

theorem pinned_idleTick (s : State) : Pinned s (idleTick s) := by
  unfold idleTick
  dsimp only
  split
  exacts [(pinned_elapse _ s).trans (pinned_completeBus _ _), pinned_elapse _ s]

/-! ### The rows -/

/-- The rows that move a pin. -/
inductive PinMove (s : State) : State → Prop
  | startUp (carid : BitVec 10) (cpsel : BitVec 3) (h : s.porn = false) :
      PinMove s (startUpMoves (sampleStraps carid cpsel s))
  | powerDown (h : s.porn = true) : PinMove s (powerDown s)
  | asserted (dt : Tick) (hp : s.porn = true) : PinMove s (vehicleAssert (elapse dt s))
  | released (dt : Tick) (hp : s.porn = true) : PinMove s (vehicleRelease (elapse dt s))
  | level (b : Bool) (h : s.porn = false) : PinMove s { s with vrst := b }

/-- Every row but those that move a pin leaves the pins alone. -/
theorem Effect.pinned (h : Effect s t) : Pinned s t ∨ PinMove s t := by
  have hf : ∀ dt {u : State}, face u = face (elapse dt s) → Pinned s u ∨ PinMove s u := fun dt u hu =>
    .inl ((pinned_elapse dt s).trans (.of_face hu))
  have he : ∀ dt {u : State}, Pinned (elapse dt s) u → Pinned s u ∨ PinMove s u := fun dt u hu =>
    .inl ((pinned_elapse dt s).trans hu)
  cases h
  case cycle dt c => exact he dt (pinned_processorCycle c _)
  case event e => exact .inl (.of_gapKeeps (gapKeeps_takeEvent e s))
  case writeDone => exact he _ (pinned_completeWrite _)
  case readDone => exact he _ (pinned_completeRead _)
  case jobStart => exact hf _ (face_settleEngine _)
  case waitEnd => exact hf _ (face_endRingWait _)
  case rise dt l => exact hf dt (face_raiseBst l _)
  case message dt l m => exact hf dt (face_takePortMessage l m _)
  case received dt l status burst => exact hf dt (face_takeReceived l status burst _)
  case startUp carid cpsel h => exact .inr (.startUp carid cpsel h)
  case powerDown h => exact .inr (.powerDown h)
  case asserted dt h => exact .inr (.asserted dt h)
  case released dt h _ => exact .inr (.released dt h)
  case level b h => exact .inr (.level b h)
  case passing dt => exact .inl (pinned_elapse dt s)
  case nothing => exact .inl (.refl s)

theorem face_startUpMoves (s : State) : face (startUpMoves s) = face s := by
  unfold startUpMoves
  split
  · rw [face_requestStatus, face_requestAttention]
  · rw [face_requestStatus, face_requestAttention, face_createJoin, face_enterSearch]

theorem face_vehicleAssert (s : State) : face (vehicleAssert s) = face (clearCopy { s with vrst := true }) := by
  have hd : ∀ (l : List Nat) (u : State), face (l.foldl (fun s i => mapCapture i disarm s) u) = face u :=
    face_foldl _ fun u i => face_mapCapture i disarm u
  have hc : ∀ {u v : State}, face u = face v → face (clearCopy u) = face (clearCopy v) := fun h => by
    simp only [face, Face.mk.injEq] at h
    simp only [face, clearCopy, h]
  refine hc ?_
  rw [face_vehicleAssertCommand, face_vehicleAssertAttention, face_clearGroupsOf, face_clearRulesWhere,
    vehicleAssertWindows, hd, face_clearEntriesOf, face_vehicleAssertEngine]

theorem face_vehicleRelease (s : State) : face (vehicleRelease s) = face { s with vrst := false } := by
  have hr : ∀ (l : List Nat) (u : State), face (l.foldl
      (fun s i => if (captureAt s i).isSome then appendPrime i (mapCapture i reload s) else s) u) = face u :=
    face_foldl _ fun u i => by
      split
      · rw [face_appendPrime, face_mapCapture]
      · rfl
  rw [vehicleRelease, face_settleEngine, vehicleRequests, face_vehicleReleaseAttention, face_requestStatus,
    vehicleReleaseWindows, hr]

theorem pins_powerDown (s : State) : pins (powerDown s) = (false, s.vrst, 0#10, false, s.pending, 0xF0000) :=
  (pinned_releaseHold _).pins

theorem PinMove.memory (h : PinMove s t) (hm : MemoryOk s) : MemoryOk t := by
  cases h
  case startUp => exact (Pinned.of_face (face_startUpMoves _)).memory hm
  case powerDown => exact (pinned_releaseHold _).memory hm
  case asserted dt _ => exact (Pinned.of_face (face_vehicleAssert _)).memory ((pinned_elapse dt s).memory hm)
  case released dt _ => exact (Pinned.of_face (face_vehicleRelease _)).memory ((pinned_elapse dt s).memory hm)
  case level => exact hm

theorem pending_of_pins (h : pins t = pins s) : t.pending = s.pending := by
  simp only [pins, Prod.mk.injEq] at h
  exact h.2.2.2.2.1

theorem pending_of_face (h : face t = face s) : t.pending = s.pending := pending_of_pins (pins_of_face h)

theorem PinMove.pending (h : PinMove s t) : t.pending = s.pending := by
  cases h
  case startUp => rw [pending_of_face (face_startUpMoves _), sampleStraps]
  case powerDown =>
    have hd := pins_powerDown s
    simp only [pins, Prod.mk.injEq] at hd
    exact hd.2.2.2.2.1
  case asserted dt _ => rw [pending_of_face (face_vehicleAssert _), clearCopy, elapse_pending]
  case released dt _ => rw [pending_of_face (face_vehicleRelease _), elapse_pending]
  case level => rfl

/-- Settles O2. -/
theorem everyCommandCompletes : Obligations.EveryCommandCompletes := by
  intro i s
  obtain ⟨t, ht, he⟩ := exec_effect i s
  refine ⟨t, ht, ?_⟩
  obtain h | h := he.pinned
  exacts [pending_of_pins h.pins, h.pending]

/-- Settles O4, by what each row does to the RAM. -/
theorem stepKeepsMemory : Obligations.StepKeepsMemory := by
  intro s t hm h
  obtain ⟨-, rfl⟩ | ⟨q, he⟩ := step_effect h
  · exact (pinned_idleTick s).memory hm
  · obtain hp | hp := he.pinned
    exacts [hp.memory hm, hp.memory hm]

/-- Settles O12: of the rows that move a pin only start-up samples the straps, and only a power-on reset clears them. -/
theorem strapsHold : Obligations.StrapsHold := by
  intro s t hs h ht
  have hpins : ∀ {u : State}, pins t = pins u →
      t.carid = u.carid ∧ t.passOnly = u.passOnly ∧ t.bpu.base = u.bpu.base := fun hu => by
    simp only [pins, Prod.mk.injEq] at hu
    obtain ⟨-, -, hc, hp, -, hb⟩ := hu
    exact ⟨hc, hp, hb⟩
  obtain ⟨-, rfl⟩ | ⟨q, he⟩ := step_effect h
  · exact hpins (pinned_idleTick s).pins
  obtain hp | hp := he.pinned
  · exact hpins (u := { s with pending := q }) hp.pins
  cases hp
  case startUp hd => exact absurd hs (by simp [show s.porn = false from hd])
  case powerDown =>
    have hd : (powerDown _).porn = false := congrArg Prod.fst (pins_powerDown { s with pending := q })
    exact absurd ht (by rw [hd]; decide)
  case asserted dt _ =>
    have hf := hpins (pins_of_face (face_vehicleAssert _))
    exact hf.imp (·.trans (elapse_carid ..)) (·.imp (·.trans (elapse_passOnly ..)) (·.trans (elapse_base ..)))
  case released dt _ =>
    have hf := hpins (pins_of_face (face_vehicleRelease _))
    exact hf.imp (·.trans (elapse_carid ..)) (·.imp (·.trans (elapse_passOnly ..)) (·.trans (elapse_base ..)))
  case level => exact ⟨rfl, rfl, rfl⟩

/-- Settles O1. -/
theorem stepRunsFrontCommand : Obligations.StepRunsFrontCommand := by
  intro s
  refine ⟨fun c rest h => ?_, fun h => ?_⟩ <;> rw [step, h]

/-! ### While PORN is low -/

/-- The state holds its power-on values, whatever RAM, level, PD and queue. -/
def IsDown (s : State) : Prop := s = downState s.ram s.vrst s.bpu.pd s.pending

theorem isDown_downState (ram : Memory) (vrst : Bool) (pd : Word) (q : List Instr) : IsDown (downState ram vrst pd q) := rfl

theorem IsDown.porn (h : IsDown s) : s.porn = false := by rw [h]; rfl

/-- A cycle performed while PORN is low is forwarded and disturbs no block (R13). -/
theorem IsDown.performCycle (h : IsDown s) (c : Cycle) : IsDown (performCycle c s) := by
  rw [h]
  unfold Machine.performCycle
  split
  · rfl
  split
  · rfl
  split
  · unfold performWrite
    split <;> rfl
  · rfl

/-- Nothing is to come while PORN is low. -/
theorem IsDown.untilDue (h : IsDown s) (e : Event) : untilDue s e = none := by
  rw [h]
  cases e
  case tuneExpiry l | scanExpiry l => cases l <;> rfl
  all_goals rfl

theorem porn_of_pins (h : pins t = pins s) : t.porn = s.porn := congrArg Prod.fst h

/-- A row leaves the power-on values of a state whose PORN is low, unless it raises PORN. -/
theorem IsDown.effect (h : IsDown s) (he : Effect s t) (ht : t.porn = false) : IsDown t := by
  have hs := h.porn
  have hlapse : ∀ dt, elapse dt s = s := fun dt => elapse_down dt hs
  have hword : currentWord s = none := by rw [h]; rfl
  have hlive : ∀ l, portLive s l = false := fun l => by simp [portLive, hs]
  cases he <;> simp only [hlapse] at *
  case cycle dt c =>
    have hp : processorCycle c s = Machine.performCycle c s := by rw [h]; rfl
    rw [hp]
    exact h.performCycle c
  case event e =>
    have hn := h.untilDue e
    simpa [takeEvent, reachEvent, isDue, hn] using h
  case writeDone => simpa [completeWrite, hword] using h
  case readDone => simpa [completeRead, hword] using h
  case jobStart => rw [h]; rfl
  case waitEnd => rw [h]; rfl
  case rise dt l => simpa [raiseBst, hlive] using h
  case message dt l m =>
    unfold takePortMessage
    split
    · exact h
    · simpa [takeTuned, hlive] using h
    · simpa [hlive] using h
    · simpa [takeReceived, hlive] using h
    · simpa [takeFault, hlive] using h
    · simpa [takeFault, hlive] using h
  case received dt l status burst => simpa [takeReceived, hlive] using h
  case startUp carid cpsel _ =>
    have hp : (startUpMoves (sampleStraps carid cpsel s)).porn = true := porn_of_pins (pins_of_face (face_startUpMoves _))
    simp [hp] at ht
  case powerDown hp | asserted hp | released hp _ => simp [hs] at hp
  case level b _ => rw [h]; rfl
  case passing dt => exact h
  case nothing => exact h

/-- At the fall of PORN every block takes its power-on values, the held cycle being forwarded (R13, log 3). -/
theorem isDown_powerDown (s : State) : IsDown (powerDown s) := by
  unfold powerDown releaseHold
  split
  · exact (isDown_downState s.ram s.vrst s.bpu.pd s.pending).performCycle _
  · next hh =>
    have hn : s.bpu.hold = none := hh
    simp only [hn]
    rfl

theorem vehicleAssert_porn (s : State) : (vehicleAssert s).porn = s.porn := by
  have h := face_vehicleAssert s
  simp only [face, clearCopy, Face.mk.injEq] at h
  exact h.1

theorem vehicleRelease_porn (s : State) : (vehicleRelease s).porn = s.porn := by
  have h := face_vehicleRelease s
  simp only [face, Face.mk.injEq] at h
  exact h.1

/-- Of the rows that move a pin, the one after which PORN is low although it was high is POWER_ON_RESET. -/
theorem PinMove.isDown (h : PinMove s t) (hs : s.porn = true) (ht : t.porn = false) : IsDown t := by
  cases h
  case startUp hp => simp [hs] at hp
  case powerDown => exact isDown_powerDown s
  case asserted dt _ =>
    simp [vehicleAssert_porn, hs] at ht
  case released dt _ =>
    simp [vehicleRelease_porn, hs] at ht
  case level b hp => simp [hs] at hp

/-- Settles O6: while PORN is low no row but start-up changes a block, and PORN falls only by POWER_ON_RESET. -/
theorem stepKeepsPowerDown : Obligations.StepKeepsPowerDown := by
  intro s t hs h ht
  obtain ⟨-, rfl⟩ | ⟨q, he⟩ := step_effect h
  · have hp : s.porn = false := (porn_of_pins (pinned_idleTick s).pins).symm.trans ht
    have hd : IsDown s := hs hp
    have hb : s.bpu.onBus = none := by rw [hd]; rfl
    have hi : idleTick s = s := by simp [idleTick, elapse_down _ hp, hb]
    rw [hi]
    exact hd
  cases hp : s.porn with
  | false =>
    have hd : IsDown { s with pending := q } := by
      have := hs hp
      unfold IsDown
      rw [this]
      rfl
    exact hd.effect he ht
  | true =>
    obtain hk | hm := he.pinned
    · have : t.porn = s.porn := porn_of_pins (s := { s with pending := q }) hk.pins
      simp [this, hp] at ht
    · exact hm.isDown hp ht

theorem performCycle_writeCycle (a : Addr) (v : Word) (lanes : Lanes) (s : State) :
    performCycle (writeCycle a v lanes) s = performWrite (wordAddr a) v lanes s := by simp [performCycle, writeCycle]

theorem performCycle_readCycle (a : Addr) (lanes : Lanes) (s : State) :
    performCycle (readCycle a lanes) s = performRead (wordAddr a) s := by simp [performCycle, readCycle]

/-- A write that strobes no byte reaches no byte. -/
theorem writeLanes_of_none {lanes : Lanes} (h : (lanes.low || lanes.high) = false) (m : Memory) (a : Nat) (v : Word) :
    writeLanes m a v lanes = m := by
  rw [Bool.or_eq_false_iff] at h
  simp [writeLanes, h]

/-- A write while PORN is low is forwarded (R13). -/
theorem performWrite_down (h : s.porn = false) (a : Nat) (v : Word) (lanes : Lanes) :
    performWrite a v lanes s = writeRam a v lanes s := by
  unfold performWrite
  split
  · next hl => rw [writeRam, writeLanes_of_none (by simpa using hl)]
  · rw [h]
    rfl

/-- Settles O14. -/
theorem powerOnReset : Obligations.PowerOnReset := by
  intro s hs
  have hd : exec .powerOnReset s = .next (powerDown s) := by simp [exec, execPowerOnReset, hs]
  refine ⟨fun hh => ?_, fun addr data lanes hh => ?_, fun addr lanes hh => ?_⟩
  all_goals rw [hd, powerDown, releaseHold]; simp only [hh]
  · rfl
  · rw [performCycle_writeCycle, performWrite_down (by rfl)]
    rfl
  · rfl

end Sys2Proof.Machine
end

section
/-! SUPPORT. The engine's choice changes the engine, the Attention Unit and the Pass-Over Count and nothing else, and what
it and the end of a SET RING's wait make of a settled engine. -/

-- One proof is checked after another: each worker thread of Lean reserves memory of its own.
set_option Elab.async false

namespace Sys2Proof.Machine

variable {s t v : State}

/-! ### The frame of the choice -/

/-- The engine's choice changes the engine, the Attention Unit and the Pass-Over Count, and nothing else. -/
def EngineOnly (s t : State) : Prop :=
  ∃ (m : Engine) (a : Attention) (n : Nat), t = { s with mae := m, au := a, bpu.passOver := n }

theorem EngineOnly.rfl {s : State} : EngineOnly s s := ⟨s.mae, s.au, s.bpu.passOver, by rfl⟩

theorem EngineOnly.trans (h : EngineOnly s t) (g : EngineOnly t v) : EngineOnly s v := by
  obtain ⟨m, a, n, rfl⟩ := h
  obtain ⟨m', a', n', rfl⟩ := g
  exact ⟨m', a', n', by rfl⟩

protected theorem EngineOnly.ite {p : Prop} [Decidable p] (ht : EngineOnly s t) (hv : EngineOnly s v) :
    EngineOnly s (if p then t else v) := by
  split
  exacts [ht, hv]

/-- An update of the engine alone. -/
theorem EngineOnly.mae (s : State) (m : Engine) : EngineOnly s { s with mae := m } := ⟨m, s.au, s.bpu.passOver, by rfl⟩

theorem engineOnly_endRunning (s : State) : EngineOnly s (endRunning s) := by
  unfold endRunning
  exact .ite ⟨_, s.au, 0, by rfl⟩ (.mae s _)

theorem engineOnly_dropStaleInfo (s : State) : EngineOnly s (dropStaleInfo s) := by
  cases hr : s.mae.ring with
  | none => simp [dropStaleInfo, hr, EngineOnly.rfl]
  | some r =>
    rw [dropStaleInfo_eq hr]
    unfold staleDropped withCause
    exact .ite .rfl ⟨_, _, s.bpu.passOver, by rfl⟩

theorem engineOnly_dropPrime (i : Nat) (s : State) : EngineOnly s (dropPrime i s) := by
  obtain ⟨w, m, n, -, h⟩ := abandonWork_eq (Work.isPrimeOf i)
    { s with mae.primeList := s.mae.primeList.filter fun k => decide (k ≠ i) }
  rw [dropPrime, h]
  exact ⟨_, s.au, n, by rfl⟩

theorem engineOnly_settlePrime (i : Nat) (s : State) : EngineOnly s (settlePrime i s) :=
  .ite (engineOnly_dropPrime i s) .rfl

theorem engineOnly_startRing (cls : RingClass) (s : State) : EngineOnly s (startRing cls s) := by
  unfold startRing
  split
  · exact (EngineOnly.mae s _).trans (engineOnly_dropStaleInfo _)
  · exact .rfl

theorem engineOnly_startMirror (i offset : Nat) (words : List Word) (s : State) :
    EngineOnly s (startMirror i offset words s) := by
  have hc : EngineOnly s (if (mirrorKept s i offset words).length < words.length then
      { s with mae.mirrorClamps := bump s.mae.mirrorClamps } else s) := .ite (.mae s _) .rfl
  unfold startMirror
  exact .ite (hc.trans (engineOnly_endRunning _)) (hc.trans (.mae _ _))

theorem engineOnly_startListed (s : State) : EngineOnly s (startListed s) := by
  unfold startListed
  split
  · exact .rfl
  · split
    · exact (EngineOnly.mae s _).trans (engineOnly_startMirror _ _ _ _)
    · exact .mae s _

theorem engineOnly_startPrime (s : State) : EngineOnly s (startPrime s) := by
  unfold startPrime
  split
  · exact .rfl
  · exact (EngineOnly.mae s _).trans (engineOnly_settlePrime _ _)

theorem engineOnly_startJob (k : JobKind) (s : State) : EngineOnly s (startJob k s) := by
  unfold startJob
  split
  · exact .mae s _
  · exact .mae s _
  · split
    exacts [.mae s _, .rfl]
  · exact engineOnly_startRing _ s
  · exact engineOnly_startListed s
  · exact engineOnly_startRing _ s
  · exact .mae s _
  · exact engineOnly_startPrime s

theorem engineOnly_resumeJob (j : Job) (rest : List Job) (s : State) : EngineOnly s (resumeJob j rest s) := by
  unfold resumeJob
  split
  · exact .mae s _
  · exact (EngineOnly.mae s _).trans (engineOnly_settlePrime _ _)
  all_goals exact .mae s _

theorem engineOnly_chooseJob (s : State) : EngineOnly s (chooseJob s) := by
  unfold chooseJob
  refine .ite ?_ .rfl
  split
  · unfold chooseNext
    repeat' split
    exacts [engineOnly_startJob _ s, .rfl, engineOnly_startJob _ s, engineOnly_resumeJob _ _ s, engineOnly_resumeJob _ _ s]
  · unfold preempt
    split
    exacts [(EngineOnly.mae s _).trans (engineOnly_startJob _ _), .rfl]

theorem engineOnly_chooseJobs : ∀ (n : Nat) (s : State), EngineOnly s (chooseJobs n s)
  | 0, _ => .rfl
  | n + 1, s => .ite ((engineOnly_chooseJob s).trans (engineOnly_chooseJobs n _)) (engineOnly_chooseJob s)

theorem engineOnly_settleEngine (s : State) : EngineOnly s (settleEngine s) := engineOnly_chooseJobs 32 s

/-! ### A word on the bus -/

/-- With a word on the bus the engine makes no choice (R157). -/
theorem settleEngine_onBus {b : BusWord} (h : s.bpu.onBus = some b) : settleEngine s = s := by
  have hf : engineFree s = false := by simp [engineFree, h]
  have hc : chooseJob s = s := by simp [chooseJob, hf]
  unfold settleEngine chooseJobs
  simp [hc, mustChoose, hf]

/-! ### A SET RING that waits -/

/-- A SET RING's wait goes on, or its end leaves no SET RING waiting (R161). -/
theorem endRingWait_cases (s : State) :
    (endRingWait s = s ∧ (setRingWaiting s.cu = false ∨ anyRingJob s.mae = true)) ∨
      (setRingWaiting s.cu = true ∧ setRingWaiting (endRingWait s).cu = false) := by
  cases hw : setRingWaiting s.cu with
  | false => exact .inl ⟨endRingWait_of_not hw, .inl rfl⟩
  | true =>
    cases ha : anyRingJob s.mae with
    | true => exact .inl ⟨endRingWait_of_busy ha, .inr rfl⟩
    | false =>
      refine .inr ⟨rfl, ?_⟩
      unfold endRingWait
      unfold setRingWaiting at hw
      split
      · rw [ha]
        rfl
      all_goals simp_all

/-- Where the engine is settled no SET RING's wait is over. -/
theorem ringWait_of_settled (h : settle s = s) : setRingWaiting s.cu = false ∨ anyRingJob s.mae = true := by
  obtain ⟨-, he⟩ | ⟨hw, hn⟩ := endRingWait_cases s
  · exact he
  · obtain ⟨m, a, n, hs⟩ := engineOnly_settleEngine (endRingWait s)
    have hcu : s.cu = (endRingWait s).cu := by
      conv_lhs => rw [← h, settle, hs]
    rw [hcu, hn] at hw
    exact absurd hw (by decide)

/-- A settled engine stays settled as a word begins on the bus. -/
theorem settle_begun (h : settle s = s) (b : BusWord) :
    settle { s with bpu.onBus := some b } = { s with bpu.onBus := some b } := by
  have he : endRingWait { s with bpu.onBus := some b } = { s with bpu.onBus := some b } := by
    obtain hw | hb := ringWait_of_settled h
    exacts [endRingWait_of_not hw, endRingWait_of_busy hb]
  rw [settle, he, settleEngine_onBus (by rfl)]

end Sys2Proof.Machine
end

section
/-! SUPPORT. The bus path: what the arbiter does with a cycle, how each class of cycle is performed, and the words that the
processor writes to the Control Page. -/

-- One proof is checked after another: each worker thread of Lean reserves memory of its own.
set_option Elab.async false

namespace Sys2Proof.Machine

variable {s t v : State}

/-! ### A cycle performed by its row or let through -/

/-- A row that sends the cycle `c` performs it where it finds the bus open. -/
theorem Performs.of_cycle {row : Tick → Instr} {c : Cycle}
    (hrow : ∀ dt before, Arrives dt before v → exec (row dt) before = .next (processorCycle c (elapse dt before)))
    (h : performCycle c v = t) : Performs row c v t :=
  ⟨fun dt before ha => by rw [hrow dt before ha, processorCycle_arrives c ha, h], h⟩

/-- A row that writes Control Page word `k`. -/
theorem Performs.of_pageWrite {row : Tick → Instr} {k : Nat} {w : Word} {lanes : Lanes}
    (hrow : ∀ dt before, exec (row dt) before = .next (pageWrite k w lanes (elapse dt before)))
    (h : performCycle (writeCycle (pageBusAddr v k) w lanes) v = t) :
    Performs row (writeCycle (pageBusAddr v k) w lanes) v t :=
  .of_cycle (fun dt before ha => by rw [hrow, pageWrite, pageBusAddr_arrives k ha]) h

/-- A row that reads Control Page word `k`. -/
theorem Performs.of_pageRead {row : Tick → Instr} {k : Nat} {lanes : Lanes}
    (hrow : ∀ dt before, exec (row dt) before =
      .next (processorCycle (readCycle (pageBusAddr (elapse dt before) k) lanes) (elapse dt before)))
    (h : performCycle (readCycle (pageBusAddr v k) lanes) v = t) :
    Performs row (readCycle (pageBusAddr v k) lanes) v t :=
  .of_cycle (fun dt before ha => by rw [hrow, pageBusAddr_arrives k ha]) h

/-- Each row of a Table 11-1 command writes its Command Word (R183). -/
theorem exec_commandRows {p : Byte × (Tick → CmdWrite → Instr)} (h : p ∈ commandRows) (dt : Tick) (w : CmdWrite)
    (s : State) : exec (p.2 dt w) s = .next (commandWrite dt p.1 w s) := by
  fin_cases h <;> rfl

/-! ### The arbiter -/

/-- The first event due is one of the events, at its tick. -/
theorem of_firstDue {e : Event} {d : Int} (h : firstDue s = some (e, d)) : e ∈ events s ∧ untilDue s e = some d := by
  have key : ∀ (l : List Event) (best : Option (Event × Int)),
      (∀ p, best = some p → p.1 ∈ events s ∧ untilDue s p.1 = some p.2) → (∀ x ∈ l, x ∈ events s) →
      ∀ p, l.foldl (earlier s) best = some p → p.1 ∈ events s ∧ untilDue s p.1 = some p.2 := by
    intro l
    induction l with
    | nil => exact fun best hb _ => hb
    | cons x l ih =>
      intro best hb hl
      refine ih _ (fun p hp => ?_) fun y hy => hl y (List.mem_cons_of_mem x hy)
      have hx := hl x List.mem_cons_self
      unfold earlier at hp
      split at hp
      · exact hb p hp
      · next hd => cases hp; exact ⟨hx, hd⟩
      · next hd =>
        split at hp
        · cases hp; exact ⟨hx, hd⟩
        · exact hb p hp
  exact key (events s) none nofun (fun _ => id) (e, d) h

theorem elapse_up (dt : Tick) (h : s.porn = true) : elapse dt s = runFor (eventBound dt.toNat) dt.toNat s := if_pos h

/-- What comes before the first tick comes once (R10, R158). -/
theorem runFor_gap {n : Nat} {r : Int} (hr : 0 < r) (h1 : openGap s = t) (h2 : openGap t = t) :
    runFor (n + 1) r s = runFor (n + 1) r t := by
  simp only [runFor, if_pos hr, h1, h2]

/-- With a word begun on the bus of a settled engine nothing comes before a tick. -/
theorem openGap_begun (hs : settle s = s) (b : BusWord) :
    openGap { s with bpu.onBus := some b } = { s with bpu.onBus := some b } :=
  openGap_of_settled (settle_begun hs b) (.inr (.inl nofun))

/-- A ready word of a settled engine begins in the gap before the first tick, and then the time passes with that word on
the bus (R10). -/
theorem elapse_begins {dt : Tick} {b : BusWord} (hdt : 0 < dt.toNat) (hp : s.porn = true) (hs : settle s = s)
    (hb : s.bpu.onBus = none) (hh : s.bpu.hold = none) (hr : readyWord s = some b) : elapse dt s = elapse dt { s with bpu.onBus := some b } := by
  have h1 : openGap s = { s with bpu.onBus := some b } := by rw [openGap_begins hs hb hh, hr]
  have h2 := openGap_begun hs b
  have hn : eventBound dt.toNat = (eventBound dt.toNat - 1) + 1 := by unfold eventBound; omega
  rw [elapse_up dt hp, elapse_up (s := { s with bpu.onBus := some b }) dt hp, hn, runFor_gap (by exact_mod_cast hdt) h1 h2]

/-- Settles O17. -/
theorem arbiterDecides : Obligations.ArbiterDecides := by
  refine ⟨fun c s hh hp => ?_, fun dt s b hdt hp hs hb hh hr => ⟨elapse_begins hdt hp hs hb hh hr, fun hq => ?_⟩,
    fun dt before => ⟨fun _ _ _ _ => ⟨rfl, rfl, rfl⟩, fun _ => ⟨rfl, rfl⟩, fun _ _ => ⟨rfl, rfl, rfl, rfl, rfl⟩,
      fun p hmem w => exec_commandRows hmem dt w before, fun _ _ => rfl⟩⟩
  · have hc : processorCycle c s = beginCycle c s := by simp [processorCycle, hh]
    rw [hc]
    refine ⟨fun b hb => by simp [beginCycle, hb, hp, holdFor], fun hb => ⟨fun hr => by simp [beginCycle, hb, hr],
      fun b hr => ⟨fun h => ?_, fun h1 h2 h3 => ?_⟩⟩⟩
    · have hu : (b.kind.urgent || decide (Config.passOverMax ≤ s.bpu.passOver)) = true := by
        obtain h | h | h := h
        · simp [h, JobKind.urgent]
        · simp [h, JobKind.urgent]
        · simp [Config.passOverMax, h]
      simp [beginCycle, hb, hr, hu, holdFor]
    · have hu : (b.kind.urgent || decide (Config.passOverMax ≤ s.bpu.passOver)) = false := by
        have : b.kind.urgent = false := by revert h1 h2; cases b.kind <;> simp [JobKind.urgent]
        simp [this, Nat.not_le.mpr h3, Config.passOverMax]
      simp [beginCycle, hb, hr, hu]
  · rw [elapse_begins hdt hp hs hb hh hr,
      elapse_quiet (s := { s with bpu.onBus := some b }) hp (openGap_begun hs b)]
    · simp [countTicks, tickAdd]
    · intro e d hf
      obtain ⟨he, hu⟩ := of_firstDue hf
      obtain ⟨at_, hat, rfl⟩ := Option.map_eq_some_iff.mp hu
      exact hq e he at_ hat

/-- An MAE word leaves the bus free, and the held cycle held. -/
theorem face_completeWord (b : BusWord) (s : State) :
    face (completeWord b s) = face { s with bpu.onBus := none, ram := (completeWord b s).ram } := by
  rw [completeWord_ram]
  unfold completeWord
  dsimp only
  cases b.value with
  | none =>
    dsimp only
    split
    exacts [face_jobWordDone _ _ _ _, rfl]
  | some v =>
    dsimp only
    split
    · rw [face_jobWordDone, face_noteDeposit]
      rfl
    · rw [face_noteDeposit]
      rfl

/-- Settles O18. -/
theorem wordReleasesHeldCycle : Obligations.WordReleasesHeldCycle := by
  intro b c before s hb hh v
  have hf := (face_settle (completeWord b s)).trans (face_completeWord b s)
  simp only [face, Face.mk.injEq] at hf
  obtain ⟨-, -, -, -, -, -, -, -, hhold, honBus, -⟩ := hf
  have hc : completeBus b s = performCycle c v := by
    unfold completeBus releaseHold
    rw [hhold, hh]
  have hw : currentWord s = some b := by simp [currentWord, hb]
  refine ⟨honBus, fun hv => ?_, fun hv => ?_⟩
  · show Host.Outcome.next (completeWrite s) = _
    rw [completeWrite, hw]
    simp [hv, hc]
  · show Host.Outcome.next (completeRead s) = _
    rw [completeRead, hw]
    simp [hv, hc]

/-! ### Reads and writes -/

/-- Where both strobes or none are set, the cycle does nothing (R1). -/
theorem performCycle_malformed (a : Addr) (v : Word) (lanes : Lanes) (s : State) :
    performCycle ⟨true, true, a, v, lanes⟩ s = s := by simp [performCycle]

theorem performWrite_strobed {lanes : Lanes} (hl : Strobed lanes) (hp : s.porn = true) (a : Nat) (w : Word) :
    performWrite a w lanes s = performClass (classify s a) a w lanes s := by
  have hlanes : (!lanes.low && !lanes.high) = false := by
    unfold Strobed at hl
    rw [← Bool.not_or, hl]
    rfl
  simp [performWrite, hlanes, hp]

theorem performWrite_unstrobed {lanes : Lanes} (hl : (lanes.low || lanes.high) = false) (a : Nat) (w : Word) :
    performWrite a w lanes s = s := by
  rw [Bool.or_eq_false_iff] at hl
  simp [performWrite, hl]

/-- While VRST is asserted a write that is not suppressed reaches RAM and no block (R14). -/
theorem performClass_inReset {c : WriteClass} (hv : s.vrst = true) (ho : c ≠ .owned) (hg : c ≠ .guarded) (a : Nat) (w : Word)
    (lanes : Lanes) : performClass c a w lanes s = writeRam a w lanes s := by
  cases c
  case owned => exact absurd rfl ho
  case guarded => exact absurd rfl hg
  all_goals simp [performClass, writeRam, hv]

/-- Settles O20. -/
theorem forwardedWrite : Obligations.ForwardedWrite := by
  intro addr data lanes v h t
  have hp : performCycle (writeCycle addr data lanes) v = t := by
    rw [performCycle_writeCycle]
    show _ = writeRam (wordAddr addr) data lanes v
    cases hl : lanes.low || lanes.high
    · rw [performWrite_unstrobed hl, writeRam, writeLanes_of_none hl]
    cases hpo : v.porn
    · exact performWrite_down hpo _ _ _
    rw [performWrite_strobed hl hpo]
    obtain h | h | h | ⟨hv, ho, hg⟩ := h
    · simp [hpo] at h
    · rw [h]; rfl
    · rw [h]; rfl
    · exact performClass_inReset hv ho hg _ _ _
  exact ⟨.of_cycle (fun _ _ _ => rfl) hp, .of_cycle (fun _ _ _ => rfl) hp⟩

/-- Settles O21. -/
theorem suppressedWrite : Obligations.SuppressedWrite := by
  intro addr data lanes v hp hl hc
  refine .of_cycle (fun _ _ _ => rfl) ?_
  rw [performCycle_writeCycle, performWrite_strobed hl hp]
  have hw : suppressWrite v = withCause .guardWrite { v with bpu.guardViolations := min (v.bpu.guardViolations + 1) 65535 } := by
    rw [suppressWrite, raiseCause_eq]
    rfl
  obtain h | h := hc <;> rw [h] <;> exact hw

/-- Settles O22. -/
theorem argumentWrite : Obligations.ArgumentWrite := by
  intro addr data lanes k v hr hl hc h1 h15
  refine .of_cycle (fun _ _ _ => rfl) ?_
  rw [performCycle_writeCycle, performWrite_strobed hl hr.porn, hc]
  have hk : k ≠ 0 ∧ k ≠ 24 ∧ k ≠ 25 ∧ k ≠ 26 ∧ k ≠ 27 ∧ k ≠ 28 := by omega
  simp [performClass, hr.vrst, mergeCopy, copyPlace, h15, handControl, hk, writeRam, copyAt]

/-- Settles O23. -/
theorem plainReadAndEmptyCycles : Obligations.PlainReadAndEmptyCycles := by
  intro addr data lanes v
  refine ⟨fun h => .of_cycle (fun _ _ _ => rfl) ?_, .of_cycle (fun _ _ _ => rfl) (performCycle_malformed ..),
    .of_cycle (fun _ _ _ => rfl) (performCycle_malformed ..), .of_cycle (fun _ _ _ => rfl) ?_⟩
  · rw [performCycle_readCycle]
    unfold performRead
    obtain ⟨h32, h110⟩ | h | h := h
    · have hw : watchedRead (wordAddr addr) (readWord v.ram (wordAddr addr))
          { v with bpu.pd := readWord v.ram (wordAddr addr) } = { v with bpu.pd := readWord v.ram (wordAddr addr) } :=
        (if_neg h32).trans (if_neg h110)
      dsimp only
      rw [hw, ite_self]
    · simp [engineOn, h]
    · simp [engineOn, h]
  · rw [performCycle_writeCycle]
    exact performWrite_unstrobed rfl _ _

/-- Settles O29. -/
theorem syncErrorCountRead : Obligations.SyncErrorCountRead := by
  intro lanes v h
  refine .of_pageRead (fun _ _ => rfl) ?_
  rw [performCycle_readCycle, wordAddr_pageBusAddr h.page (by decide)]
  simp [performRead, watchedRead, engineOn, h.porn, h.vrst, pageAddr]

/-- Settles O27. -/
theorem controlWritesInVehicleReset : Obligations.ControlWritesInVehicleReset := by
  intro data lanes v hp hv hpage put cycle
  have hw : ∀ k w l, k < 256 → partWord k = false → controlWord k = true →
      performCycle (writeCycle (pageBusAddr v k) w l) v = put k w l := by
    intro k w l hk hpart hctl
    rw [performCycle_writeCycle, wordAddr_pageBusAddr hpage hk]
    cases hl : l.low || l.high
    · rw [performWrite_unstrobed hl]
      simp only [put, writeLanes_of_none hl]
    · rw [performWrite_strobed hl hp, classify_control v hk hpart hctl, performClass_inReset (c := .control k) hv nofun nofun]
      rfl
  refine ⟨.of_pageWrite (fun _ _ => rfl) (hw 24 _ _ (by decide) (by decide) (by decide)),
    .of_pageWrite (fun _ _ => rfl) (hw 25 _ _ (by decide) (by decide) (by decide)),
    .of_pageWrite (fun _ _ => rfl) (hw 26 _ _ (by decide) (by decide) (by decide)),
    .of_pageWrite (fun _ _ => rfl) (hw 27 _ _ (by decide) (by decide) (by decide)),
    .of_pageWrite (fun _ _ => rfl) (hw 28 _ _ (by decide) (by decide) (by decide)), fun p hmem w => ?_, fun code w => ?_⟩
  · refine .of_pageWrite (fun dt before => ?_) (hw 0 _ _ (by decide) (by decide) (by decide))
    exact exec_commandRows hmem dt w before
  · exact .of_pageWrite (fun _ _ => rfl) (hw 0 _ _ (by decide) (by decide) (by decide))

end Sys2Proof.Machine
end

section
/-! SUPPORT. The classes of a write, and the Control Page words that the Attention Unit and the ring take. -/

-- One proof is checked after another: each worker thread of Lean reserves memory of its own.
set_option Elab.async false

namespace Sys2Proof.Machine

variable {s t v : State}

/-! ### The classes of a write -/

theorem Entry.holds_iff (a : Nat) (e : Entry) : e.holds a = true ↔ e.base ≤ a ∧ a < e.base + 2 * e.length := by
  simp [Entry.holds]

theorem inRing_iff (s : State) (a : Nat) :
    inRing s a = true ↔ ∃ r, s.mae.ring = some r ∧ r.base ≤ a ∧ a < r.base + 64 * r.slots := by
  unfold inRing
  cases s.mae.ring <;> simp

/-- Some window that holds the address meets `p`. -/
theorem indexAt_isSome_iff (s : State) (a : Nat) (p : EntryBody → Bool) :
    (indexAt s a p).isSome = true ↔
      ∃ i < 16, ∃ e, entryAt s i = some e ∧ p e.body = true ∧ e.base ≤ a ∧ a < e.base + 2 * e.length := by
  simp only [indexAt, List.find?_isSome, List.mem_range, Option.any_eq_true, Bool.and_eq_true, Entry.holds_iff]
  constructor
  · rintro ⟨i, hi, e, he, hh, hp⟩
    exact ⟨i, hi, e, he, hp, hh⟩
  · rintro ⟨i, hi, e, he, hp, hh⟩
    exact ⟨i, hi, e, he, hh, hp⟩

theorem isMirror_iff (g : Bool) (b : EntryBody) : b.isMirror g = true ↔ ∃ m, b = .mirror m ∧ m.guarded = g := by
  cases b <;> simp [EntryBody.isMirror]

theorem isCapture_iff (b : EntryBody) : b.isCapture = true ↔ ∃ c, b = .capture c := by
  cases b <;> simp [EntryBody.isCapture]

/-- Outside the Control Page the class is that of rows 4 to 8 of Table 1-2. -/
theorem classify_outside {a : Nat} (h : a < s.bpu.base ∨ s.bpu.base + 512 ≤ a) :
    classify s a = classifyOutside s a := by
  unfold classify pageWord
  rw [if_neg (by omega)]

/-- Settles O19. -/
theorem pageWordClasses : Obligations.PageWordClasses := by
  intro s
  refine ⟨fun k hk => ?_, fun a ha => ?_⟩
  · rw [classify, pageWord_pageAddr s hk]
    simp only [partWord, controlWord, Bool.or_eq_true, Bool.and_eq_true, decide_eq_true_eq, or_assoc]
  · intro ring holds mirror capture
    have hring : inRing s a = true ↔ ring := inRing_iff s a
    have hmirror : ∀ g, (indexAt s a (EntryBody.isMirror g)).isSome = true ↔ mirror g := fun g => by
      rw [indexAt_isSome_iff]
      simp only [isMirror_iff]
      constructor
      · rintro ⟨i, hi, e, he, ⟨m, hm, hg⟩, hh⟩
        exact ⟨i, hi, e, m, he, hm, hg, hh⟩
      · rintro ⟨i, hi, e, m, he, hm, hg, hh⟩
        exact ⟨i, hi, e, he, ⟨m, hm, hg⟩, hh⟩
    have hcapture : ∀ i, ((entryAt s i).any fun e => e.holds a && e.body.isCapture) = true ↔ capture i := fun i => by
      simp only [Option.any_eq_true, Bool.and_eq_true, Entry.holds_iff, isCapture_iff]
      constructor
      · rintro ⟨e, he, hh, c, hc⟩
        exact ⟨e, c, he, hc, hh⟩
      · rintro ⟨e, c, he, hc, hh⟩
        exact ⟨e, he, hh, c, hc⟩
    rw [classify_outside ha, classifyOutside]
    refine ⟨fun hr => if_pos (hring.mpr hr), fun hr hm => ?_, fun hr hm ho => ?_, fun hr hm ho => ⟨fun i hi e he hc hj => ?_,
      fun hn => ?_⟩⟩
    all_goals rw [if_neg (mt hring.mp hr)]
    · rw [if_pos ((hmirror true).mpr hm)]
    · rw [if_neg (mt (hmirror true).mp hm), if_pos ((hmirror false).mpr ho)]
    · have hx : indexAt s a EntryBody.isCapture = some i := by
        rw [indexAt, List.find?_range_eq_some]
        exact ⟨(hcapture i).mpr hc, List.mem_range.mpr hi, fun j hji => by
          simpa using mt (hcapture j).mp (hj j hji)⟩
      rw [if_neg (mt (hmirror true).mp hm), if_neg (mt (hmirror false).mp ho), hx]
      simp only [offsetIn, he]
    · have hx : indexAt s a EntryBody.isCapture = none := by
        rw [indexAt, List.find?_eq_none]
        exact fun j hj => by simpa using mt (hcapture j).mp (hn j (List.mem_range.mp hj))
      rw [if_neg (mt (hmirror true).mp hm), if_neg (mt (hmirror false).mp ho), hx]

/-! ### The Attention Unit's words -/

/-- What new flags do, all of it: a change requests an ATTENTION job (R171, R172). -/
theorem setAttention_eq (q p : BitVec 6) (e : Bool) (s : State) : setAttention q p e s = { s with
    au.requests := q, au.permissions := p, au.enable := e
    mae.attention := s.mae.attention ||
      decide (¬(s.au.requests = q ∧ s.au.permissions = p ∧ s.au.enable = e)) } := by
  unfold setAttention
  split
  · next h => simp [h]
  · next h => simp [h, requestAttention]

/-- A write of one of the words 24 to 28 reaches RAM and the copy, and its receiving block (R5, Table 1-3). -/
theorem performCycle_word {k p : Nat} (h : CycleReady v) {lanes : Lanes} (hl : Strobed lanes) (hk : k < 256)
    (hpart : partWord k = false) (hctl : controlWord k = true) (hp : copyPlace k = some p) (w : Word) :
    performCycle (writeCycle (pageBusAddr v k) w lanes) v =
      handControl k (mergeLanes (copyAt v p) w lanes) { v with
        ram := writeLanes v.ram (pageAddr v k) w lanes
        bpu.copy := v.bpu.copy.set p (mergeLanes (copyAt v p) w lanes) } := by
  rw [pageWrite_performed h hk hpart hctl _ _ hl]
  simp only [mergeCopy, hp]
  rfl

/-- A write of word 26 or 27, which has no copy, hands over its strobed bytes (R5). -/
theorem performCycle_mask {k : Nat} (h : CycleReady v) {lanes : Lanes} (hl : Strobed lanes) (hk : k < 256)
    (hpart : partWord k = false) (hctl : controlWord k = true) (hp : copyPlace k = none) (w : Word) :
    performCycle (writeCycle (pageBusAddr v k) w lanes) v =
      handControl k (mergeLanes 0#16 w lanes) { v with ram := writeLanes v.ram (pageAddr v k) w lanes } := by
  rw [pageWrite_performed h hk hpart hctl _ _ hl]
  simp only [mergeCopy, hp]
  rfl

/-- Each of the six flag bits is that of a class. -/
theorem exists_requestBit_eq {i : Nat} (h : i < 6) : ∃ c : RequestClass, requestBit c = BitVec.twoPow 6 i := by
  interval_cases i
  exacts [⟨.stop, rfl⟩, ⟨.fault, rfl⟩, ⟨.command, rfl⟩, ⟨.link, rfl⟩, ⟨.result, rfl⟩, ⟨.info, rfl⟩]

theorem requestBit_eq (c : RequestClass) : ∃ i < 6, requestBit c = BitVec.twoPow 6 i := by
  cases c
  exacts [⟨0, by decide, rfl⟩, ⟨1, by decide, rfl⟩, ⟨2, by decide, rfl⟩, ⟨3, by decide, rfl⟩, ⟨4, by decide, rfl⟩,
    ⟨5, by decide, rfl⟩]

theorem and_twoPow_ne_zero {q : BitVec 6} {i : Nat} (h : i < 6) : q &&& BitVec.twoPow 6 i ≠ 0#6 ↔ q.getLsbD i = true := by
  rw [BitVec.and_twoPow]
  have h0 : BitVec.twoPow 6 i ≠ 0#6 := by interval_cases i <;> decide
  cases q.getLsbD i <;> simp [h0]

/-- Flags meet exactly where some class has both. -/
theorem exists_requestBit {q p : BitVec 6} :
    q &&& p ≠ 0#6 ↔ ∃ c : RequestClass, q &&& requestBit c ≠ 0#6 ∧ p &&& requestBit c ≠ 0#6 := by
  constructor
  · intro h
    obtain ⟨i, hi, hb⟩ : ∃ i < 6, (q &&& p).getLsbD i = true := by
      by_contra hn
      refine h (BitVec.eq_of_getLsbD_eq fun i hi => ?_)
      rw [BitVec.getLsbD_zero]
      exact Bool.eq_false_iff.mpr fun hb => hn ⟨i, hi, hb⟩
    obtain ⟨c, hc⟩ := exists_requestBit_eq hi
    rw [BitVec.getLsbD_and, Bool.and_eq_true] at hb
    refine ⟨c, ?_, ?_⟩ <;> rw [hc, and_twoPow_ne_zero hi]
    exacts [hb.1, hb.2]
  · rintro ⟨c, hq, hp⟩ h
    obtain ⟨i, hi, hc⟩ := requestBit_eq c
    rw [hc, and_twoPow_ne_zero hi] at hq hp
    have hb := congrArg (BitVec.getLsbD · i) h
    simp [hq, hp] at hb

/-- Settles O25. -/
theorem attentionWords : Obligations.AttentionWords := by
  refine ⟨fun data lanes v h hl => ?_, fun v => ?_⟩
  · intro p e n requests cycle
    refine ⟨.of_pageWrite (fun _ _ => rfl) ?_, .of_pageWrite (fun _ _ => rfl) ?_, .of_pageWrite (fun _ _ => rfl) ?_,
      .of_pageWrite (fun _ _ => rfl) ?_⟩
    · rw [performCycle_word (p := 16) h hl (by decide) rfl rfl rfl]
      show setAttention _ _ _ _ = _
      rw [setAttention_eq]
      simp [p]
    · rw [performCycle_word (p := 17) h hl (by decide) rfl rfl rfl]
      show setAttention _ _ _ _ = _
      rw [setAttention_eq]
      simp [e]
    · rw [performCycle_mask h hl (by decide) rfl rfl rfl]
      show setAttention _ _ _ _ = _
      rw [setAttention_eq]
      simp [requests, n]
    · rw [performCycle_mask h hl (by decide) rfl rfl rfl]
      rfl
  · simp only [State.attn, Bool.and_eq_true, bne_iff_ne]
    exact and_congr_right fun _ => exists_requestBit

theorem performRead_on (h : engineOn s = true) (a : Nat) :
    performRead a s = watchedRead a (readWord s.ram a) { s with bpu.pd := readWord s.ram a } := if_pos h

/-- Settles O28. -/
theorem acceptance : Obligations.Acceptance := by
  intro lanes s h row cycle v read accept
  have hp : performCycle cycle s = acceptRead v read := by
    have hon : engineOn s = true := by simp [engineOn, h.porn, h.vrst]
    rw [performCycle_readCycle, wordAddr_pageBusAddr h.page (by decide), performRead_on hon]
    exact if_pos rfl
  have hset : ∀ c, s.au.requests &&& requestBit c ≠ 0#6 →
      setAttention (s.au.requests &&& ~~~requestBit c) s.au.permissions false read = accept c := by
    intro c hc
    have hne : s.au.requests ≠ s.au.requests &&& ~~~requestBit c := by
      intro he
      apply hc
      rw [he, BitVec.and_assoc]
      simp
    rw [setAttention_eq]
    simp [read, accept, hne]
  refine ⟨fun c hv hc => ⟨fun hs => .of_pageRead (fun _ _ => rfl) ?_, fun hs => .of_pageRead (fun _ _ => rfl) ?_⟩,
    fun hn => .of_pageRead (fun _ _ => rfl) ?_⟩
  all_goals rw [show performCycle _ _ = _ from hp, acceptRead]
  · have hr : requested read c = true := by simpa [requested, read] using hc
    simp only [hv, hr, if_true, if_neg hs]
    exact hset c hc
  · subst hs
    have hr : requested read .stop = true := by simpa [requested, read] using hc
    simp only [hv, hr, if_true]
    rw [show setAttention _ _ _ _ = _ from hset .stop hc]
    rfl
  · cases hv : classOfValue v with
    | none => rfl
    | some c =>
      have hr : requested read c = false := by simpa [requested, read] using hn c hv
      simp [hr]

/-- What the Ring Read Index word does to a ring, all of it (R164). -/
theorem takeReadIndex_eq {r : Ring} (hr : s.mae.ring = some r) (h0 : 0 < r.slots) (n : Nat) :
    let x := min n (r.slots - 1)
    let onWay := (x + r.slots - r.rd) % r.slots ≤ (r.w + r.slots - r.rd) % r.slots
    let faults := if r.slots ≤ n ∨ ¬onWay then min (s.mae.indexFaults + 1) 65535 else s.mae.indexFaults
    takeReadIndex n s = if onWay then
      dropStaleInfo { s with mae.ring := some { r with rd := x }, mae.indexFaults := faults }
      else { s with mae.indexFaults := faults } := by
  intro x onWay faults
  have hx : (if r.slots ≤ n then r.slots - 1 else n) = x := by
    simp only [x]
    split <;> omega
  have hbump : bump s.mae.indexFaults = min (s.mae.indexFaults + 1) 65535 := rfl
  simp only [takeReadIndex, hr, decide_eq_true_eq, hx]
  by_cases hc : r.slots ≤ n <;> by_cases ho : onWay <;> simp [onWay] at ho <;> simp [hc, ho, faults, onWay, hbump]

/-- Settles O26. -/
theorem ringReadIndex : Obligations.RingReadIndex := by
  intro data lanes v h hl n row cycle w
  have hp : performCycle cycle v = takeReadIndex n.toNat w :=
    performCycle_word (p := 18) h hl (by decide) rfl rfl rfl data
  refine ⟨fun hr => .of_pageWrite (fun _ _ => rfl) ?_, fun r hr => ?_⟩
  · rw [show performCycle _ _ = _ from hp, takeReadIndex]
    simp [w, hr]
  · intro x onWay faults h0
    have he := takeReadIndex_eq (s := w) hr h0 n.toNat
    refine ⟨fun hon => .of_pageWrite (fun _ _ => rfl) ?_, fun hoff => .of_pageWrite (fun _ _ => rfl) ?_⟩
    · rw [show performCycle _ _ = _ from hp, he, if_pos hon, dropStaleInfo_eq rfl]
    · rw [show performCycle _ _ = _ from hp, he, if_neg hoff]

end Sys2Proof.Machine
end

section
/-! SUPPORT. The Command Unit: a command taken and carried out, the answers without an effect, and the commands that set a
constant, a place of the aliases, the counters or the ring. -/

-- One proof is checked after another: each worker thread of Lean reserves memory of its own.
set_option Elab.async false

namespace Sys2Proof.Machine

variable {s t v u : State} {w : CmdWrite} {dt : Tick} {before : State} {code : Byte}

/-! ### A command taken -/

/-- Argument word `n` is the copy of Control Page word `n` (R5, R183). -/
theorem argWord_copy (s : State) {n : Nat} (h1 : 1 ≤ n) (h15 : n ≤ 15) :
    argWord ((s.bpu.copy.drop 1).take 15) n = copyAt s n := by
  have hn : n - 1 < 15 := by omega
  have h : n - 1 + 1 = n := by omega
  simp [argWord, copyAt, List.getD_eq_getElem?_getD, hn, h]

theorem argNat_copy (s : State) {n : Nat} (h1 : 1 ≤ n) (h15 : n ≤ 15) :
    argNat ((s.bpu.copy.drop 1).take 15) n = (copyAt s n).toNat := congrArg BitVec.toNat (argWord_copy s h1 h15)

/-- No command of Table 11-1 has code 0 or a code above 15. -/
theorem code_of_commandRows {p : Byte × (Tick → CmdWrite → Instr)} (h : p ∈ commandRows) :
    p.1 ≠ 0#8 ∧ p.1.toNat ≤ 15 := by
  fin_cases h <;> exact ⟨by decide, by decide⟩

/-- A Command Word that names a command is taken where the Command Unit is IDLE (R183). -/
theorem takeCommand_idle (hc : code ≠ 0#8) (hform : w.isHighByte = true → loByte (copyAt v 0) = code)
    (hi : v.cu.state = .idle) :
    takeCommand (mergedCommand code w v) { takenState code w v with cu := v.cu } =
      runCommand code ((v.bpu.copy.drop 1).take 15) (takenState code w v) := by
  rw [takeCommand, mergedCommand_code hform, if_neg hc, commandArgs_taken]
  simp only [hi]
  rfl

/-- A Command Word that names a command is an overrun where the Command Unit is not IDLE (R183). -/
theorem takeCommand_busy (hc : code ≠ 0#8) (hform : w.isHighByte = true → loByte (copyAt v 0) = code)
    (hi : v.cu.state ≠ .idle) :
    takeCommand (mergedCommand code w v) { takenState code w v with cu := v.cu } =
      overrunCommand { takenState code w v with cu := v.cu } := by
  rw [takeCommand, mergedCommand_code hform, if_neg hc]
  split
  · next h => exact absurd h hi
  · rfl
  · rfl

/-- A command row's write on an open bus is taken. -/
theorem exec_commandRows_taken {p : Byte × (Tick → CmdWrite → Instr)} (hp : p ∈ commandRows) (ha : Arrives dt before s)
    (h : CycleReady s) :
    exec (p.2 dt w) before =
      .next (takeCommand (mergedCommand p.1 w s) { takenState p.1 w s with cu := s.cu }) := by
  rw [exec_commandRows hp, commandWrite_arrives p.1 w h ha]

/-- A command row in an IDLE Command Unit carries out its command (R183, R184). -/
theorem exec_commandRows_run {p : Byte × (Tick → CmdWrite → Instr)} (hp : p ∈ commandRows) (ha : Arrives dt before s)
    (h : CommandReady p.1 w s) :
    exec (p.2 dt w) before = .next (runCommand p.1 ((s.bpu.copy.drop 1).take 15) (takenState p.1 w s)) := by
  rw [exec_commandRows_taken hp ha h.cycle, takeCommand_idle (code_of_commandRows hp).1 h.form h.idle]

/-- Settles O30. -/
theorem commandsRunWhenIdle : Obligations.CommandsRunWhenIdle := by
  intro w v p hp h
  refine ⟨fun dt before ha => exec_commandRows_run hp ha h, ?_⟩
  rw [commandCycle_performed p.1 w h.cycle, takeCommand_idle (code_of_commandRows hp).1 h.form h.idle]

/-! ### The answers without an effect -/

/-- A code that Table 11-1 does not list is answered BAD_CODE (R184). -/
theorem runCommand_badCode (hc : 0x0F < code.toNat) (hn : s.passOnly = false) (args : List Word) :
    runCommand code args s = replyCommand .badCode [] s := by
  have hne : ∀ c : Byte, c.toNat ≤ 15 → code ≠ c := fun c h he => by rw [he] at hc; omega
  unfold runCommand
  rw [hn, if_neg Bool.false_ne_true, if_neg (hne codeLoadWindow (by decide)), if_neg (hne codeClearWindow (by decide)),
    if_neg (hne codeQueryWindow (by decide)), if_neg (hne codeLoadCompare (by decide)),
    if_neg (hne codeClearCompare (by decide)), if_neg (hne codeLoadAlias (by decide)),
    if_neg (hne codeClearAlias (by decide)), if_neg (hne codeSetRing (by decide)), if_neg (hne codeSetTiming (by decide)),
    if_neg (hne codeSetMargin (by decide)), if_neg (hne codeSetLinkEnable (by decide)),
    if_neg (hne codeForceCrossover (by decide)), if_neg (hne codeSnapshotNow (by decide)),
    if_neg (hne codeClearCounters (by decide)), if_neg (hne codeRestartLink (by decide))]

/-- Every command is answered PASS_ONLY in that mode (R184). -/
theorem runCommand_passOnly (h : s.passOnly = true) (args : List Word) :
    runCommand code args s = replyCommand .passOnly [] s := by rw [runCommand, h]; rfl

/-- A refused command is counted and raises CMD_OVERRUN (R183). -/
theorem overrunCommand_eq (s : State) : overrunCommand s = withCause .cmdOverrun
    { s with cu := { s.cu with overruns := min (s.cu.overruns + 1) 65535 } } := by
  rw [overrunCommand, raiseCause_eq]
  rfl

/-- Settles O31. -/
theorem commandAnswers : Obligations.CommandAnswers := by
  refine ⟨fun dt code w before s ha h hform => ?_, fun addr data lanes v h hl haddr hz => .of_cycle (fun _ _ _ => rfl) ?_⟩
  · intro u reply counted
    have hunknown : exec (.unknownCommand dt code w) before =
        .next (takeCommand (mergedCommand code w s) { takenState code w s with cu := s.cu }) := by
      rw [← commandWrite_arrives code w h ha]
      rfl
    have hzero : 0x0F < code.toNat → code ≠ 0#8 := by
      rintro hc rfl
      exact absurd hc (by decide)
    have hreply : ∀ r, replyCommand r [] u = reply (resultByte r) := fun _ => rfl
    have hidle : s.cu.state = .idle → code ≠ 0#8 →
        takeCommand (mergedCommand code w s) { takenState code w s with cu := s.cu } =
          runCommand code ((s.bpu.copy.drop 1).take 15) u := fun hi hc => takeCommand_idle hc hform hi
    have hbusy : s.cu.state ≠ .idle → code ≠ 0#8 →
        takeCommand (mergedCommand code w s) { takenState code w s with cu := s.cu } = counted := fun hi hc => by
      rw [takeCommand_busy hc hform hi, overrunCommand_eq]
    refine ⟨fun hi hn hc => ?_, fun hi hp => ⟨fun hc => ?_, fun row hrow => ?_⟩, fun hi => ⟨fun hc => ?_, fun row hrow => ?_⟩⟩
    · rw [hunknown, hidle hi (hzero hc), runCommand_badCode (s := u) hc hn, hreply]
      rfl
    · rw [hunknown, hidle hi (hzero hc), runCommand_passOnly (s := u) hp, hreply]
      rfl
    · rw [exec_commandRows_taken hrow ha h, hidle hi (code_of_commandRows hrow).1, runCommand_passOnly (s := u) hp, hreply]
      rfl
    · rw [hunknown, hbusy hi (hzero hc)]
    · rw [exec_commandRows_taken hrow ha h, hbusy hi (code_of_commandRows hrow).1]
  · have hpage : performCycle (writeCycle addr data lanes) v = performCycle (writeCycle (pageBusAddr v 0) data lanes) v := by
      rw [performCycle_writeCycle, performCycle_writeCycle, haddr, wordAddr_pageBusAddr h.page (by decide)]
    rw [hpage, performCycle_word (p := 0) h hl (by decide) rfl rfl rfl]
    exact if_pos hz

/-! ### Constants -/

/-- A timing constant as the command gives it (Table 5-3). -/
theorem timingValue_eq {lo hi : Nat} (h : lo ≤ hi) (old : Nat) (v : Word) :
    timingValue old v lo hi =
      (if v = 0xFFFF#16 then old else if v.toNat < lo then lo else if hi < v.toNat then hi else v.toNat,
        decide ¬(v = 0xFFFF#16 ∨ (lo ≤ v.toNat ∧ v.toNat ≤ hi))) := by
  unfold timingValue
  split
  · next he => simp [he]
  · next he =>
    simp only [he, false_or, Prod.mk.injEq]
    refine ⟨?_, ?_⟩
    · repeat' split
      all_goals omega
    · rw [← Bool.decide_or]
      exact decide_eq_decide.mpr (by omega)

theorem runCommand_setTiming (h : s.passOnly = false) (args : List Word) :
    runCommand codeSetTiming args s = replyWith (setTiming args s) := by rw [runCommand, h]; rfl

theorem runCommand_setMargin (h : s.passOnly = false) (args : List Word) :
    runCommand codeSetMargin args s = replyWith (setMargin args s) := by rw [runCommand, h]; rfl

/-- Settles O32. -/
theorem timingAndMargin : Obligations.TimingAndMargin := by
  intro dt w before s ha range value
  refine ⟨fun h => ?_, fun h => ?_⟩
  · intro u v k set inRange
    have hx : exec (.setTiming dt w) before = _ := exec_commandRows_run (p := (codeSetTiming, .setTiming)) (by simp [commandRows]) ha h
    have he : setTiming ((s.bpu.copy.drop 1).take 15) u = (set, if inRange then .done else .doneClamped) := by
      simp only [setTiming, argWord_copy s (by decide : 1 ≤ 1) (by decide), argWord_copy s (by decide : 1 ≤ 2) (by decide),
        argWord_copy s (by decide : 1 ≤ 3) (by decide), argWord_copy s (by decide : 1 ≤ 4) (by decide),
        argWord_copy s (by decide : 1 ≤ 5) (by decide), timingValue_eq (by decide : 0 ≤ 4000),
        timingValue_eq (by decide : 100 ≤ 1000), timingValue_eq (by decide : 100 ≤ 2000),
        timingValue_eq (by decide : 8 ≤ 1000)]
      have hb : (decide ¬range (v 1) 0 4000 || decide ¬range (v 2) 100 1000 || decide ¬range (v 3) 100 2000 ||
          decide ¬range (v 4) 0 4000 || decide ¬range (v 5) 8 1000) = decide ¬inRange := by
        simp only [inRange, not_and_or, Bool.decide_or, Bool.or_assoc]
      refine Prod.ext rfl ((congrArg (fun b => if b = true then ResultCode.doneClamped else .done) hb).trans ?_)
      by_cases hr : inRange <;> simp [hr]
    rw [hx, runCommand_setTiming (s := u) h.normal, show setTiming _ _ = _ from he]
    exact ⟨fun hr => by rw [if_pos hr]; rfl, fun hr => by rw [if_neg hr]; rfl⟩
  · intro u m
    have hx : exec (.setMargin dt w) before = _ := exec_commandRows_run (p := (codeSetMargin, .setMargin)) (by simp [commandRows]) ha h
    rw [hx, runCommand_setMargin (s := u) h.normal, setMargin, argNat_copy s (by decide) (by decide)]
    refine ⟨fun hm => ?_, fun hm => ?_⟩
    · have h1 : min 31 (copyAt s 1).toNat = m := by omega
      have h2 : ¬31 < (copyAt s 1).toNat := by omega
      rw [h1, if_neg h2]
      rfl
    · have h1 : min 31 (copyAt s 1).toNat = 31 := by omega
      rw [h1, if_pos hm]
      rfl

end Sys2Proof.Machine
end

section
/-! SUPPORT. The commands that load the aliases, clear the counters or set the ring. -/

-- One proof is checked after another: each worker thread of Lean reserves memory of its own.
set_option Elab.async false

namespace Sys2Proof.Machine

variable {s t v u : State} {w : CmdWrite} {dt : Tick} {before : State}

/-! ### Aliases -/

theorem runCommand_loadAlias (h : s.passOnly = false) (args : List Word) :
    runCommand codeLoadAlias args s = replyWith (loadGroup .localLoad args s) := by rw [runCommand, h]; rfl

theorem runCommand_clearAlias (h : s.passOnly = false) (args : List Word) :
    runCommand codeClearAlias args s = replyWith (clearGroup args s) := by rw [runCommand, h]; rfl

/-- Settles O33. -/
theorem aliasCommands : Obligations.AliasCommands := by
  intro dt w before s ha i address mask
  have h1 : argNat ((s.bpu.copy.drop 1).take 15) 1 = i := argNat_copy s (by decide) (by decide)
  refine ⟨fun h => ?_, fun h => ?_⟩
  · intro u put bad
    have hx : exec (.loadAlias dt w) before = .next (replyWith (loadGroup .localLoad ((s.bpu.copy.drop 1).take 15) u)) := by
      rw [← runCommand_loadAlias (s := u) h.normal]
      exact exec_commandRows_run (p := (codeLoadAlias, .loadAlias)) (by simp [commandRows]) ha h
    have hmask : argWord ((s.bpu.copy.drop 1).take 15) 3 = mask := argWord_copy s (by decide) (by decide)
    have hbad : BadGroup ((s.bpu.copy.drop 1).take 15) ↔ bad := by
      rw [BadGroup, hmask, argNat_copy s (by decide) (by decide)]
    have hdone : i ≤ 5 → ¬bad → loadGroup .localLoad ((s.bpu.copy.drop 1).take 15) u =
        (put (if mask = 0#16 then none else some ⟨.localLoad, address, mask.setWidth 7⟩), .done) := fun hi hb => by
      rw [loadGroup_done (origin := .localLoad) (h1.le.trans hi) (mt hbad.mp hb) nofun, h1, hmask, argNat_copy s (by decide) (by decide)]
      rfl
    rw [hx]
    refine ⟨fun hi => ?_, fun hi hb => ?_, fun hi hb hm => ?_, fun hi hb hm => ?_⟩
    · rw [loadGroup_badIndex (h1 ▸ hi)]
      rfl
    · rw [loadGroup_badField (h1.le.trans hi) (hbad.mpr hb)]
      rfl
    · rw [hdone hi hb, if_pos hm]
      rfl
    · rw [hdone hi hb, if_neg hm]
      rfl
  · intro u
    have hx : exec (.clearAlias dt w) before = .next (replyWith (clearGroup ((s.bpu.copy.drop 1).take 15) u)) := by
      rw [← runCommand_clearAlias (s := u) h.normal]
      exact exec_commandRows_run (p := (codeClearAlias, .clearAlias)) (by simp [commandRows]) ha h
    rw [hx, clearGroup, h1]
    refine ⟨fun hi => by rw [if_pos hi]; rfl, fun hi => by rw [if_neg (Nat.not_lt.mpr hi)]; rfl⟩

/-! ### The counters -/

theorem runCommand_clearCounters (h : s.passOnly = false) (args : List Word) :
    runCommand codeClearCounters args s = replyCommand .done [] (zeroCounters s) := by rw [runCommand, h]; rfl

/-- Words 21 to 43 of the Status Block are the counters (Table 11-5). -/
theorem statusWord_counter (s : State) {k : Nat} (h : 21 ≤ k) (h' : k ≤ 43) :
    statusWord s k = word ((counterList s).getD (k - 21) 0) := by
  interval_cases k <;> rfl

/-- Settles O41. -/
theorem countersCleared : Obligations.CountersCleared := by
  intro dt w before s ha h u
  have hx : exec (.clearCounters dt w) before = .next (replyCommand .done [] (zeroCounters u)) := by
    rw [← runCommand_clearCounters (s := u) h.normal ((s.bpu.copy.drop 1).take 15)]
    exact exec_commandRows_run (p := (codeClearCounters, .clearCounters)) (by simp [commandRows]) ha h
  have hlist : counterList (zeroCounters u) = List.replicate 23 0 := rfl
  refine ⟨zeroCounters u, hx, hlist, rfl, fun k hk hk' => ?_, rfl, rfl, rfl, rfl, rfl, rfl, rfl, rfl, rfl, rfl, rfl, rfl, rfl,
    rfl, rfl, rfl, rfl, rfl, rfl, rfl, rfl, rfl, rfl, rfl⟩
  rw [statusWord_counter _ hk hk', hlist]
  rw [List.getD_eq_getElem?_getD, List.getElem?_replicate]
  split <;> rfl

/-! ### The ring -/

theorem runCommand_setRing (h : s.passOnly = false) (args : List Word) :
    runCommand codeSetRing args s = setRing args s := by rw [runCommand, h]; rfl

theorem rangesMeet_iff (a n b m : Nat) : rangesMeet a n b m = true ↔ a < b + m ∧ b < a + n := by
  simp [rangesMeet]

theorem meetsEntry_iff (s : State) (skip : Option Nat) (a n : Nat) : meetsEntry s skip a n = true ↔
    ∃ j < 16, skip ≠ some j ∧ ∃ x, entryAt s j = some x ∧ a < x.base + 2 * x.length ∧ x.base < a + n := by
  simp only [meetsEntry, List.any_eq_true, List.mem_range, Bool.and_eq_true, decide_eq_true_eq]
  refine exists_congr fun j => and_congr_right fun _ => and_congr_right fun _ => ?_
  cases entryAt s j <;> simp [rangesMeet_iff]

/-- A ring that begins has free slots, and drops nothing (R161, R162). -/
theorem dropStaleInfo_newRing {base slots : Nat} (h : 4 ≤ slots) (hr : s.mae.ring = some ⟨base, slots, 0, 0, 0⟩) :
    dropStaleInfo s = s := by
  have hfree : (0 + 1) % slots ≠ 0 := by rw [Nat.mod_eq_of_lt (by omega)]; decide
  rw [dropStaleInfo_eq hr]
  exact if_pos (.inl hfree)

/-- The checks of SET RING in their order, and the ring it begins (R161). -/
theorem installRing_badField {base slots : Nat} (h0 : slots ≠ 0)
    (hb : slots < 4 ∨ 64 < slots ∨ base % 2 = 1 ∨ 1048576 < base + 64 * slots) (s : State) :
    installRing base slots s = (s, .badField) := by rw [installRing, if_neg h0]; exact if_pos hb

theorem installRing_checked {base slots : Nat}
    (hb : ¬(slots < 4 ∨ 64 < slots ∨ base % 2 = 1 ∨ 1048576 < base + 64 * slots)) (s : State) :
    installRing base slots s =
      if (meetsEntry s none base (64 * slots) || meetsPage s base (64 * slots)) = true then (s, .overlap)
      else ({ s with
        mae.ring := some ⟨base, slots, 0, 0, 0⟩, mae.unpublished := none, mae.publication := true }, .done) := by
  have h4 : 4 ≤ slots := by omega
  have hram : Config.ramBytes = 1048576 := rfl
  rw [installRing, if_neg (by omega : slots ≠ 0), hram, if_neg hb, dropStaleInfo_newRing h4 (by rfl)]

/-- Settles O42. -/
theorem ringConfigured : Obligations.RingConfigured := by
  refine ⟨fun y z hy hz => ?_, fun c u base slots before s hc => ?_⟩
  · have he : exec .setRingWaitEnd y = .next (endRingWait (elapse 0#32 y)) := rfl
    rw [he, hy] at hz
    rw [settle, Host.Outcome.next.inj hz]
  have hset : ∀ dt w, Arrives dt before s → CommandReady codeSetRing w s →
      exec (.setRing dt w) before = .next (setRing ((s.bpu.copy.drop 1).take 15) (takenState codeSetRing w s)) :=
    fun dt w ha h => by
      rw [← runCommand_setRing (s := takenState codeSetRing w s) h.normal]
      exact exec_commandRows_run (p := (codeSetRing, .setRing)) (by simp [commandRows]) ha h
  have hargs : argAddr ((s.bpu.copy.drop 1).take 15) 1 = (copyAt s 1).toNat + 65536 * ((copyAt s 2).toNat % 16) := by
    rw [argAddr, argNat_copy s (by decide) (by decide), argNat_copy s (by decide) (by decide)]
  have hslots : argNat ((s.bpu.copy.drop 1).take 15) 3 = (copyAt s 3).toNat := argNat_copy s (by decide) (by decide)
  refine ⟨fun hbusy => ⟨fun he => ?_, fun dt w he => ?_⟩, fun hfree => ?_⟩
  · subst he
    obtain ⟨dt, w, he, -⟩ | ⟨-, rfl, -, -⟩ := hc
    · cases he
    · exact congrArg _ (endRingWait_of_busy hbusy)
  · subst he
    obtain ⟨dt', w', he, ha, h, rfl, rfl, rfl⟩ | ⟨he, -⟩ := hc
    · cases he
      have hb : anyRingJob (takenState codeSetRing w s).mae = true := hbusy
      rw [hset dt w ha h, setRing, hargs, hslots, hb]
      rfl
    · cases he
  · have hexec : exec c before = .next (replyWith (installRing base slots u)) := by
      obtain ⟨dt, w, rfl, ha, h, rfl, rfl, rfl⟩ | ⟨rfl, rfl, rfl, code, tag, hw⟩ := hc
      · have hb : anyRingJob (takenState codeSetRing w s).mae = false := hfree
        rw [hset dt w ha h, setRing, hargs, hslots, hb]
        rfl
      · show Host.Outcome.next (endRingWait _) = _
        rw [endRingWait, hw]
        simp only [hfree, Bool.false_eq_true, if_false]
    have hmae : u.mae = s.mae := by
      obtain ⟨_, _, _, _, _, rfl, _⟩ | ⟨_, _, rfl, _⟩ := hc <;> rfl
    have hentry : ∀ j, entryAt u j = entryAt s j := by
      obtain ⟨_, _, _, _, _, rfl, _⟩ | ⟨_, _, rfl, _⟩ := hc <;> exact fun _ => rfl
    have hbase : u.bpu.base = s.bpu.base := by
      obtain ⟨_, _, _, _, _, rfl, _⟩ | ⟨_, _, rfl, _⟩ := hc <;> rfl
    intro bad meets overlap
    have hoverlap : (meetsEntry u none base (64 * slots) || meetsPage u base (64 * slots)) = true ↔ overlap := by
      rw [Bool.or_eq_true, meetsEntry_iff, meetsPage, rangesMeet_iff, hbase]
      simp only [hentry, overlap, meets, ne_eq, reduceCtorEq, not_false_eq_true, true_and]
    rw [hexec]
    refine ⟨fun h0 => ?_, fun h0 hb => ?_, fun hb ho => ?_, fun hb ho => ?_⟩
    · rw [h0, installRing, if_pos rfl, hmae]
      rfl
    · rw [installRing_badField h0 hb]
      rfl
    · rw [installRing_checked hb, if_pos (hoverlap.mpr ho)]
      rfl
    · rw [installRing_checked hb, if_neg (mt hoverlap.mp ho), hmae]
      rfl

end Sys2Proof.Machine
end

section
/-! SUPPORT. What a clear takes with it: compare rules with their flags, and the jobs of a window. -/

-- One proof is checked after another: each worker thread of Lean reserves memory of its own.
set_option Elab.async false

namespace Sys2Proof.Machine

variable {s t u : State}

/-! ### Condition Flags -/

/-- A write of one flag leaves the others alone. -/
theorem conditionFlag_set {f : Nat} (hf : f < 8) (flags : BitVec 8) (g : Nat) (v : Bool) :
    conditionFlag (setConditionFlag flags g v) f = if f = g then v else conditionFlag flags f := by
  by_cases h : f = g
  · subst h
    rw [if_pos rfl, conditionFlag_setConditionFlag hf]
  · have hbit : (1#8 <<< g).getLsbD f = false := by
      rw [BitVec.getLsbD_shiftLeft]
      by_cases hlt : f < g
      · simp [hlt]
      · have : f - g ≠ 0 := by omega
        simp [this]
    rw [if_neg h, conditionFlag, setConditionFlag]
    generalize 1#8 <<< g = bit at hbit
    cases v <;> simp [hf, hbit, conditionFlag, -BitVec.getLsbD_eq_getElem]

/-! ### Rules cleared together -/

/-- The rules left of a list by a clear of those that meet `p`. -/
def rulesLeft (p : Rule → Bool) (rules : List (Option Rule)) : List (Option Rule) :=
  rules.map fun r => r.filter fun x => !p x

/-- Some rule of the list that meets `p` has the target `f`. -/
def clearsFlag (p : Rule → Bool) (f : Nat) (rules : List (Option Rule)) : Bool :=
  rules.any fun r => r.any fun x => p x && decide (x.target = f)

/-- The state after a clear of the rules that meet `p`: they are gone, their flags false, and nothing else is changed
(R41). -/
def RulesCleared (p : Rule → Bool) (s t : State) : Prop :=
  ∃ flags, t = { s with ftu := { s.ftu with rules := rulesLeft p s.ftu.rules, flags := flags } } ∧
    ∀ f < 8, conditionFlag flags f = (conditionFlag s.ftu.flags f && !clearsFlag p f s.ftu.rules)

/-- The first `n` places of the rule table are cleared of the rules that meet `p`. -/
theorem clearRulesWhere_upTo (p : Rule → Bool) (s : State) {n : Nat} (hn : n ≤ s.ftu.rules.length) :
    ∃ flags, (List.range n).foldl (fun s i => match ruleAt s i with
        | some r => if p r then clearRule s i else s
        | none => s) s =
      { s with ftu := { s.ftu with
        rules := rulesLeft p (s.ftu.rules.take n) ++ s.ftu.rules.drop n, flags := flags } } ∧
      ∀ f < 8, conditionFlag flags f = (conditionFlag s.ftu.flags f && !clearsFlag p f (s.ftu.rules.take n)) := by
  induction n with
  | zero => exact ⟨s.ftu.flags, by simp [rulesLeft], by simp [clearsFlag]⟩
  | succ n ih =>
    obtain ⟨flags, hfold, hflags⟩ := ih (by omega)
    rw [List.range_succ, List.foldl_append, hfold]
    have hlt : n < s.ftu.rules.length := by omega
    have hlen : (rulesLeft p (s.ftu.rules.take n)).length = n := by simp [rulesLeft]; omega
    have hleft : rulesLeft p (s.ftu.rules.take (n + 1)) =
        rulesLeft p (s.ftu.rules.take n) ++ [s.ftu.rules[n].filter fun x => !p x] := by
      rw [List.take_succ_eq_append_getElem hlt, rulesLeft, List.map_append]
      rfl
    have hany : ∀ f, clearsFlag p f (s.ftu.rules.take (n + 1)) =
        (clearsFlag p f (s.ftu.rules.take n) || s.ftu.rules[n].any fun x => p x && decide (x.target = f)) := fun f => by
      rw [List.take_succ_eq_append_getElem hlt, clearsFlag, List.any_append, List.any_cons, List.any_nil, Bool.or_false]
      rfl
    simp only [hleft, hany]
    rw [List.drop_eq_getElem_cons hlt]
    generalize s.ftu.rules[n] = o
    generalize rulesLeft p (s.ftu.rules.take n) = front at hlen
    generalize s.ftu.rules.drop (n + 1) = rest
    have hget : (front ++ o :: rest).getD n none = o := by simp [← hlen]
    have hset : (front ++ o :: rest).set n none = front ++ none :: rest := by simp [← hlen]
    simp only [List.foldl_cons, List.foldl_nil, ruleAt, hget]
    cases o with
    | none => exact ⟨flags, by simp, fun f hf => by simp [hflags f hf]⟩
    | some r =>
      cases hp : p r with
      | false => exact ⟨flags, by simp [hp, Option.filter], fun f hf => by simp [hflags f hf, hp]⟩
      | true =>
        refine ⟨setConditionFlag flags r.target false, ?_, fun f hf => ?_⟩
        · simp only [clearRule, ruleAt, hget, hset]
          simp [hp, Option.filter]
        · rw [conditionFlag_set hf, hflags f hf]
          by_cases ht : f = r.target <;> simp [ht, hp, eq_comm]

theorem clearRulesWhere_cleared (p : Rule → Bool) (h : s.ftu.rules.length = 8) : RulesCleared p s (clearRulesWhere p s) := by
  obtain ⟨flags, hfold, hflags⟩ := clearRulesWhere_upTo p s (n := 8) h.ge
  rw [List.take_of_length_le h.le] at hflags hfold
  rw [List.drop_of_length_le h.le, List.append_nil] at hfold
  exact ⟨flags, hfold, hflags⟩

theorem getD_rulesLeft (p : Rule → Bool) (rules : List (Option Rule)) (k : Nat) :
    (rulesLeft p rules).getD k none = (rules.getD k none).filter fun r => !p r := by
  simp only [rulesLeft, List.getD_eq_getElem?_getD, List.getElem?_map]
  cases rules[k]? <;> rfl

theorem clearsFlag_eq {p : Rule → Prop} [DecidablePred p] (f : Nat) (rules : List (Option Rule)) :
    clearsFlag (fun r => decide (p r)) f rules = rules.any fun r => r.any fun x => decide (p x ∧ x.target = f) := by
  simp only [clearsFlag, Bool.decide_and]

/-! ### Jobs abandoned -/

/-- What an abandonment does, all of it. The notes of waiting jobs change only where the stack is full or the running job
goes (log 38), and the Pass-Over Count only where the running job goes (R12, log 24). -/
theorem abandonWork_spec (p : Work → Bool) (s : State) : ∃ waits mirrorWaits passOver,
    abandonWork p s = { s with
      bpu.passOver := passOver
      mae := { s.mae with
        running := s.mae.running.filter fun j => !p j.work
        stack := s.mae.stack.filter fun j => !p j.work
        waits := waits
        mirrorWaits := mirrorWaits } } ∧
    (s.mae.running.filter (fun j => !p j.work) = s.mae.running → passOver = s.bpu.passOver ∧
      (s.mae.stack.length < 2 → waits = s.mae.waits ∧ mirrorWaits = s.mae.mirrorWaits)) := by
  obtain ⟨w, m, n, hn, h⟩ := abandonWork_eq p s
  refine ⟨w, m, n, h, fun hk => ?_⟩
  have hany : s.mae.running.any (fun j => p j.work) = false := by
    cases hr : s.mae.running with
    | none => rfl
    | some j =>
      cases hj : p j.work
      · simp [hj]
      · simp [hr, hj, Option.filter] at hk
  refine ⟨hn.resolve_right fun hx => by simp [hany] at hx, fun hl => ?_⟩
  have hkept : (abandonWork p s).mae.waits = s.mae.waits ∧ (abandonWork p s).mae.mirrorWaits = s.mae.mirrorWaits := by
    simp [abandonWork, noteWaits_room hl, hany]
  rw [h] at hkept
  exact hkept

/-! ### A clear of one window -/

theorem withdrawOf_eq (i : Nat) : withdrawOf i = fun r => if r.window ≠ some i then some r
    else if r.state = .onAir then some { r with detached := true, window := none } else none := by
  funext r
  simp [withdrawOf, Record.isOnAir, detach]

theorem isPrimeOf_eq (i : Nat) : Work.isPrimeOf i = fun k => decide (k = .prime i) := by
  funext k
  cases k <;> simp [Work.isPrimeOf]

variable {i : Nat} {e : Entry}

/-- A clear of an empty place does nothing. -/
theorem clearEntry_of_none (h : entryAt s i = none) : clearEntry i s = s := by rw [clearEntry, h]

/-- A clear of a CAPTURE window, all of it (R24, R25, R27). -/
theorem clearEntry_capture {c : Capture} (he : entryAt s i = some e) (hb : e.body = .capture c)
    (hr : s.ftu.rules.length = 8) : ∃ flags waits mirrorWaits passOver,
    clearEntry i s = { s with
      wt := s.wt.set i none
      uq.records := s.uq.records.filterMap (withdrawOf i)
      ftu := { s.ftu with rules := rulesLeft (fun r => decide (r.window = i)) s.ftu.rules, flags := flags }
      bpu.passOver := passOver
      mae := { s.mae with
        primeList := s.mae.primeList.filter fun k => decide (k ≠ i)
        running := s.mae.running.filter fun j => !decide (j.work = .prime i)
        stack := s.mae.stack.filter fun j => !decide (j.work = .prime i)
        waits := waits
        mirrorWaits := mirrorWaits } } ∧
    (∀ f < 8, conditionFlag flags f = (conditionFlag s.ftu.flags f &&
      !clearsFlag (fun r => decide (r.window = i)) f s.ftu.rules)) ∧
    (s.mae.running.filter (fun j => !decide (j.work = .prime i)) = s.mae.running → passOver = s.bpu.passOver ∧
      (s.mae.stack.length < 2 → waits = s.mae.waits ∧ mirrorWaits = s.mae.mirrorWaits)) := by
  obtain ⟨flags, hrules, hflags⟩ := clearRulesWhere_cleared (s := withdrawWindow i s) (fun r => decide (r.window = i)) hr
  obtain ⟨w, m, n, hjobs, hkept⟩ := abandonWork_spec (Work.isPrimeOf i) { s with
    uq.records := s.uq.records.filterMap (withdrawOf i)
    ftu := { s.ftu with rules := rulesLeft (fun r => decide (r.window = i)) s.ftu.rules, flags := flags }
    mae.primeList := s.mae.primeList.filter fun k => decide (k ≠ i) }
  refine ⟨flags, w, m, n, ?_, hflags, ?_⟩
  · rw [clearEntry, he]
    simp only [hb]
    rw [hrules, dropPrime]
    have hw : withdrawWindow i s = { s with uq.records := s.uq.records.filterMap (withdrawOf i) } := rfl
    rw [hw, hjobs, isPrimeOf_eq]
    rfl
  · rw [isPrimeOf_eq] at hkept
    exact hkept

/-- A clear of a MIRROR window, all of it (R26). -/
theorem clearEntry_mirror {m : Mirror} (he : entryAt s i = some e) (hb : e.body = .mirror m) :
    ∃ waits mirrorWaits passOver,
    clearEntry i s = { s with
      wt := s.wt.set i none
      bpu.passOver := passOver
      mae := { s.mae with
        mirrorList := s.mae.mirrorList.filter fun j => decide (j.index ≠ i)
        running := s.mae.running.filter fun j => !j.work.isMirrorOf i
        stack := s.mae.stack.filter fun j => !j.work.isMirrorOf i
        waits := waits
        mirrorWaits := mirrorWaits } } ∧
    (s.mae.running.filter (fun j => !j.work.isMirrorOf i) = s.mae.running → passOver = s.bpu.passOver ∧
      (s.mae.stack.length < 2 → waits = s.mae.waits ∧ (s.mae.mirrorWaits = 0 → mirrorWaits = 0))) := by
  obtain ⟨w, k, n, hjobs, hkept⟩ := abandonWork_spec (Work.isMirrorOf i) { s with
    mae.mirrorList := s.mae.mirrorList.filter fun j => decide (j.index ≠ i)
    mae.mirrorWaits := ((s.mae.mirrorList.take s.mae.mirrorWaits).filter fun j => decide (j.index ≠ i)).length }
  refine ⟨w, k, n, ?_, fun hk => (hkept hk).imp id fun h hl => ⟨(h hl).1, fun h0 => (h hl).2.trans (by rw [h0]; rfl)⟩⟩
  rw [clearEntry, he]
  simp only [hb]
  rw [dropMirror, hjobs]
  rfl

theorem runCommand_clearWindow (h : s.passOnly = false) (args : List Word) :
    runCommand codeClearWindow args s = replyWith (clearWindow .localLoad args s) := by rw [runCommand, h]; rfl

/-- The head-end's limits do not touch a LOCAL load or clear (R20). -/
theorem ownedAgainst_local (holder : Option Origin) : ownedAgainst .localLoad holder = false := rfl

/-- Settles O36. -/
theorem clearWindowEmpties : Obligations.ClearWindowEmpties := by
  intro dt w before s ha h _
  have hx : exec (.clearWindow dt w) before = .next (replyWith (clearWindow .localLoad ((s.bpu.copy.drop 1).take 15)
      (takenState codeClearWindow w s))) := by
    rw [← runCommand_clearWindow (s := takenState codeClearWindow w s) h.normal]
    exact exec_commandRows_run (p := (codeClearWindow, .clearWindow)) (by simp [commandRows]) ha h
  rw [hx, clearWindow, argNat_copy s (by decide) (by decide), ownedAgainst_local]
  refine ⟨fun hi => by rw [if_pos hi]; rfl, fun hi => by rw [if_neg (Nat.not_lt.mpr hi)]; rfl,
    fun i hi u hw hr => ?_⟩
  intro t kept
  have hclear : t = clearEntry i u := rfl
  clear_value t
  cases he : entryAt u i with
  | none =>
    have ht : t = u := hclear.trans (clearEntry_of_none he)
    have hc : captureAt u i = none := by simp [captureAt, he]
    have hm : mirrorAt u i = none := by simp [mirrorAt, he]
    rw [ht, hc, hm]
    exact ⟨fun _ => rfl, nofun, nofun, rfl, fun _ => ⟨rfl, fun _ => ⟨rfl, fun _ => rfl⟩⟩, rfl, rfl, rfl, rfl, rfl, rfl, rfl, rfl⟩
  | some e =>
    cases hb : e.body with
    | capture c =>
      obtain ⟨flags, waits, mw, n, ht, hflags, hkept⟩ := clearEntry_capture he hb hr
      have hm : mirrorAt u i = none := by simp [mirrorAt, he, hb]
      rw [ht] at hclear
      subst hclear
      rw [hm]
      refine ⟨nofun, fun _ => ⟨rfl, ?_, fun k _ => ?_, fun f hf => ?_, rfl, rfl⟩, nofun, rfl, fun hk => ?_, rfl, rfl,
        rfl, rfl, rfl, rfl, rfl, rfl⟩
      · rw [withdrawOf_eq]
      · refine (getD_rulesLeft _ _ k).trans ?_
        simp only [decide_not]
        rfl
      · exact (hflags f hf).trans (by rw [clearsFlag_eq])
      · exact (hkept hk).imp id fun h hl => ⟨(h hl).1, fun _ => (h hl).2⟩
    | mirror m =>
      obtain ⟨waits, mw, n, ht, hkept⟩ := clearEntry_mirror he hb
      have hc : captureAt u i = none := by simp [captureAt, he, hb]
      have hm : mirrorAt u i = some m := by simp [mirrorAt, he, hb]
      rw [ht] at hclear
      subst hclear
      rw [hc, hm]
      refine ⟨nofun, nofun, fun _ => ⟨rfl, rfl, rfl, rfl⟩, rfl, fun hk => ?_, rfl, rfl, rfl, rfl, rfl, rfl, rfl, rfl⟩
      · exact (hkept hk).imp id fun h hl => ⟨(h hl).1, nofun⟩

end Sys2Proof.Machine
end

section
/-! SUPPORT. LOAD WINDOW: the fields its arguments can name, its checks in their order, and the entry it places. -/

-- One proof is checked after another: each worker thread of Lean reserves memory of its own.
set_option Elab.async false

namespace Sys2Proof.Machine

variable {s t u : State} {i : Nat} {e : Entry} {w : CmdWrite} {dt : Tick} {before : State}

/-! ### The fields -/

theorem byte_eq_iff (b : Byte) {n : Nat} (h : n < 256) : b = BitVec.ofNat 8 n ↔ b.toNat = n := by
  rw [← BitVec.toNat_inj, BitVec.toNat_ofNat, Nat.mod_eq_of_lt h]

/-- The mode fields of Table 2-2 that name no trigger for a window of this length. -/
abbrev BadMode (length mode param : Nat) : Prop :=
  4 < mode ∨ ((mode = 1 ∨ mode = 2) ∧ length ≤ param) ∨ (mode = 3 ∧ (param = 0 ∨ 64 < param)) ∨ (mode = 4 ∧ 7 < param)

/-- The trigger that good mode fields name. -/
def modeNamed (mode param : Nat) : TriggerMode :=
  if mode = 0 then .last else if mode = 1 then .word param else if mode = 2 then .after param
  else if mode = 3 then .period param else .rise param

theorem modeOfFields_eq (length : Nat) (mode param : Byte) : modeOfFields length mode param =
    if BadMode length mode.toNat param.toNat then none else some (modeNamed mode.toNat param.toNat) := by
  simp only [modeOfFields, byte_eq_iff mode (by decide : 0 < 256), byte_eq_iff mode (by decide : 1 < 256),
    byte_eq_iff mode (by decide : 2 < 256), byte_eq_iff mode (by decide : 3 < 256), byte_eq_iff mode (by decide : 4 < 256)]
  generalize mode.toNat = m
  generalize param.toNat = p
  unfold BadMode modeNamed
  grind

theorem gateOfFields_eq (flag sense : Byte) : gateOfFields flag sense =
    if 2 < sense.toNat ∨ (sense.toNat ≠ 0 ∧ 7 < flag.toNat) then none
    else some (if sense.toNat = 0 then none else some ⟨flag.toNat, decide (sense.toNat = 1)⟩) := by
  simp only [gateOfFields, byte_eq_iff sense (by decide : 0 < 256), byte_eq_iff sense (by decide : 1 < 256),
    byte_eq_iff sense (by decide : 2 < 256)]
  generalize sense.toNat = m
  grind

theorem escalateOfFields_eq (flag on : Byte) : escalateOfFields flag on =
    if 1 < on.toNat ∨ (on.toNat = 1 ∧ 7 < flag.toNat) then none
    else some (if on.toNat = 0 then none else some flag.toNat) := by
  simp only [escalateOfFields, byte_eq_iff on (by decide : 0 < 256), byte_eq_iff on (by decide : 1 < 256)]
  generalize on.toNat = m
  grind

theorem classOfCode_eq (b : Byte) : classOfCode b = if 2 < b.toNat then none
    else some (if b.toNat = 0 then .urgent else if b.toNat = 1 then .routine else .bulk) := by
  simp only [classOfCode, byte_eq_iff b (by decide : 0 < 256), byte_eq_iff b (by decide : 1 < 256),
    byte_eq_iff b (by decide : 2 < 256)]
  generalize b.toNat = m
  grind

theorem boolOfCode_eq (b : Byte) : boolOfCode b = if 1 < b.toNat then none else some (decide (b.toNat = 1)) := by
  simp only [boolOfCode, byte_eq_iff b (by decide : 0 < 256), byte_eq_iff b (by decide : 1 < 256)]
  generalize b.toNat = m
  by_cases h0 : m = 0
  · simp [h0]
  by_cases h1 : m = 1
  · simp [h1]
  · have h2 : 1 < m := by omega
    simp [h0, h1, h2]

theorem modeNamed_isPeriod {mode param : Nat} : (modeNamed mode param).isPeriod = decide (mode = 3) := by
  unfold modeNamed
  split_ifs <;> simp_all [TriggerMode.isPeriod]

section
variable {args : List Word}

/-- The low and high byte of an argument word as numbers. -/
def argLow (args : List Word) (n : Nat) : Nat := (loByte (argWord args n)).toNat
def argHigh (args : List Word) (n : Nat) : Nat := (hiByte (argWord args n)).toNat

/-- The CAPTURE fields that a load refuses (R19, Table 2-2). -/
abbrev BadCapture (length : Nat) (args : List Word) : Prop :=
  BadMode length (argLow args 5) (argHigh args 5) ∨ (2 < argHigh args 6 ∨ (argHigh args 6 ≠ 0 ∧ 7 < argLow args 6)) ∨
    (1 < argHigh args 7 ∨ (argHigh args 7 = 1 ∧ 7 < argLow args 7)) ∨ 2 < argLow args 8 ∨ 1 < argHigh args 8 ∨
    (argHigh args 8 = 1 ∧ argLow args 5 ≠ 3)

/-- The CAPTURE fields of a good load (Table 2-2). -/
def captureNamed (length : Nat) (args : List Word) : Capture :=
  { state := .loading
    mode := modeNamed (argLow args 5) (argHigh args 5)
    changedOnly := decide (argHigh args 8 = 1)
    gate := if argHigh args 6 = 0 then none else some ⟨argLow args 6, decide (argHigh args 6 = 1)⟩
    escalate := if argHigh args 7 = 0 then none else some (argLow args 7)
    cls := if argLow args 8 = 0 then .urgent else if argLow args 8 = 1 then .routine else .bulk
    seq := 0#8, dirty := true, armed := false, triggerPending := false, periodCount := 0
    image := List.replicate (2 * length) none }

theorem captureOfArgs_eq (length : Nat) (args : List Word) : captureOfArgs length args =
    if BadCapture length args then none else some (captureNamed length args) := by
  have hl : ∀ n, (loByte (argWord args n)).toNat = argLow args n := fun _ => rfl
  have hh : ∀ n, (hiByte (argWord args n)).toNat = argHigh args n := fun _ => rfl
  unfold captureOfArgs
  rw [modeOfFields_eq, gateOfFields_eq, escalateOfFields_eq, classOfCode_eq, boolOfCode_eq]
  simp only [hl, hh]
  unfold BadCapture
  by_cases h1 : BadMode length (argLow args 5) (argHigh args 5)
  · simp only [h1, if_true, true_or, Option.bind_none, Option.bind_eq_bind]
  by_cases h2 : 2 < argHigh args 6 ∨ (argHigh args 6 ≠ 0 ∧ 7 < argLow args 6)
  · simp only [h1, h2, if_true, if_false, true_or, or_true, Option.bind_none, Option.bind_some, Option.bind_eq_bind]
  by_cases h3 : 1 < argHigh args 7 ∨ (argHigh args 7 = 1 ∧ 7 < argLow args 7)
  · simp only [h1, h2, h3, if_true, if_false, true_or, or_true, Option.bind_none, Option.bind_some, Option.bind_eq_bind]
  by_cases h4 : 2 < argLow args 8
  · simp only [h1, h2, h3, h4, if_true, if_false, true_or, or_true, Option.bind_none, Option.bind_some, Option.bind_eq_bind]
  by_cases h5 : 1 < argHigh args 8
  · simp only [h1, h2, h3, h4, h5, if_true, if_false, true_or, or_true, Option.bind_none, Option.bind_some,
      Option.bind_eq_bind]
  simp only [h1, h2, h3, h4, h5, if_false, false_or, Option.bind_some, Option.bind_eq_bind, modeNamed_isPeriod, captureNamed]
  by_cases h6 : argHigh args 8 = 1 <;> by_cases h7 : argLow args 5 = 3 <;> simp [h6, h7]

/-- The MIRROR fields that a load refuses (R19, Table 2-3). -/
abbrev BadMirror (length : Nat) (args : List Word) : Prop :=
  255 < argNat args 6 ∨ ((argWord args 5).getLsbD 1 = true ∧ length = 1)

theorem mirrorOfArgs_eq (length : Nat) (args : List Word) : mirrorOfArgs length args =
    if BadMirror length args then none
    else some ⟨(argWord args 5).getLsbD 0, (argWord args 5).getLsbD 1, argNat args 6, 0, false⟩ := by
  unfold mirrorOfArgs BadMirror
  dsimp only
  by_cases h1 : 255 < argNat args 6
  · simp only [h1, if_true, true_or]
  · simp only [h1, if_false, false_or, Bool.and_eq_true, decide_eq_true_eq]

/-- The fields that a load refuses (R19, Tables 2-2 and 2-3). -/
abbrev BadEntry (args : List Word) : Prop :=
  argAddr args 2 % 2 = 1 ∨ argLow args 4 = 0 ∨ 64 < argLow args 4 ∨ 1048576 < argAddr args 2 + 2 * argLow args 4 ∨
    0xF0 ≤ argHigh args 4 ∨ 1 < argHigh args 1 ∨ (argHigh args 1 = 0 ∧ BadCapture (argLow args 4) args) ∨
    (argHigh args 1 = 1 ∧ BadMirror (argLow args 4) args)

/-- The kind's own fields of a good load. -/
def bodyNamed (args : List Word) : EntryBody :=
  if argHigh args 1 = 0 then .capture (captureNamed (argLow args 4) args)
  else .mirror ⟨(argWord args 5).getLsbD 0, (argWord args 5).getLsbD 1, argNat args 6, 0, false⟩

/-- Two tests with one outcome are one test. -/
theorem if_or_then {α : Sort*} {p q : Prop} [Decidable p] [Decidable q] (a b : α) :
    (if p then a else if q then a else b) = if p ∨ q then a else b := by
  by_cases hp : p <;> simp [hp]

theorem entryOfArgs_eq (origin : Origin) (args : List Word) : entryOfArgs origin args =
    if BadEntry args then none
    else some ⟨origin, argAddr args 2, argLow args 4, hiByte (argWord args 4), bodyNamed args⟩ := by
  have htag : (0xF0#8 ≤ hiByte (argWord args 4)) ↔ 0xF0 ≤ argHigh args 4 := Iff.rfl
  have hbody : bodyOfArgs (hiByte (argWord args 1)) (argLow args 4) args =
      if 1 < argHigh args 1 ∨ (argHigh args 1 = 0 ∧ BadCapture (argLow args 4) args) ∨
        (argHigh args 1 = 1 ∧ BadMirror (argLow args 4) args) then none else some (bodyNamed args) := by
    simp only [bodyOfArgs, byte_eq_iff (hiByte _) (by decide : 0 < 256), byte_eq_iff (hiByte _) (by decide : 1 < 256),
      captureOfArgs_eq, mirrorOfArgs_eq, bodyNamed]
    rw [show (hiByte (argWord args 1)).toNat = argHigh args 1 from rfl]
    by_cases h0 : argHigh args 1 = 0
    · by_cases hb : BadCapture (argLow args 4) args <;> simp [h0, hb]
    by_cases h1 : argHigh args 1 = 1
    · by_cases hb : BadMirror (argLow args 4) args <;> simp [h1, hb]
    · have h2 : 1 < argHigh args 1 := by omega
      simp only [h0, h1, h2, if_false, true_or, if_true]
  unfold entryOfArgs
  simp only [htag, Config.ramBytes, show (loByte (argWord args 4)).toNat = argLow args 4 from rfl, hbody]
  simp only [BadEntry, apply_ite (Option.map _), Option.map_none, Option.map_some, if_or_then, or_assoc]

end

/-! ### The checks -/

theorem tagTaken_iff (s : State) (i : Nat) (e : Entry) : tagTaken s i e = true ↔
    ∃ j < 16, j ≠ i ∧ ∃ x, entryAt s j = some x ∧ x.body.isCapture = e.body.isCapture ∧ x.tag = e.tag := by
  simp only [tagTaken, List.any_eq_true, List.mem_range, Bool.and_eq_true, decide_eq_true_eq]
  refine exists_congr fun j => and_congr_right fun _ => and_congr_right fun _ => ?_
  cases entryAt s j <;> simp

theorem overlaps_iff (s : State) (i : Nat) (e : Entry) : overlaps s i e = true ↔
    (∃ j < 16, j ≠ i ∧ ∃ x, entryAt s j = some x ∧ e.base < x.base + 2 * x.length ∧ x.base < e.base + 2 * e.length) ∨
      (e.base < s.bpu.base + 512 ∧ s.bpu.base < e.base + 2 * e.length) ∨
      ∃ r, s.mae.ring = some r ∧ e.base < r.base + 64 * r.slots ∧ r.base < e.base + 2 * e.length := by
  have hne : ∀ j, some i ≠ some j ↔ j ≠ i := fun j => by simp [eq_comm]
  rw [overlaps, Bool.or_eq_true, Bool.or_eq_true, meetsEntry_iff, meetsPage, rangesMeet_iff, or_assoc]
  simp only [hne]
  refine or_congr Iff.rfl (or_congr Iff.rfl ?_)
  cases s.mae.ring <;> simp [rangesMeet_iff]

theorem runCommand_loadWindow (h : s.passOnly = false) (args : List Word) :
    runCommand codeLoadWindow args s = replyWith (loadWindow .localLoad args s) := by rw [runCommand, h]; rfl

theorem exec_loadWindow (ha : Arrives dt before s) (h : CommandReady codeLoadWindow w s) :
    exec (.loadWindow dt w) before = .next (replyWith (loadWindow .localLoad ((s.bpu.copy.drop 1).take 15)
      (takenState codeLoadWindow w s))) := by
  rw [← runCommand_loadWindow (s := takenState codeLoadWindow w s) h.normal]
  exact exec_commandRows_run (p := (codeLoadWindow, .loadWindow)) (by simp [commandRows]) ha h

/-- The refusals of Table 2-2, one after another. -/
theorem refusals_flat {a b c d e f g h i j k : Prop} : ((a ∨ b ∨ c ∨ d) ∨ (e ∨ f) ∨ (g ∨ h) ∨ i ∨ j ∨ k) ↔
    (a ∨ b ∨ c ∨ d ∨ e ∨ f ∨ g ∨ h ∨ i ∨ j ∨ k) := by
  simp only [or_assoc]

/-- The sixth of eight refusals first. -/
theorem refusals_rotate {a b c d e k f g : Prop} : (a ∨ b ∨ c ∨ d ∨ e ∨ k ∨ f ∨ g) ↔ (k ∨ a ∨ b ∨ c ∨ d ∨ e ∨ f ∨ g) := by
  tauto

/-- Settles O34. -/
theorem loadWindowChecks : Obligations.LoadWindowChecks := by
  intro dt w before s ha h u refused low high i kind base length mode param badCapture badMirror bad args
  have hlow : ∀ n, 1 ≤ n → n ≤ 15 → argLow args n = low n := fun n h1 h15 => by
    rw [argLow, argWord_copy s h1 h15]
  have hhigh : ∀ n, 1 ≤ n → n ≤ 15 → argHigh args n = high n := fun n h1 h15 => by
    rw [argHigh, argWord_copy s h1 h15]
  have haddr : argAddr args 2 = base := by
    rw [argAddr, argNat_copy s (by decide) (by decide), argNat_copy s (by decide) (by decide)]
  have hw4 : argWord args 4 = copyAt s 4 := argWord_copy s (by decide) (by decide)
  have hw5 : argWord args 5 = copyAt s 5 := argWord_copy s (by decide) (by decide)
  have h6 : argNat args 6 = (copyAt s 6).toNat := argNat_copy s (by decide) (by decide)
  have hcapture : BadCapture length args ↔ badCapture := by
    unfold BadCapture BadMode
    rw [hlow 5 (by decide) (by decide), hlow 6 (by decide) (by decide), hlow 7 (by decide) (by decide),
      hlow 8 (by decide) (by decide), hhigh 5 (by decide) (by decide), hhigh 6 (by decide) (by decide),
      hhigh 7 (by decide) (by decide), hhigh 8 (by decide) (by decide)]
    exact refusals_flat
  have hbad : BadEntry args ↔ bad := by
    unfold BadEntry BadMirror
    rw [haddr, hlow 4 (by decide) (by decide), hhigh 4 (by decide) (by decide), hhigh 1 (by decide) (by decide), h6, hw5,
      hcapture]
    exact refusals_rotate
  have hentry : ¬bad → entryOfArgs .localLoad args =
      some ⟨.localLoad, base, length, hiByte (copyAt s 4), bodyNamed args⟩ := fun hb => by
    rw [entryOfArgs_eq, if_neg (mt hbad.mp hb), haddr, hlow 4 (by decide) (by decide), hw4]
  have hi : (loByte (argWord args 1)).toNat = i := hlow 1 (by decide) (by decide)
  have hx : exec (.loadWindow dt w) before = .next (replyWith (loadWindow .localLoad args u)) := exec_loadWindow ha h
  have hindex : i ≤ 15 → loadWindow .localLoad args u = match entryOfArgs .localLoad args with
      | none => (u, .badField)
      | some e =>
        if tagTaken u i e then (u, .dupTag)
        else if overlaps u i e then (u, .overlap)
        else if storeShort u i e then (u, .noSpace)
        else (placeEntry i e u, .done) := fun h15 => by
    rw [loadWindow, hi, if_neg (Nat.not_lt.mpr h15)]
    rfl
  refine ⟨fun h15 => ?_, fun h15 hb => ?_, fun hb hk => ?_, fun hb hk => ?_, fun e h15 he => ?_⟩
  · show exec _ _ = _
    rw [hx, loadWindow, hi, if_pos h15]
    rfl
  · show exec _ _ = _
    rw [hx, hindex h15, entryOfArgs_eq, if_pos (hbad.mpr hb)]
    rfl
  · rw [hentry hb, bodyNamed, hhigh 1 (by decide) (by decide), if_pos hk, captureNamed, modeNamed]
    rw [hlow 4 (by decide) (by decide), hlow 5 (by decide) (by decide), hlow 6 (by decide) (by decide),
      hlow 7 (by decide) (by decide), hlow 8 (by decide) (by decide), hhigh 5 (by decide) (by decide),
      hhigh 6 (by decide) (by decide), hhigh 7 (by decide) (by decide), hhigh 8 (by decide) (by decide)]
  · have hk0 : ¬high 1 = 0 := by
      have : high 1 = 1 := hk
      omega
    rw [hentry hb, bodyNamed, hhigh 1 (by decide) (by decide), if_neg hk0, hw5, h6]
  · intro sameTag meets overlap others
    obtain ⟨hb, rfl⟩ : ¬bad ∧ e = ⟨.localLoad, base, length, hiByte (copyAt s 4), bodyNamed args⟩ := by
      by_cases hb : bad
      · rw [entryOfArgs_eq, if_pos (hbad.mpr hb)] at he
        cases he
      · exact ⟨hb, (Option.some.inj ((hentry hb).symm.trans he)).symm⟩
    have htag := tagTaken_iff u i ⟨.localLoad, base, length, hiByte (copyAt s 4), bodyNamed args⟩
    have hover := overlaps_iff u i ⟨.localLoad, base, length, hiByte (copyAt s 4), bodyNamed args⟩
    have hload := hindex h15
    rw [he] at hload
    refine ⟨fun ht => ?_, fun ht ho => ?_, fun ht ho hc hs => ?_⟩
    all_goals show exec _ _ = _; rw [hx, hload]; dsimp only
    · rw [if_pos (htag.mpr ht)]
      rfl
    · have ho' : overlaps u i _ = true := hover.mpr ho
      rw [if_neg (mt htag.mp ht), if_pos ho']
      rfl
    · have ho' : ¬overlaps u i _ = true := mt hover.mp ho
      have hs' : storeShort u i ⟨.localLoad, base, length, hiByte (copyAt s 4), bodyNamed args⟩ = true := by
        rw [storeShort, Bool.and_eq_true, decide_eq_true_eq]
        exact ⟨hc, hs⟩
      rw [if_neg (mt htag.mp ht), if_neg ho', if_pos hs']
      rfl

end Sys2Proof.Machine
end

section
/-! SUPPORT. The entry that a good load places, after the clear of its index. -/

-- One proof is checked after another: each worker thread of Lean reserves memory of its own.
set_option Elab.async false

namespace Sys2Proof.Machine

variable {s t u : State} {i : Nat} {e : Entry}

/-! ### What a clear leaves of the tables -/

theorem clearEntry_wt (i : Nat) (s : State) : (clearEntry i s).wt = if (entryAt s i).isSome then s.wt.set i none else s.wt := by
  unfold clearEntry
  split
  · next e he =>
    split <;> simp [he, putEntry]
  · next he => simp [he]

/-- A clear at `i` leaves the other entries alone. -/
theorem entryAt_clearEntry_ne {j : Nat} (h : j ≠ i) (s : State) : entryAt (clearEntry i s) j = entryAt s j := by
  rw [entryAt, clearEntry_wt]
  split
  · simp [entryAt, List.getD_eq_getElem?_getD, List.getElem?_set_ne h.symm]
  · rfl

theorem clearEntry_primeList (hr : s.ftu.rules.length = 8) (i : Nat) : (clearEntry i s).mae.primeList =
    s.mae.primeList.filter fun k => !(captureAt s i).isSome || decide (k ≠ i) := by
  cases he : entryAt s i with
  | none => simp [clearEntry_of_none he, captureAt, he]
  | some e =>
    cases hb : e.body with
    | capture c =>
      obtain ⟨flags, waits, mw, n, ht, -⟩ := clearEntry_capture he hb hr
      simp [ht, captureAt, he, hb]
    | mirror m =>
      obtain ⟨waits, mw, n, ht, -⟩ := clearEntry_mirror he hb
      simp [ht, captureAt, he, hb]

theorem clearEntry_vrst (i : Nat) (s : State) : (clearEntry i s).vrst = s.vrst :=
  congrArg Face.vrst (face_clearEntry i s)

/-- Settles O35. -/
theorem loadWindowPlaces : Obligations.LoadWindowPlaces := by
  intro dt w e before s ha h htab u i x hi he htag hover hstore
  have hindex : (loByte (argWord ((s.bpu.copy.drop 1).take 15) 1)).toNat = i := by
    rw [argWord_copy s (by decide) (by decide)]
  have hload : loadWindow .localLoad ((s.bpu.copy.drop 1).take 15) u = (placeEntry i e u, .done) := by
    have h1 : tagTaken u i e = false := htag
    have h2 : overlaps u i e = false := hover
    have h3 : storeShort u i e = false := hstore
    rw [loadWindow, hindex, if_neg (Nat.not_lt.mpr hi), he]
    simp only [ownedAgainst_local, h1, h2, h3, Bool.false_eq_true, if_false]
  have hx : exec (.loadWindow dt w) before = .next (replyCommand .done [] (placeEntry i e u)) := by
    rw [exec_loadWindow ha h, show loadWindow _ _ _ = _ from hload]
    rfl
  have hwt : x.wt.set i (some e) = s.wt.set i (some e) := by
    show (clearEntry i u).wt.set i (some e) = _
    rw [clearEntry_wt]
    split
    · rw [List.set_set]
      rfl
    · rfl
  have hprime : x.mae.primeList = s.mae.primeList.filter fun k => !(captureAt s i).isSome || decide (k ≠ i) :=
    clearEntry_primeList (s := u) htab.rules i
  refine ⟨entryOfArgs_origin he, fun c hb => ?_, fun m hb => ?_, fun j _ hj => entryAt_clearEntry_ne hj u,
    fun hn => clearEntry_of_none (s := u) hn⟩
  · have hv : (clearEntry i u).vrst = false := (clearEntry_vrst i u).trans h.cycle.vrst
    have hp : placeEntry i e u = appendPrime i (putEntry i (some e) x) := by
      rw [placeEntry]
      simp [hb, EntryBody.isCapture, hv, x]
    rw [hx, hp, ← hwt, ← hprime]
    rfl
  · have hp : placeEntry i e u = putEntry i (some e) x := by
      rw [placeEntry]
      simp [hb, EntryBody.isCapture, x]
    rw [hx, hp, ← hwt]
    rfl

end Sys2Proof.Machine
end

section
/-! SUPPORT. Triggers and evaluation passes: what a trigger that fires does, what it leaves of the windows, and which
triggers the rises of a pass fire. -/

-- One proof is checked after another: each worker thread of Lean reserves memory of its own.
set_option Elab.async false

namespace Sys2Proof.Machine

variable {s t u : State} {i j : Nat} {e : Entry} {c : Capture}

/-! ### The CAPTURE fields -/

theorem captureAt_eq_some (he : entryAt s i = some e) (hb : e.body = .capture c) : captureAt s i = some c := by
  simp only [captureAt, he, hb]

theorem exists_entry_of_captureAt (h : captureAt s i = some c) : ∃ e, entryAt s i = some e ∧ e.body = .capture c := by
  unfold captureAt at h
  split at h
  · next e he =>
    split at h
    · next d hb =>
      cases h
      exact ⟨e, he, hb⟩
    · cases h
  · cases h

/-- A change of the CAPTURE fields at `i`, all of it. -/
theorem mapCapture_eq (he : entryAt s i = some e) (hb : e.body = .capture c) (f : Capture → Capture) :
    mapCapture i f s = { s with wt := s.wt.set i (some { e with body := .capture (f c) }) } := by
  simp only [mapCapture, he, hb, putEntry]

theorem captureAt_mapCapture (i : Nat) (f : Capture → Capture) (s : State) (j : Nat) :
    captureAt (mapCapture i f s) j = if j = i then (captureAt s i).map f else captureAt s j := by
  cases hc : captureAt s i with
  | none =>
    have hm : mapCapture i f s = s := by
      unfold captureAt at hc
      unfold mapCapture
      split
      · next e he =>
        split
        · next d hb => simp [he, hb] at hc
        · rfl
      · rfl
    rw [hm]
    split
    · next h => rw [h, hc]; rfl
    · rfl
  | some c =>
    obtain ⟨e, he, hb⟩ := exists_entry_of_captureAt hc
    rw [mapCapture_eq he hb]
    split
    · next h =>
      subst h
      exact captureAt_eq_some (e := { e with body := .capture (f c) })
        (entryAt_putEntry_self _ (lt_length_of_entryAt he)) rfl
    · next h => simp only [captureAt, entryAt_putEntry_ne (t := s) _ (Ne.symm h), ← putEntry.eq_1]

@[simp] theorem offer_wt (r : Record) (s : State) : (offer r s).wt = s.wt := by
  simp only [offer, raiseCause_eq]
  split <;> rfl

theorem captureAt_offer (r : Record) (s : State) (j : Nat) : captureAt (offer r s) j = captureAt s j := by
  simp only [captureAt, entryAt, offer_wt]

/-! ### A trigger that fires -/

/-- A trigger that fires in a LOADING entry, or under VRST, is pending (R32, R35). -/
theorem fireTrigger_pending (h : captureAt s i = some c) (hp : c.state = .loading ∨ s.vrst = true) :
    fireTrigger i s = mapCapture i (fun c => { c with triggerPending := true }) s := by
  rw [fireTrigger, h]
  exact if_pos hp

/-- A trigger that fires in an ACTIVE entry is tested at its gate (R50). -/
theorem fireTrigger_active (h : captureAt s i = some c) (ha : c.state = .active) (hv : s.vrst = false) :
    fireTrigger i s = gatedSnapshot i c s := by
  rw [fireTrigger, h]
  exact if_neg (by simp [ha, hv])

theorem gateOpen_iff (flags : BitVec 8) (g : Option Gate) :
    gateOpen flags g = true ↔ ∀ x, g = some x → conditionFlag flags x.flag = x.sense := by
  cases g <;> simp [gateOpen]

theorem snapshotClass_eq (flags : BitVec 8) (c : Capture) :
    snapshotClass flags c = if c.escalate.any (conditionFlag flags) then .urgent else c.cls := by
  unfold snapshotClass
  cases c.escalate <;> simp

/-- A snapshot, all of it (R51, R52). -/
theorem snapshot_eq (he : entryAt s i = some e) (hb : e.body = .capture c) : snapshot i s = offer
    (windowRecord i e.tag s.ftu.flags s.ft.frame c)
    { s with wt := s.wt.set i (some { e with body := .capture { c with seq := c.seq + 1#8, dirty := false } }) } := by
  simp only [snapshot, he, hb, mapCapture_eq he hb]

/-- What a trigger that fires at `i` can make of an entry's CAPTURE fields: a trigger pending in a LOADING one or under
VRST, or a new sequence number and a clear dirty bit. -/
theorem captureAt_fireTrigger (i : Nat) (s : State) (j : Nat) :
    captureAt (fireTrigger i s) j = captureAt s j ∨ ∃ c, j = i ∧ captureAt s j = some c ∧
      (((c.state = .loading ∨ s.vrst = true) ∧ captureAt (fireTrigger i s) j = some { c with triggerPending := true }) ∨
        captureAt (fireTrigger i s) j = some { c with seq := c.seq + 1#8, dirty := false }) := by
  cases hc : captureAt s i with
  | none => exact .inl (by rw [fireTrigger, hc])
  | some c =>
    by_cases hj : j = i
    · subst hj
      by_cases hp : c.state = .loading ∨ s.vrst = true
      · refine .inr ⟨c, rfl, hc, .inl ⟨hp, ?_⟩⟩
        rw [fireTrigger_pending hc hp, captureAt_mapCapture, if_pos rfl, hc]
        rfl
      · have hf : fireTrigger j s = gatedSnapshot j c s := by
          rw [fireTrigger, hc]
          exact if_neg hp
        rw [hf, gatedSnapshot]
        split
        · refine .inr ⟨c, rfl, hc, .inr ?_⟩
          obtain ⟨e, he, hb⟩ := exists_entry_of_captureAt hc
          rw [snapshot, he]
          simp only [hb]
          rw [captureAt_offer, captureAt_mapCapture, if_pos rfl, hc]
          rfl
        · exact .inl rfl
    · left
      rw [fireTrigger, hc]
      dsimp only
      split
      · rw [captureAt_mapCapture, if_neg hj]
      · rw [gatedSnapshot]
        split
        · obtain ⟨e, he, hb⟩ := exists_entry_of_captureAt hc
          rw [snapshot, he]
          simp only [hb]
          rw [captureAt_offer, captureAt_mapCapture, if_neg hj]
        · rfl

/-- A trigger that fires changes no entry's mode. -/
theorem mode_fireTrigger (i : Nat) (s : State) (j : Nat) :
    (captureAt (fireTrigger i s) j).map Capture.mode = (captureAt s j).map Capture.mode := by
  obtain h | ⟨c, -, hc, ⟨-, h⟩ | h⟩ := captureAt_fireTrigger i s j
  · rw [h]
  · rw [h, hc]; rfl
  · rw [h, hc]; rfl

/-! ### The rises of a pass -/

/-- The entries that fire on a rise of flag `f`, in ascending window (R49). -/
def riseEntries (f : Nat) (s : State) : List Nat :=
  (List.range 16).filter fun j => (captureAt s j).any fun y => decide (y.mode = .rise f)

theorem offerRiseTo_eq (f : Nat) (s : State) (i : Nat) : offerRiseTo f s i =
    if (captureAt s i).any (fun y => decide (y.mode = .rise f)) then fireTrigger i s else s := by
  have hr : ∀ c : Capture, c.risesOn f = decide (c.mode = .rise f) := fun c => by
    cases hm : c.mode <;> simp [Capture.risesOn, hm]
  unfold offerRiseTo
  cases captureAt s i with
  | none => rfl
  | some c => simp [hr]

/-- The same modes of the CAPTURE entries. -/
def SameModes (s t : State) : Prop := ∀ j, (captureAt t j).map Capture.mode = (captureAt s j).map Capture.mode

theorem SameModes.any (h : SameModes s t) (f j : Nat) : (captureAt t j).any (fun y => decide (y.mode = .rise f)) =
    (captureAt s j).any fun y => decide (y.mode = .rise f) := by
  have hm : ∀ o : Option Capture, o.any (fun y => decide (y.mode = .rise f)) =
      (o.map Capture.mode).any fun m => decide (m = .rise f) := fun o => by cases o <;> rfl
  rw [hm, hm, h j]

theorem SameModes.foldl {g : State → Nat → State} (hg : ∀ u j, SameModes u (g u j)) :
    ∀ (l : List Nat) {t : State}, SameModes s t → SameModes s (l.foldl g t)
  | [], _, h => h
  | x :: l, t, h => SameModes.foldl hg l fun j => (hg t x j).trans (h j)

/-- The rise of a flag fires the RISE entries on it as they stand at the start of the pass (R44). -/
theorem offerRise_eq (f : Nat) (h : SameModes s t) :
    (List.range 16).foldl (offerRiseTo f) t = (riseEntries f s).foldl (fun x j => fireTrigger j x) t := by
  have key : ∀ (l : List Nat) (t : State), SameModes s t → l.foldl (offerRiseTo f) t =
      (l.filter fun j => (captureAt s j).any fun y => decide (y.mode = .rise f)).foldl (fun x j => fireTrigger j x) t := by
    intro l
    induction l with
    | nil => exact fun _ _ => rfl
    | cons x l ih =>
      intro t h
      rw [List.foldl_cons, offerRiseTo_eq, h.any, List.filter_cons]
      split
      · rw [List.foldl_cons]
        exact ih _ fun j => (mode_fireTrigger x t j).trans (h j)
      · exact ih t h
  exact key _ t h

/-- The rises of a pass fire the RISE entries, flags and windows ascending (R44, R49). -/
theorem offerRises_eq (flags : BitVec 8) (s : State) :
    offerRises s.ftu.flags { s with ftu.flags := flags } =
      (risingEntries flags s).foldl (fun x j => fireTrigger j x) { s with ftu.flags := flags } := by
  have hrisen : ∀ f < 8, conditionFlag (flags &&& ~~~s.ftu.flags) f =
      (conditionFlag flags f && !conditionFlag s.ftu.flags f) := fun f hf => by
    simp [conditionFlag, hf]
  have key : ∀ (l : List Nat), (∀ f ∈ l, f < 8) → ∀ t, SameModes s t →
      l.foldl (fun s' f => if conditionFlag (flags &&& ~~~s.ftu.flags) f then
        (List.range 16).foldl (offerRiseTo f) s' else s') t =
      (l.flatMap fun f => if conditionFlag flags f && !conditionFlag s.ftu.flags f then riseEntries f s else []).foldl
        (fun x j => fireTrigger j x) t := by
    intro l
    induction l with
    | nil => exact fun _ _ _ => rfl
    | cons f l ih =>
      intro hl t ht
      rw [List.foldl_cons, List.flatMap_cons, List.foldl_append, hrisen f (hl f List.mem_cons_self)]
      have ih := ih fun g hg => hl g (List.mem_cons_of_mem f hg)
      split
      · rw [offerRise_eq f ht]
        exact ih _ (ht.foldl (fun u j => mode_fireTrigger j u) _)
      · exact ih t ht
  exact key (List.range 8) (fun f hf => List.mem_range.mp hf) _ fun _ => rfl

/-- An evaluation pass, all of it (R43, R44). -/
theorem runPass_eq (rules : List Rule) (s : State) : runPass rules s =
    (risingEntries (rules.foldl (evalInto s) s.ftu.flags) s).foldl (fun x j => fireTrigger j x)
      { s with ftu.flags := rules.foldl (evalInto s) s.ftu.flags } := offerRises_eq _ s

/-- A pass over rules of one window looks at that window's image (R42, R43). -/
theorem foldl_evalInto {p : Rule → Bool} {d : Capture} (hp : ∀ r, p r = true → r.window = i)
    (hc : captureAt s i = some d) (him : d.image = c.image) (hrules : t.ftu = s.ftu) :
    (rulesWhere p s).foldl (evalInto s) s.ftu.flags = passFlags p c t := by
  have hw : ∀ k, imageWord d k = imageWord c k := fun k => by rw [imageWord, imageWord, him]
  unfold passFlags rulesWhere
  rw [hrules]
  generalize hl : (s.ftu.rules.filterMap id).filter p = l
  have hmem : ∀ r ∈ l, r.window = i := fun r hr => hp r (List.of_mem_filter (hl ▸ hr))
  clear hl
  generalize s.ftu.flags = flags
  induction l generalizing flags with
  | nil => rfl
  | cons r l ih =>
    have he : evalInto s flags r = setConditionFlag flags r.target (evalRule r (imageWord c r.offset)) := by
      rw [evalInto, hmem r List.mem_cons_self, hc, ← hw]
    rw [List.foldl_cons, List.foldl_cons, he]
    exact ih (fun x hx => hmem x (List.mem_cons_of_mem r hx)) _

end Sys2Proof.Machine
end

section
/-! SUPPORT. Start-up, and the commands that load and clear a compare rule. -/

-- One proof is checked after another: each worker thread of Lean reserves memory of its own.
set_option Elab.async false

namespace Sys2Proof.Machine

variable {s t u : State} {i : Nat} {w : CmdWrite} {dt : Tick} {before : State} {args : List Word} {r : Rule} {c : Capture}

/-! ### Start-up -/

/-- The state that start-up finds once its straps are sampled. -/
def strappedState (ram : Memory) (vrst passOnly : Bool) (pd : Word) (q : List Instr) (carid : BitVec 10) (base : Nat) : State :=
  { downState ram vrst pd q with porn := true, carid := carid, passOnly := passOnly, bpu.base := base }

/-- A link that the entry into SEARCH at start-up tunes to channel `ch`. -/
def startLink (k : LinkState) (ch : BitVec 4) : LinkState :=
  { k with
    condition := .tuning, channel := ch, tuneExpiry := some (tickAdd 0#32 Config.tuneTicks), txd := [tuneMessage ch] }

section
variable (ram : Memory) (vrst p : Bool) (pd : Word) (q : List Instr) (carid : BitVec 10) (b : Nat)

/-- The entry into SEARCH at start-up tunes both links to their start channels (R124, R181). -/
theorem enterSearch_strapped : enterSearch (strappedState ram vrst p pd q carid b) = { strappedState ram vrst p pd q carid b with
    xu.linkA := startLink (strappedState ram vrst p pd q carid b).xu.linkA 0#4
    xu.linkB := startLink (strappedState ram vrst p pd q carid b).xu.linkB 8#4 } := rfl

/-- The JOIN of start-up, and its requests (R57, R181). -/
theorem createJoin_strapped (xu : Crossover) :
    requestStatus (requestAttention (createJoin { strappedState ram vrst p pd q carid b with xu := xu })) =
      { strappedState ram vrst p pd q carid b with
        xu := xu
        uq.joinSeq := 1#8
        uq.records := [internalRecord .join tagJoin 1#8 .urgent 0#6 []]
        mae.attention := true
        mae.status := true } := rfl

end

/-- Settles O13. -/
theorem startUp : Obligations.StartUp := by
  intro ram vrst pd q carid cpsel s tuned up
  have htune : tickAdd 0#32 Config.tuneTicks = 20000#32 := by decide
  have hpass : passStraps carid = decide (carid = 0#10 ∨ carid = 1023#10) := (Bool.decide_or ..).symm
  have hx : exec (.startUp carid cpsel) s = .next (startUpMoves
      (strappedState ram vrst (decide (carid = 0#10 ∨ carid = 1023#10)) pd q carid (0xF0000 + 0x2000 * cpsel.toNat))) := by
    rw [← hpass]
    rfl
  rw [hx]
  refine ⟨fun h0 h1 => ?_, fun h => ?_⟩
  · have hp : (strappedState ram vrst (decide (carid = 0#10 ∨ carid = 1023#10)) pd q carid
        (0xF0000 + 0x2000 * cpsel.toNat)).passOnly ≠ true := by simp [strappedState, h0, h1]
    rw [startUpMoves, if_neg hp, enterSearch_strapped, createJoin_strapped, startLink, startLink, htune]
    rfl
  · have hp : (strappedState ram vrst (decide (carid = 0#10 ∨ carid = 1023#10)) pd q carid
        (0xF0000 + 0x2000 * cpsel.toNat)).passOnly = true := by simpa [strappedState] using h
    rw [startUpMoves, if_pos hp]
    rfl

/-! ### The rule that the arguments name -/

theorem widthOfCode_eq_none (b : Byte) : widthOfCode b = none ↔ 2 < b.toNat := by
  simp only [widthOfCode, byte_eq_iff b (by decide : 0 < 256), byte_eq_iff b (by decide : 1 < 256),
    byte_eq_iff b (by decide : 2 < 256)]
  generalize b.toNat = m
  split_ifs <;> simp <;> omega

theorem testOfCode_eq_none (b : Byte) : testOfCode b = none ↔ 5 < b.toNat := by
  simp only [testOfCode, byte_eq_iff b (by decide : 0 < 256), byte_eq_iff b (by decide : 1 < 256),
    byte_eq_iff b (by decide : 2 < 256), byte_eq_iff b (by decide : 3 < 256), byte_eq_iff b (by decide : 4 < 256),
    byte_eq_iff b (by decide : 5 < 256)]
  generalize b.toNat = m
  split_ifs <;> simp <;> omega

theorem boolOfCode_eq_none (b : Byte) : boolOfCode b = none ↔ 1 < b.toNat := by
  rw [boolOfCode_eq]
  split <;> simp [*]

/-- The arguments name no rule where one of their fields is bad (R39). -/
theorem ruleOfArgs_bad {origin : Origin} (h : 15 < argNat args 2 ∨ captureAt s (argNat args 2) = none ∨
    (∃ e, entryAt s (argNat args 2) = some e ∧ e.length ≤ argNat args 3) ∨ 2 < argLow args 4 ∨ 1 < argHigh args 4 ∨
      5 < argLow args 5 ∨ 7 < argHigh args 5) : ruleOfArgs origin args s = none := by
  unfold ruleOfArgs
  dsimp only
  split
  · next orig base length tag c width signed test he hw hb ht =>
    refine if_neg ?_
    rintro ⟨h15, hlen, h7⟩
    obtain h | h | ⟨e, he', hl⟩ | h | h | h | h := h
    · omega
    · rw [captureAt_eq_some he rfl] at h
      cases h
    · rw [he] at he'
      cases he'
      exact absurd hl (Nat.not_le.mpr hlen)
    · rw [(widthOfCode_eq_none _).mpr h] at hw
      cases hw
    · rw [(boolOfCode_eq_none _).mpr h] at hb
      cases hb
    · rw [(testOfCode_eq_none _).mpr h] at ht
      cases ht
    · exact absurd h7 (Nat.not_le.mpr h)
  · rfl

/-- The rule that good arguments name (R39). -/
theorem ruleOfArgs_good {origin : Origin} {e : Entry} {width : Width} {signed : Bool} {test : Test}
    (h15 : argNat args 2 ≤ 15) (he : entryAt s (argNat args 2) = some e) (hb : e.body = .capture c)
    (hl : argNat args 3 < e.length) (hw : widthOfCode (loByte (argWord args 4)) = some width)
    (hs : boolOfCode (hiByte (argWord args 4)) = some signed) (ht : testOfCode (loByte (argWord args 5)) = some test)
    (h7 : argHigh args 5 ≤ 7) : ruleOfArgs origin args s =
      some ⟨origin, argNat args 2, argNat args 3, width, signed, test, argWord args 6, argHigh args 5⟩ := by
  obtain ⟨o, base, length, tag, body⟩ := e
  cases hb
  unfold ruleOfArgs
  simp only [he, hw, hs, ht]
  exact if_pos ⟨h15, hl, h7⟩

/-! ### The commands -/

theorem runCommand_loadCompare (h : s.passOnly = false) (args : List Word) :
    runCommand codeLoadCompare args s = replyWith (loadCompare .localLoad args s) := by rw [runCommand, h]; rfl

theorem runCommand_clearCompare (h : s.passOnly = false) (args : List Word) :
    runCommand codeClearCompare args s = replyWith (clearCompare .localLoad args s) := by rw [runCommand, h]; rfl

/-- A rule placed on an ACTIVE window, all of it (R40, R43, R44). -/
theorem placeRule_active (hv : s.vrst = false) (hc : captureAt s r.window = some c) (ha : c.state = .active) :
    placeRule i r s =
      (risingEntries (setConditionFlag (replacedFlags i r s) r.target (evalRule r (imageWord c r.offset))) (withRule i r s)).foldl
        (fun y j => fireTrigger j y)
        { withRule i r s with
          ftu.flags := setConditionFlag (replacedFlags i r s) r.target (evalRule r (imageWord c r.offset)) } := by
  have he : [r].foldl (evalInto (withRule i r s)) (withRule i r s).ftu.flags =
      setConditionFlag (replacedFlags i r s) r.target (evalRule r (imageWord c r.offset)) := by
    have hc' : captureAt (withRule i r s) r.window = some c := hc
    show evalInto _ _ r = _
    rw [evalInto, hc']
    rfl
  rw [placeRule_eq, if_pos ⟨hv, by simp [hc, ha]⟩, runPass_eq, he]

/-- Settles O38. -/
theorem compareCommands : Obligations.CompareCommands := by
  intro dt w before s ha htab i window offset target
  have h1 : argNat ((s.bpu.copy.drop 1).take 15) 1 = i := argNat_copy s (by decide) (by decide)
  have h2 : argNat ((s.bpu.copy.drop 1).take 15) 2 = window := argNat_copy s (by decide) (by decide)
  have h3 : argNat ((s.bpu.copy.drop 1).take 15) 3 = offset := argNat_copy s (by decide) (by decide)
  have h4 : argWord ((s.bpu.copy.drop 1).take 15) 4 = copyAt s 4 := argWord_copy s (by decide) (by decide)
  have h5 : argWord ((s.bpu.copy.drop 1).take 15) 5 = copyAt s 5 := argWord_copy s (by decide) (by decide)
  have h6 : argWord ((s.bpu.copy.drop 1).take 15) 6 = copyAt s 6 := argWord_copy s (by decide) (by decide)
  refine ⟨fun h => ?_, fun h => ?_⟩
  · intro u refused
    have hx : exec (.loadCompare dt w) before =
        .next (replyWith (loadCompare .localLoad ((s.bpu.copy.drop 1).take 15) u)) := by
      rw [← runCommand_loadCompare (s := u) h.normal]
      exact exec_commandRows_run (p := (codeLoadCompare, .loadCompare)) (by simp [commandRows]) ha h
    refine ⟨fun hi => ?_, fun hi hb => ?_, fun e c width signed test hi h15 he hb hl hw hs ht h7 => ?_⟩
    · show exec _ _ = _
      rw [hx, loadCompare_badIndex (h1 ▸ hi)]
      rfl
    · have hbad : ruleOfArgs .localLoad ((s.bpu.copy.drop 1).take 15) u = none := ruleOfArgs_bad (by
        rw [argLow, argLow, argHigh, argHigh, h2, h3, h4, h5]
        exact hb)
      show exec _ _ = _
      rw [hx, loadCompare_badField (h1.le.trans hi) hbad]
      rfl
    · intro r flags
      have hgood : ruleOfArgs .localLoad ((s.bpu.copy.drop 1).take 15) u = some r := by
        have h := ruleOfArgs_good (s := u) (origin := .localLoad) (args := (s.bpu.copy.drop 1).take 15) (e := e) (c := c)
          (width := width) (signed := signed) (test := test) (h2.le.trans h15) (by rw [h2]; exact he) hb (h3 ▸ hl)
          (by rw [h4]; exact hw) (by rw [h4]; exact hs) (by rw [h5]; exact ht) (by rw [argHigh, h5]; exact h7)
        rw [argHigh, h2, h3, h5, h6] at h
        exact h
      have hload := loadCompare_done (origin := .localLoad) (h1.le.trans hi) hgood nofun
      rw [h1] at hload
      rw [hx, hload]
      have hc : captureAt u window = some c := captureAt_eq_some (s := u) he hb
      refine ⟨fun hstate => ?_, fun hstate => ?_⟩
      · rw [placeRule_unevaluated (.inr fun d hd => ?_)]
        · rfl
        · rw [show r.window = window from rfl, hc] at hd
          cases hd
          exact hstate
      · intro x risen
        rw [placeRule_active (s := u) (r := r) h.cycle.vrst hc hstate]
        rfl
  · intro u
    have hx : exec (.clearCompare dt w) before =
        .next (replyWith (clearCompare .localLoad ((s.bpu.copy.drop 1).take 15) u)) := by
      rw [← runCommand_clearCompare (s := u) h.normal]
      exact exec_commandRows_run (p := (codeClearCompare, .clearCompare)) (by simp [commandRows]) ha h
    rw [hx]
    refine ⟨fun hi => ?_, fun hi hn => ?_, fun r hi hr => ?_⟩
    · rw [clearCompare_badIndex (h1 ▸ hi)]
      rfl
    · rw [clearCompare_of_none (s := u) (h1.le.trans hi) (by rw [h1]; exact hn)]
      rfl
    · rw [clearCompare_of_some (s := u) (origin := .localLoad) (h1.le.trans hi) nofun (by rw [h1]; exact hr), h1]
      rfl

end Sys2Proof.Machine
end

section
/-! SUPPORT. The end of priming: what triggers that fire keep, and the state that the end of priming leaves. -/

-- One proof is checked after another: each worker thread of Lean reserves memory of its own.
set_option Elab.async false

namespace Sys2Proof.Machine

variable {s t u : State} {i j k : Nat} {e : Entry} {c d : Capture}

/-! ### What triggers that fire keep -/

/-- `t` is `s` but for the windows, the queue, the count of gated triggers, the Attention Unit and an ATTENTION job. -/
def FiredOnly (s t : State) : Prop := ∃ wt n uq au att, t = { s with
  wt := wt, ftu.gatedTriggers := n, uq := uq, au := au, mae.attention := att }

theorem FiredOnly.rfl : FiredOnly s s := ⟨_, _, _, _, _, Eq.refl s⟩

theorem FiredOnly.trans (h : FiredOnly s t) (h' : FiredOnly t u) : FiredOnly s u := by
  obtain ⟨_, _, _, _, _, rfl⟩ := h
  obtain ⟨_, _, _, _, _, rfl⟩ := h'
  exact ⟨_, _, _, _, _, Eq.refl _⟩

theorem firedOnly_offer (r : Record) (s : State) : FiredOnly s (offer r s) := by
  simp only [offer, raiseCause_eq]
  split <;> exact ⟨_, _, _, _, _, rfl⟩

theorem firedOnly_mapCapture (i : Nat) (f : Capture → Capture) (s : State) : FiredOnly s (mapCapture i f s) := by
  unfold mapCapture
  split
  · split
    exacts [⟨_, _, _, _, _, rfl⟩, .rfl]
  · exact .rfl

theorem firedOnly_gatedSnapshot (i : Nat) (c : Capture) (s : State) : FiredOnly s (gatedSnapshot i c s) := by
  unfold gatedSnapshot snapshot
  split
  · split
    · split
      exacts [(firedOnly_mapCapture i _ s).trans (firedOnly_offer _ _), .rfl]
    · exact .rfl
  · exact ⟨_, _, _, _, _, rfl⟩

theorem firedOnly_fireTrigger (i : Nat) (s : State) : FiredOnly s (fireTrigger i s) := by
  unfold fireTrigger
  split
  · split
    exacts [firedOnly_mapCapture i _ s, firedOnly_gatedSnapshot i _ s]
  · exact .rfl

theorem FiredOnly.foldl {α : Type} {g : State → α → State} (hg : ∀ s x, FiredOnly s (g s x)) :
    ∀ (l : List α) (s : State), FiredOnly s (l.foldl g s)
  | [], _ => .rfl
  | x :: l, s => (hg s x).trans (FiredOnly.foldl hg l (g s x))

theorem FiredOnly.vrst (h : FiredOnly s t) : t.vrst = s.vrst := by obtain ⟨_, _, _, _, _, rfl⟩ := h; rfl

theorem FiredOnly.flags (h : FiredOnly s t) : t.ftu.flags = s.ftu.flags := by obtain ⟨_, _, _, _, _, rfl⟩ := h; rfl

/-- The CAPTURE entry at `j` keeps what a load gave it, its state and its armed bit; out of VRST an ACTIVE one keeps its
pending mark too. -/
def KeepsCapture (j : Nat) (s t : State) : Prop := ∀ e c, entryAt s j = some e → e.body = .capture c →
  ∃ d, entryAt t j = some { e with body := .capture d } ∧ d.state = c.state ∧ d.mode = c.mode ∧ d.armed = c.armed ∧
    d.gate = c.gate ∧ d.image = c.image ∧ (s.vrst = false → c.state = .active → d.triggerPending = c.triggerPending)

theorem KeepsCapture.rfl : KeepsCapture j s s := fun e c he hb => by
  obtain ⟨o, b, l, tag, body⟩ := e
  cases hb
  exact ⟨c, he, Eq.refl _, Eq.refl _, Eq.refl _, Eq.refl _, Eq.refl _, fun _ _ => Eq.refl _⟩

theorem KeepsCapture.trans (hv : t.vrst = s.vrst) (h : KeepsCapture j s t) (h' : KeepsCapture j t u) : KeepsCapture j s u :=
  fun e c he hb => by
    obtain ⟨d, hd, hs, hm, ha, hg, hi, hp⟩ := h e c he hb
    obtain ⟨f, hf, hs', hm', ha', hg', hi', hp'⟩ := h' _ d hd (Eq.refl _)
    exact ⟨f, hf, hs'.trans hs, hm'.trans hm, ha'.trans ha, hg'.trans hg, hi'.trans hi, fun h1 h2 =>
      (hp' (hv.trans h1) (hs.trans h2)).trans (hp h1 h2)⟩

theorem KeepsCapture.of_eq (h : entryAt t j = entryAt s j) : KeepsCapture j s t := fun e c he hb => by
  obtain ⟨d, hd, hx⟩ := KeepsCapture.rfl e c he hb
  exact ⟨d, h.trans hd, hx⟩

/-- A change of CAPTURE fields that keeps these. -/
theorem keepsCapture_mapCapture {f : Capture → Capture} (hf : ∀ c, captureAt s i = some c → (f c).state = c.state ∧
    (f c).mode = c.mode ∧ (f c).armed = c.armed ∧ (f c).gate = c.gate ∧ (f c).image = c.image ∧
    (s.vrst = false → c.state = .active → (f c).triggerPending = c.triggerPending)) :
    KeepsCapture j s (mapCapture i f s) := fun e c he hb => by
  by_cases hj : j = i
  · subst hj
    refine ⟨f c, ?_, hf c (captureAt_eq_some he hb)⟩
    rw [mapCapture_eq he hb]
    exact entryAt_putEntry_self _ (lt_length_of_entryAt he)
  · refine KeepsCapture.of_eq ?_ e c he hb
    unfold mapCapture
    split
    · split
      exacts [entryAt_putEntry_ne _ (Ne.symm hj), Eq.refl _]
    · exact Eq.refl _

theorem keepsCapture_gatedSnapshot (i : Nat) (c : Capture) (s : State) : KeepsCapture j s (gatedSnapshot i c s) := by
  unfold gatedSnapshot snapshot
  split
  · split
    · split
      · exact KeepsCapture.trans (firedOnly_mapCapture i _ s).vrst
          (keepsCapture_mapCapture (f := fun c => { c with seq := c.seq + 1#8, dirty := false }) fun _ _ => ⟨rfl, rfl, rfl, rfl, rfl, fun _ _ => rfl⟩)
          (.of_eq (congrArg (List.getD · j none) (offer_wt _ _)))
      · exact .rfl
    · exact .rfl
  · exact .of_eq rfl

theorem keepsCapture_fireTrigger (i : Nat) (s : State) (j : Nat) : KeepsCapture j s (fireTrigger i s) := by
  cases hc : captureAt s i with
  | none =>
    rw [fireTrigger, hc]
    exact .rfl
  | some c =>
    by_cases hp : c.state = .loading ∨ s.vrst = true
    · rw [fireTrigger_pending hc hp]
      refine keepsCapture_mapCapture fun d hd => ⟨rfl, rfl, rfl, rfl, rfl, fun hv ha => ?_⟩
      cases hc.symm.trans hd
      simp [hv, ha] at hp
    · rw [fireTrigger, hc]
      simp only [if_neg hp]
      exact keepsCapture_gatedSnapshot i c s

theorem keepsCapture_fires : ∀ (l : List Nat) (s : State) (j : Nat), KeepsCapture j s (l.foldl (fun x j => fireTrigger j x) s)
  | [], _, _ => .rfl
  | x :: l, s, j => KeepsCapture.trans (firedOnly_fireTrigger x s).vrst (keepsCapture_fireTrigger x s j)
      (keepsCapture_fires l (fireTrigger x s) j)

theorem firedOnly_fires (l : List Nat) (s : State) : FiredOnly s (l.foldl (fun x j => fireTrigger j x) s) :=
  .foldl (fun s x => firedOnly_fireTrigger x s) l s

/-! ### The end of priming -/

/-- The rises of a pass depend on the flags before it and on the modes. -/
theorem risingEntries_congr (hf : t.ftu.flags = s.ftu.flags) (hm : SameModes s t) (flags : BitVec 8) :
    risingEntries flags t = risingEntries flags s := by
  simp only [risingEntries, hf, hm.any]

theorem gatedSnapshot_congr (h : c.gate = d.gate) (i : Nat) (s : State) : gatedSnapshot i c s = gatedSnapshot i d s := by
  rw [gatedSnapshot, gatedSnapshot, h]

theorem sameModes_mapCapture {f : Capture → Capture} (hf : ∀ c, (f c).mode = c.mode) (i : Nat) (s : State) :
    SameModes s (mapCapture i f s) := fun j => by
  rw [captureAt_mapCapture]
  split
  · next h =>
    subst h
    cases captureAt s j <;> simp [hf]
  · rfl

/-- The end of priming, all of it (R33). -/
theorem completePriming_primedTo (he : entryAt s i = some e) (hb : e.body = .capture c) (hv : s.vrst = false) :
    PrimedTo i s (completePriming i s) := by
  obtain ⟨waits, mw, n, hn, hdrop⟩ := abandonWork_eq (Work.isPrimeOf i)
    { mapCapture i (fun c => { c with state := .active }) s with
      mae.primeList := s.mae.primeList.filter fun k => decide (k ≠ i) }
  rw [isPrimeOf_eq, mapCapture_eq he hb] at hdrop
  rw [isPrimeOf_eq, mapCapture_eq he hb] at hn
  refine ⟨e, c, waits, mw, n, he, hb, ?_⟩
  intro flags others active fired
  refine ⟨?_, ?_⟩
  · refine hn.imp id (And.imp id fun h => ?_)
    simpa [others] using h
  -- the state before the pass
  generalize ht : dropPrime i (mapCapture i (fun c => { c with state := .active }) s) = t
  have ht' : { t with ftu.flags := flags } = active := by
    rw [← ht, dropPrime, mapCapture_eq he hb, isPrimeOf_eq, hdrop]
    simp only [active, others, decide_not]
  have hat : active.wt = s.wt.set i (some { e with body := .capture { c with state := .active } }) := rfl
  have htwt : t.wt = active.wt := by rw [← ht']
  have hentry : entryAt active i = some { e with body := .capture { c with state := .active } } :=
    entryAt_putEntry_self (t := s) _ (lt_length_of_entryAt he)
  have hct : captureAt t i = some { c with state := .active } :=
    captureAt_eq_some (by rw [entryAt, htwt]; exact hentry) rfl
  have htf : t.ftu = s.ftu := by
    rw [← ht, dropPrime, mapCapture_eq he hb, isPrimeOf_eq, hdrop]
  have hflags : (rulesWhere (fun r => decide (r.window = i)) t).foldl (evalInto t) t.ftu.flags = flags := by
    refine (foldl_evalInto (s := t) (t := s) (i := i) (d := { c with state := .active }) (c := c) (fun r hr => of_decide_eq_true hr) hct rfl htf.symm)
  have hmodes : SameModes s t := fun j => by
    have hj : captureAt t j = captureAt (mapCapture i (fun c => { c with state := .active }) s) j := by
      rw [captureAt, captureAt, entryAt, entryAt, htwt, hat, mapCapture_eq he hb]
    rw [hj]
    exact sameModes_mapCapture (f := fun c => { c with state := .active }) (fun _ => rfl) i s j
  have hpass : runPass (rulesWhere (fun r => decide (r.window = i)) t) t = fired := by
    rw [runPass_eq, hflags, risingEntries_congr (congrArg _ htf) hmodes, ht']
  -- entry `i` after the rises
  obtain ⟨d, hd, hstate, -, -, hgate, -, hpending⟩ :=
    keepsCapture_fires (risingEntries flags s) active i _ _ hentry rfl
  have hdf : captureAt fired i = some d := captureAt_eq_some hd rfl
  have hpend : d.triggerPending = c.triggerPending := hpending hv rfl
  unfold completePriming
  simp only [ht]
  rw [hpass, hdf]
  dsimp only
  rw [hpend]
  split
  · have hcl : captureAt (mapCapture i (fun d => { d with triggerPending := false }) fired) i =
        some { d with triggerPending := false } := by rw [captureAt_mapCapture, if_pos rfl, hdf]; rfl
    rw [fireTrigger_active hcl hstate]
    · exact gatedSnapshot_congr rfl i _
    · rw [(firedOnly_mapCapture i _ fired).vrst, (firedOnly_fires _ active).vrst]
      exact hv
  · rfl

end Sys2Proof.Machine
end

section
/-! SUPPORT. Captured writes, and the reads that prime an image. -/

-- One proof is checked after another: each worker thread of Lean reserves memory of its own.
set_option Elab.async false

namespace Sys2Proof.Machine

variable {s t u v : State} {i j k n : Nat} {e : Entry} {c d : Capture}

/-! ### The trigger test -/

/-- The trigger test of a captured write to word `k` of the entry `i`, by its length, mode and armed bit (R46, R47). -/
def testTrigger (i k length : Nat) (c : Capture) (s : State) : State :=
  match c.mode with
  | .last => if k = length - 1 then fireTrigger i s else s
  | .word j => if k = j then fireTrigger i s else s
  | .after j =>
    if c.armed then fireTrigger i (mapCapture i (fun y => { y with armed := false }) s)
    else if k = j then mapCapture i (fun y => { y with armed := true }) s
    else s
  | .period _ => s
  | .rise _ => s

theorem triggerTest_eq (he : entryAt s i = some e) (hb : e.body = .capture c) (k : Nat) :
    triggerTest i k s = testTrigger i k e.length c s := by
  rw [triggerTest, he]
  simp only [hb]
  rfl

theorem testTrigger_congr (hm : d.mode = c.mode) (ha : d.armed = c.armed) (i k length : Nat) (s : State) :
    testTrigger i k length d s = testTrigger i k length c s := by rw [testTrigger, testTrigger, hm, ha]

/-- The entry `e` with fields `c` still stands at `i`, in the same state and with the same image. -/
def SameImage (i : Nat) (e : Entry) (c : Capture) (s : State) : Prop :=
  ∃ d, entryAt s i = some { e with body := .capture d } ∧ d.state = c.state ∧ d.image = c.image

theorem SameImage.fireTrigger (h : SameImage i e c s) : SameImage i e c (fireTrigger i s) := by
  obtain ⟨d, hd, hs, hi⟩ := h
  obtain ⟨x, hx, hs', -, -, -, hi', -⟩ := keepsCapture_fireTrigger i s i _ d hd rfl
  exact ⟨x, hx, hs'.trans hs, hi'.trans hi⟩

theorem SameImage.mapCapture (h : SameImage i e c s) {f : Capture → Capture} (hs : ∀ c, (f c).state = c.state)
    (hi : ∀ c, (f c).image = c.image) : SameImage i e c (mapCapture i f s) := by
  obtain ⟨d, hd, hds, hdi⟩ := h
  refine ⟨f d, ?_, (hs d).trans hds, (hi d).trans hdi⟩
  rw [mapCapture_eq hd rfl]
  exact entryAt_putEntry_self _ (lt_length_of_entryAt hd)

theorem SameImage.testTrigger (h : SameImage i e c s) (k length : Nat) (d : Capture) :
    SameImage i e c (testTrigger i k length d s) := by
  unfold Machine.testTrigger
  cases d.mode with
  | last =>
    dsimp only
    split
    exacts [h.fireTrigger, h]
  | word j =>
    dsimp only
    split
    exacts [h.fireTrigger, h]
  | after j =>
    dsimp only
    split
    · exact (h.mapCapture (f := fun y => { y with armed := false }) (fun _ => rfl) fun _ => rfl).fireTrigger
    · split
      exacts [h.mapCapture (fun _ => rfl) fun _ => rfl, h]
  | period n => exact h
  | rise f => exact h

theorem testTrigger_vrst (i k length : Nat) (c : Capture) (s : State) : (testTrigger i k length c s).vrst = s.vrst := by
  have hm : ∀ f, (mapCapture i f s).vrst = s.vrst := fun f => (firedOnly_mapCapture i f s).vrst
  unfold testTrigger
  cases c.mode with
  | after j =>
    dsimp only
    split
    · exact (firedOnly_fireTrigger i _).vrst.trans (hm _)
    · split
      exacts [hm _, rfl]
  | last | word j =>
    dsimp only
    split
    exacts [(firedOnly_fireTrigger i s).vrst, rfl]
  | period n | rise f => rfl

/-! ### A captured write -/

section
variable {data : Word} {lanes : Lanes}

/-- The state once a captured write has reached the image (R45). -/
theorem captureBytes_eq (he : entryAt s i = some e) (hb : e.body = .capture c) (k : Nat) (data : Word) (lanes : Lanes) :
    captureBytes i k data lanes s = { s with wt := s.wt.set i (some { e with
      body := .capture { c with image := writeImage k data lanes c.image, dirty := true } }) } := mapCapture_eq he hb _

theorem entryAt_captureBytes (he : entryAt s i = some e) (hb : e.body = .capture c) : 
    entryAt (captureBytes i k data lanes s) i = some { e with
      body := .capture { c with image := writeImage k data lanes c.image, dirty := true } } := by
  rw [captureBytes_eq he hb]
  exact entryAt_putEntry_self (t := s) _ (lt_length_of_entryAt he)

/-- The flags after the pass over the rules on the word that a captured write reached (R45). -/
def writeFlags (i k : Nat) (data : Word) (lanes : Lanes) (c : Capture) (s : State) : BitVec 8 :=
  passFlags (fun r => decide (r.window = i ∧ r.offset = k)) { c with image := writeImage k data lanes c.image } s

/-- A captured write to an ACTIVE entry: the rules on the word, their rises, and the trigger test (R45). -/
theorem captureHandOver_active (he : entryAt s i = some e) (hb : e.body = .capture c) (ha : c.state = .active) :
    captureHandOver i k data lanes s =
      testTrigger i k e.length c
        ((risingEntries (writeFlags i k data lanes c s) s).foldl (fun x j => fireTrigger j x)
          { captureBytes i k data lanes s with ftu.flags := writeFlags i k data lanes c s }) := by
  have hx := entryAt_captureBytes (k := k) (data := data) (lanes := lanes) he hb
  have hm : SameModes s (captureBytes i k data lanes s) :=
    sameModes_mapCapture (f := fun c => { c with image := writeImage k data lanes c.image, dirty := true }) (fun _ => rfl) i s
  have hftu : (captureBytes i k data lanes s).ftu = s.ftu := by rw [captureBytes_eq he hb]
  have hflags : (rulesWhere (fun r => decide (r.window = i ∧ r.offset = k)) (captureBytes i k data lanes s)).foldl
      (evalInto (captureBytes i k data lanes s)) (captureBytes i k data lanes s).ftu.flags = writeFlags i k data lanes c s :=
    foldl_evalInto (fun r hr => (of_decide_eq_true hr).1) (captureAt_eq_some hx rfl) rfl hftu.symm
  have hp : (fun r : Rule => decide (r.window = i) && decide (r.offset = k)) = fun r => decide (r.window = i ∧ r.offset = k) :=
    funext fun r => (Bool.decide_and ..).symm
  rw [captureHandOver, captureAt_eq_some he hb]
  simp only [ha]
  rw [hp, runPass_eq, hflags, risingEntries_congr (congrArg _ hftu) hm]
  generalize writeFlags i k data lanes c s = flags
  obtain ⟨d, hd, -, hmode, harmed, -⟩ := keepsCapture_fires (risingEntries flags s)
    { captureBytes i k data lanes s with ftu.flags := flags } i _ _ hx rfl
  rw [triggerTest_eq hd rfl]
  exact testTrigger_congr (c := c) hmode harmed i k e.length _

/-- A captured write to a LOADING entry: the trigger test, and the end of priming where it sets the last mark (R32). -/
theorem captureHandOver_loading (he : entryAt s i = some e) (hb : e.body = .capture c) (hl : c.state = .loading)
    (hv : s.vrst = false) :
    ((writeImage k data lanes c.image).any Option.isNone = true →
      captureHandOver i k data lanes s = testTrigger i k e.length c (captureBytes i k data lanes s)) ∧
    ((writeImage k data lanes c.image).all Option.isSome = true →
      PrimedTo i (testTrigger i k e.length c (captureBytes i k data lanes s)) (captureHandOver i k data lanes s)) := by
  have hx := entryAt_captureBytes (k := k) (data := data) (lanes := lanes) he hb
  have htest : triggerTest i k (captureBytes i k data lanes s) = testTrigger i k e.length c (captureBytes i k data lanes s) := by
    rw [triggerTest_eq hx rfl]
    exact testTrigger_congr (c := c) rfl rfl i k e.length _
  obtain ⟨d, hd, hs, hi⟩ := SameImage.testTrigger (c := { c with image := writeImage k data lanes c.image, dirty := true })
    ⟨_, hx, rfl, rfl⟩ k e.length c
  have hvt : (testTrigger i k e.length c (captureBytes i k data lanes s)).vrst = false := by
    rw [testTrigger_vrst, captureBytes_eq he hb]
    exact hv
  have hover : captureHandOver i k data lanes s =
      if d.allPrimed then completePriming i (testTrigger i k e.length c (captureBytes i k data lanes s))
      else testTrigger i k e.length c (captureBytes i k data lanes s) := by
    rw [captureHandOver, captureAt_eq_some he hb]
    simp only [hl]
    rw [htest, completeIfPrimed, captureAt_eq_some hd rfl]
    simp only [hs, hl, true_and]
  have hall : d.allPrimed = (writeImage k data lanes c.image).all Option.isSome := by rw [Capture.allPrimed, hi]
  rw [hover, hall]
  refine ⟨fun hany => if_neg ?_, fun hp => ?_⟩
  · rw [List.any_eq_true] at hany
    obtain ⟨x, hxm, hxn⟩ := hany
    rw [List.all_eq_true]
    intro h
    simpa [Option.isNone_iff_eq_none.mp hxn] using h x hxm
  · rw [if_pos hp]
    exact completePriming_primedTo hd rfl hvt

end

/-- Settles O24. -/
theorem captureWriteReachesImage : Obligations.CaptureWriteReachesImage := by
  refine ⟨fun addr data lanes i k e c v h htab hl hclass he hb => ?_, fun j e c x he hb => ?_⟩
  · intro row cycle image copied tested
    have hw : performCycle cycle v =
        captureHandOver i k data lanes { v with ram := writeLanes v.ram (wordAddr addr) data lanes } := by
      rw [performCycle_writeCycle, performWrite_strobed hl h.porn, hclass]
      exact if_neg (Bool.eq_false_iff.mp h.vrst)
    have hperf : ∀ {t}, performCycle cycle v = t → Performs row cycle v t := fun ht =>
      .of_cycle (fun _ _ _ => rfl) ht
    have hcopied : captureBytes i k data lanes { v with ram := writeLanes v.ram (wordAddr addr) data lanes } = copied :=
      captureBytes_eq (s := { v with ram := writeLanes v.ram (wordAddr addr) data lanes }) he hb k data lanes
    have htested : ∀ x, testTrigger i k e.length c x = tested x := fun _ => rfl
    refine ⟨fun ha => ?_, fun hs hn => ?_, fun hs hp => ?_⟩
    · intro flags
      refine hperf (hw.trans ?_)
      rw [captureHandOver_active (s := { v with ram := writeLanes v.ram (wordAddr addr) data lanes }) he hb ha, hcopied, htested]
      rfl
    · refine hperf (hw.trans ?_)
      rw [(captureHandOver_loading (s := { v with ram := writeLanes v.ram (wordAddr addr) data lanes }) he hb hs h.vrst).1 hn, hcopied, htested]
    · refine ⟨_, hperf hw, ?_⟩
      have hprimed := (captureHandOver_loading (s := { v with ram := writeLanes v.ram (wordAddr addr) data lanes })
        he hb hs h.vrst).2 hp
      rw [hcopied, htested] at hprimed
      exact hprimed
  · intro opened
    have hc := captureAt_eq_some he hb
    refine ⟨fun hp => ?_, fun ha hv => ⟨fun ho => ?_, fun ho => ?_⟩⟩
    · rw [fireTrigger_pending hc hp, mapCapture_eq he hb]
    · rw [fireTrigger_active hc ha hv, gatedSnapshot, if_neg (mt (gateOpen_iff _ _).mp ho)]
      rfl
    · rw [fireTrigger_active hc ha hv, gatedSnapshot, if_pos ((gateOpen_iff _ _).mpr ho), snapshot_eq he hb,
        windowRecord, snapshotClass_eq]
      rfl

end Sys2Proof.Machine
end

section
/-! SUPPORT. The reads that prime an image. -/

-- One proof is checked after another: each worker thread of Lean reserves memory of its own.
set_option Elab.async false

namespace Sys2Proof.Machine

variable {s t : State} {i k n : Nat} {e : Entry} {c d : Capture}

/-! ### The image -/

theorem length_fillImage (k : Nat) (w : Word) (img : List (Option Byte)) : (fillImage k w img).length = img.length := by
  unfold fillImage writeImage
  dsimp only
  split <;> split <;> simp

/-- A prime read fills the unprimed bytes of its word, and no other byte (R30). -/
theorem getElem?_fillImage (k : Nat) (w : Word) (img : List (Option Byte)) (x : Nat) : (fillImage k w img)[x]? =
    if img[x]? = some none ∧ x = 2 * k then some (some (loByte w))
    else if img[x]? = some none ∧ x = 2 * k + 1 then some (some (hiByte w))
    else img[x]? := by
  have hset : ∀ (l : List (Option Byte)) (y : Nat) (b : Byte) (p : Bool), (l.getD y none).isNone = p → ∀ x,
      (if p = true then l.set y (some b) else l)[x]? = if l[x]? = some none ∧ x = y then some (some b) else l[x]? := by
    intro l y b p hp x
    subst hp
    by_cases hx : x = y
    · subst hx
      cases hl : l[x]? with
      | none => simp [List.getD_eq_getElem?_getD, List.getElem?_eq_none_iff.mp hl]
      | some o =>
        obtain ⟨hlt, ho⟩ := List.getElem?_eq_some_iff.mp hl
        rw [List.getD_eq_getElem?_getD, hl]
        cases o <;> simp [hlt, ho]
    · simp only [hx, and_false, if_false]
      split
      exacts [List.getElem?_set_ne (Ne.symm hx), rfl]
  have hlow := hset img (2 * k) (loByte w) _ rfl
  have hother : ((if (img.getD (2 * k) none).isNone = true then img.set (2 * k) (some (loByte w)) else img).getD (2 * k + 1) none).isNone =
      (img.getD (2 * k + 1) none).isNone := by
    rw [List.getD_eq_getElem?_getD, hlow, if_neg (by omega), List.getD_eq_getElem?_getD]
  unfold fillImage writeImage
  dsimp only
  rw [hset _ (2 * k + 1) (hiByte w) _ hother x, hlow]
  by_cases h0 : x = 2 * k
  · simp [h0]
  · simp [h0]

/-! ### The end of a job -/

/-- With no PRIME job of the window anywhere there is none to drop. -/
theorem dropPrime_of_none (hr : s.mae.running = none) (hs : ∀ j ∈ s.mae.stack, j.work ≠ .prime i) (hp : i ∉ s.mae.primeList) :
    dropPrime i s = s := by
  have hlist : s.mae.primeList.filter (fun k => decide (k ≠ i)) = s.mae.primeList :=
    List.filter_eq_self.mpr fun k hk => decide_eq_true fun h => hp (h ▸ hk)
  have hstack : s.mae.stack.filter (fun j => !decide (j.work = .prime i)) = s.mae.stack :=
    List.filter_eq_self.mpr fun j hj => by simp [hs j hj]
  rw [dropPrime, hlist, abandonWork, noteWaits, isPrimeOf_eq]
  simp only [hr, hstack, Option.any_none, Bool.false_eq_true, if_false]
  rw [← hr]

/-- Where priming completed nothing more of the window's job is to end. -/
theorem settlePrime_primed (h : PrimedTo i s t) (hr : s.mae.running = some ⟨.prime i, n⟩) : settlePrime i t = t := by
  obtain ⟨e, c, waits, mw, p, he, hb, -, ht⟩ := h
  have hfired : FiredOnly { s with
      wt := s.wt.set i (some { e with body := .capture { c with state := .active } })
      ftu.flags := passFlags (fun r => decide (r.window = i)) c s
      bpu.passOver := p
      mae := { s.mae with
        running := s.mae.running.filter fun j => decide (j.work ≠ .prime i)
        stack := s.mae.stack.filter fun j => decide (j.work ≠ .prime i)
        primeList := s.mae.primeList.filter fun k => decide (k ≠ i)
        waits := waits
        mirrorWaits := mw } } t := by
    rw [ht]
    split
    · exact ((firedOnly_fires _ _).trans (firedOnly_mapCapture i _ _)).trans (firedOnly_fireTrigger i _)
    · exact firedOnly_fires _ _
  obtain ⟨wt, m, uq, au, att, rfl⟩ := hfired
  unfold settlePrime
  split
  · refine dropPrime_of_none ?_ (fun j hj => ?_) ?_
    · simp [hr, Option.filter]
    · have hj' : j ∈ s.mae.stack.filter fun j => decide (j.work ≠ .prime i) := hj
      exact of_decide_eq_true (List.mem_filter.mp hj').2
    · intro hi
      have hi' : i ∈ s.mae.primeList.filter fun k => decide (k ≠ i) := hi
      exact of_decide_eq_true (List.mem_filter.mp hi').2 rfl
  · rfl

/-- A PRIME job has the read of its next unprimed word ready (R30). -/
theorem readyWord_prime (hp : s.porn = true) (hv : s.vrst = false) (hr : s.mae.running = some ⟨.prime i, n⟩)
    (he : entryAt s i = some e) (hb : e.body = .capture c) :
    readyWord s = (nextUnprimed c e.length n).map fun k => ⟨.prime, e.base + 2 * k, none, k⟩ := by
  rw [readyWord, engineOn, hp, hv, hr]
  simp only [Bool.not_false, Bool.and_self, if_true, Option.bind_some, jobWord, he, captureAt_eq_some he hb]

/-- In a LOADING entry priming completes exactly where every mark is set (R32, R33). -/
theorem completeIfPrimed_loading (he : entryAt s i = some e) (hb : e.body = .capture c) (hl : c.state = .loading) :
    completeIfPrimed i s = if c.image.all Option.isSome = true then completePriming i s else s := by
  rw [completeIfPrimed, captureAt_eq_some he hb]
  simp only [hl, true_and, Capture.allPrimed]

/-- The running PRIME job that has no word left ends, and changes nothing else of the blocks around it (R30). -/
theorem dropPrime_running (hr : s.mae.running = some ⟨.prime i, n⟩) : (dropPrime i s).mae.running = none ∧
    (dropPrime i s).wt = s.wt ∧ (dropPrime i s).uq = s.uq ∧ (dropPrime i s).ftu = s.ftu := by
  obtain ⟨waits, mw, m, -, ht⟩ := abandonWork_eq (Work.isPrimeOf i)
    { s with mae.primeList := s.mae.primeList.filter fun k => decide (k ≠ i) }
  rw [dropPrime, ht, isPrimeOf_eq]
  refine ⟨?_, rfl, rfl, rfl⟩
  simp [hr, Option.filter]

/-- Settles O49. -/
theorem primeFills : Obligations.PrimeFills := by
  intro i n k e c before s h hr he hb hl hk v
  have hword : currentWord s = some ⟨.prime, e.base + 2 * k, none, k⟩ := by
    rw [currentWord, h.onBus]
    exact (readyWord_prime h.porn h.vrst hr he hb).trans (by rw [hk]; rfl)
  let d := { c with image := fillImage k v c.image }
  let filled : State := { s with
    wt := s.wt.set i (some { e with body := .capture d })
    bpu.passOver := 0
    mae.running := some ⟨.prime i, k + 1⟩ }
  have hfilled : entryAt filled i = some { e with body := .capture d } :=
    entryAt_putEntry_self (t := s) _ (lt_length_of_entryAt he)
  have hcomplete : completeWord ⟨.prime, e.base + 2 * k, none, k⟩ s = settlePrime i (completeIfPrimed i filled) := by
    have hbus : ({ s with bpu.onBus := none, bpu.passOver := 0 } : State) = { s with bpu.passOver := 0 } := by rw [← h.onBus]
    rw [completeWord, hbus]
    dsimp only
    rw [hr]
    dsimp only
    show primeFilled i k _ _ _ = _
    rw [primeFilled, mapCapture_eq (s := { s with bpu.passOver := 0 }) he hb]
    rfl
  have hface : face (settlePrime i (completeIfPrimed i filled)) = face s := by
    rw [face_settlePrime, face_completeIfPrimed]
    rfl
  have hx : exec .primeRead before = .next (settle (settlePrime i (completeIfPrimed i filled))) := by
    have hhold : (settle (settlePrime i (completeIfPrimed i filled))).bpu.hold = none :=
      (congrArg Face.hold ((face_settle _).trans hface)).trans h.hold
    show Host.Outcome.next (completeRead s) = _
    rw [completeRead, hword]
    simp only [Option.isNone_none, if_true, completeBus, hcomplete]
    rw [releaseHold, hhold]
  refine ⟨_, fillImage k v c.image, hx, ?_, length_fillImage k v _, getElem?_fillImage k v _, ?_⟩
  · exact congrArg Face.ram hface
  intro d filled
  have hif := completeIfPrimed_loading (s := filled) (c := d) hfilled rfl hl
  refine ⟨fun hp => ?_, fun hp => ?_⟩
  · have hprimed : PrimedTo i filled (completePriming i filled) := completePriming_primedTo hfilled rfl h.vrst
    rw [hif, if_pos hp, settlePrime_primed hprimed rfl]
    exact hprimed
  · have hw := readyWord_prime (s := filled) (c := d) (n := k + 1) h.porn h.vrst rfl hfilled rfl
    rw [hif, if_neg (Bool.eq_false_iff.mp hp), settlePrime, hw, Option.isNone_map]
    refine ⟨fun hn => if_neg (by simpa using hn), fun hn => ?_⟩
    have hn' : nextUnprimed d e.length (k + 1) = none := hn
    rw [if_pos (Option.isNone_iff_eq_none.mpr hn')]
    exact dropPrime_running rfl

end Sys2Proof.Machine
end

section
/-! SUPPORT. The offer of a record, the snapshot and the query. -/

-- One proof is checked after another: each worker thread of Lean reserves memory of its own.
set_option Elab.async false

namespace Sys2Proof.Machine

variable {s t : State} {i n k : Nat} {e : Entry} {c : Capture} {w : CmdWrite} {dt : Tick} {before : State}

/-! ### The words of a query -/

theorem getLsbD_bitAt (b : Bool) (hn : n < 16) (k : Nat) : (bitAt b n).getLsbD k = (b && decide (k = n)) := by
  unfold bitAt
  cases b
  · simp
  · rw [if_pos rfl, BitVec.getLsbD_shiftLeft]
    by_cases hk : k = n
    · subst hk; simp [hn]
    · by_cases hlt : k < n
      · simp [hk, hlt]
      · have : k - n ≠ 0 := by omega
        simp [hk, this, BitVec.getLsbD_one]

theorem loByte_or_bitAt (v : Word) (b : Bool) (h8 : 8 ≤ n) (hn : n < 16) : loByte (v ||| bitAt b n) = loByte v := by
  refine BitVec.eq_of_getLsbD_eq fun k hk => ?_
  have hkn : k ≠ n := by omega
  simp [loByte, hk, getLsbD_bitAt b hn, hkn]

/-- The data words of a query but for the first and the fifth (Table 11-3). -/
theorem queryWords_eq (s : State) (e : Entry) : ∃ kind detail, queryWords s e =
    [kind, word (e.base % 65536), word (e.base / 65536), mkWord e.tag (BitVec.ofNat 8 e.length), detail, word (freeStore s)] ∧
    kind.getLsbD 0 = decide (e.origin = .radioLoad) ∧ kind.getLsbD 1 = !e.body.isCapture ∧ kind.getLsbD 2 = e.isActive ∧
    (∀ c, e.body = .capture c → loByte detail = c.seq ∧ detail.getLsbD 8 = c.dirty ∧ detail.getLsbD 9 = c.armed ∧
      detail.getLsbD 10 = c.triggerPending) ∧
    (∀ m, e.body = .mirror m → m.age ≤ 255 → (loByte detail).toNat = m.age ∧ detail.getLsbD 8 = m.staleReported) := by
  have horigin : e.origin.isLocal = !decide (e.origin = .radioLoad) := by cases e.origin <;> rfl
  have hbit : ∀ (b : Bool) (n : Nat), n < 16 → ∀ k, (bitAt b n).getLsbD k = (b && decide (k = n)) := fun b _ hn k =>
    getLsbD_bitAt b hn k
  refine ⟨_, _, rfl, ?_, ?_, ?_, fun c hb => ?_, fun m hb ha => ?_⟩
  · rw [BitVec.getLsbD_or, BitVec.getLsbD_or, hbit _ 0 (by decide), hbit _ 1 (by decide), hbit _ 2 (by decide), horigin]
    simp
  · rw [BitVec.getLsbD_or, BitVec.getLsbD_or, hbit _ 0 (by decide), hbit _ 1 (by decide), hbit _ 2 (by decide)]
    simp
  · rw [BitVec.getLsbD_or, BitVec.getLsbD_or, hbit _ 0 (by decide), hbit _ 1 (by decide), hbit _ 2 (by decide)]
    simp
  · simp only [hb]
    refine ⟨?_, ?_, ?_, ?_⟩
    · rw [loByte_or_bitAt _ _ (by decide) (by decide), loByte_or_bitAt _ _ (by decide) (by decide),
        loByte_or_bitAt _ _ (by decide) (by decide), loByte_mkWord]
    all_goals
      rw [BitVec.getLsbD_or, BitVec.getLsbD_or, BitVec.getLsbD_or, hbit _ 8 (by decide), hbit _ 9 (by decide),
        hbit _ 10 (by decide), getLsbD_mkWord]
      simp
  · simp only [hb]
    refine ⟨?_, ?_⟩
    · rw [loByte_or_bitAt _ _ (by decide) (by decide)]
      simp [loByte, word]
      omega
    · have : (word m.age).getLsbD 8 = false := by
        rw [word, BitVec.getLsbD_ofNat, Nat.testBit_lt_two_pow (by omega)]
        rfl
      rw [BitVec.getLsbD_or, this, hbit _ 8 (by decide)]
      simp

/-! ### The first of a list -/

section
variable {α : Type} {p : α → Bool} {f : α → α} {pre post : List α} {x : α}

theorem updateFirst_split (hpre : ∀ y ∈ pre, p y = false) (hx : p x = true) :
    updateFirst p f (pre ++ x :: post) = some (pre ++ f x :: post) := by
  induction pre with
  | nil => simp [updateFirst, hx]
  | cons y pre ih =>
    have hy := hpre y List.mem_cons_self
    simp [updateFirst, hy, ih fun z hz => hpre z (List.mem_cons_of_mem y hz)]

theorem updateFirst_none {l : List α} (h : ∀ y ∈ l, p y = false) : updateFirst p f l = none := by
  induction l with
  | nil => rfl
  | cons y l ih => simp [updateFirst, h y List.mem_cons_self, ih fun z hz => h z (List.mem_cons_of_mem y hz)]

theorem removeFirst_split (hpre : ∀ y ∈ pre, p y = false) (hx : p x = true) :
    removeFirst p (pre ++ x :: post) = some (pre ++ post) := by
  induction pre with
  | nil => simp [removeFirst, hx]
  | cons y pre ih =>
    have hy := hpre y List.mem_cons_self
    simp [removeFirst, hy, ih fun z hz => hpre z (List.mem_cons_of_mem y hz)]

theorem removeFirst_none {l : List α} (h : ∀ y ∈ l, p y = false) : removeFirst p l = none := by
  induction l with
  | nil => rfl
  | cons y l ih => simp [removeFirst, h y List.mem_cons_self, ih fun z hz => h z (List.mem_cons_of_mem y hz)]

end

/-! ### The offer of a record -/

section
variable {r : Record} {pre post : List Record} {old : Record}

theorem mergesWith_iff (r y : Record) :
    mergesWith r y = true ↔ y.state = .queued ∧ (r.sharesPlace y ∨ (r.kind = .join ∧ y.kind = .join)) := by
  rw [mergesWith, Bool.and_eq_true, Record.isQueued, decide_eq_true_eq]
  refine and_congr_right fun _ => ?_
  cases hk : r.kind <;> simp [Record.sharesPlace, hk, eq_comm (a := r.window)]

theorem mergesWith_false {r y : Record}
    (h : ¬(y.state = .queued ∧ (r.sharesPlace y ∨ (r.kind = .join ∧ y.kind = .join)))) : mergesWith r y = false :=
  Bool.eq_false_iff.mpr (mt (mergesWith_iff r y).mp h)

/-- An offered record that meets a waiting one in its place supersedes it (R61, R64). -/
theorem offer_supersedes (h : s.uq.records = pre ++ old :: post) (ho : mergesWith r old = true)
    (hpre : ∀ y ∈ pre, mergesWith r y = false) (hk : r.kind ≠ .join) : offer r s = { s with uq := { s.uq with
      records := pre ++ supersedeBy r old :: post
      superseded := bump s.uq.superseded } } := by
  have hu : updateFirst (mergesWith r) (supersedeBy r) s.uq.records = some (pre ++ supersedeBy r old :: post) := by
    rw [h]
    exact updateFirst_split hpre ho
  have hp : r.kind ≠ .provisionReply := fun hk => by simp [mergesWith, hk] at ho
  cases hkind : r.kind with
  | join => exact absurd hkind hk
  | provisionReply => exact absurd hkind hp
  | window | stopAck => simp only [offer, offerTo, hkind, hu, Bool.false_eq_true, if_false]

/-- A JOIN that meets a waiting one renews it (R63). -/
theorem offer_renews (h : s.uq.records = pre ++ old :: post) (ho : mergesWith r old = true)
    (hpre : ∀ y ∈ pre, mergesWith r y = false) (hk : r.kind = .join) : offer r s = { s with uq := { s.uq with
      records := pre ++ renewJoin r old :: post } } := by
  have hu : updateFirst (mergesWith r) (renewJoin r) s.uq.records = some (pre ++ renewJoin r old :: post) := by
    rw [h]
    exact updateFirst_split hpre ho
  simp only [offer, offerTo, hk, hu, Bool.false_eq_true, if_false]

/-- An offered record that meets none joins at the tail, by eviction where the list is full, or is dropped (R62). -/
theorem offer_joins (hn : ∀ y ∈ s.uq.records, mergesWith r y = false) : offer r s =
    if s.uq.records.length < 24 then { s with uq := { s.uq with records := s.uq.records ++ [r] } }
    else withCause .queueDrop { s with uq := { s.uq with
      records := ((makeRoom r.cls s.uq.records).map (· ++ [r])).getD s.uq.records
      queueDrops := bump s.uq.queueDrops } } := by
  have hu : ∀ f, updateFirst (mergesWith r) f s.uq.records = none := fun f => updateFirst_none hn
  have hto : offerTo s.uq r = joinTail s.uq r := by
    cases hk : r.kind <;> simp only [offerTo, hk, hu]
  by_cases hl : s.uq.records.length < 24
  · have hj : joinTail s.uq r = ({ s.uq with records := s.uq.records ++ [r] }, false) := if_pos hl
    rw [if_pos hl, offer, hto, hj]
    rfl
  · have hj : joinTail s.uq r = ({ s.uq with
        records := ((makeRoom r.cls s.uq.records).map (· ++ [r])).getD s.uq.records
        queueDrops := bump s.uq.queueDrops }, true) := by
      refine (if_neg hl).trans ?_
      cases makeRoom r.cls s.uq.records <;> rfl
    rw [if_neg hl, offer, hto, hj]
    exact raiseCause_eq _ _

theorem evictOldest_split {cls : RecordClass} (hq : old.state = .queued) (hc : old.cls = cls)
    (hpre : ∀ y ∈ pre, y.state = .queued → y.cls ≠ cls) : evictOldest cls (pre ++ old :: post) = some (pre ++ post) :=
  removeFirst_split (fun y hy => by simpa [Record.isQueued] using hpre y hy) (by simp [Record.isQueued, hq, hc])

theorem evictOldest_none {cls : RecordClass} {l : List Record} (h : ¬∃ y ∈ l, y.state = .queued ∧ y.cls = cls) :
    evictOldest cls l = none :=
  removeFirst_none fun y hy => by
    simpa [Record.isQueued] using fun hq hc => h ⟨y, hy, hq, hc⟩

end

theorem runCommand_queryWindow (h : s.passOnly = false) (args : List Word) :
    runCommand codeQueryWindow args s = queryWindow args s := by rw [runCommand, h]; rfl

theorem runCommand_snapshotNow (h : s.passOnly = false) (args : List Word) :
    runCommand codeSnapshotNow args s = replyWith (snapshotNow args s) := by rw [runCommand, h]; rfl

/-- Settles O40. -/
theorem queryAndSnapshot : Obligations.QueryAndSnapshot := by
  refine ⟨fun dt w before s ha htab => ?_, fun r x => ?_⟩
  · intro i
    have h1 : argNat ((s.bpu.copy.drop 1).take 15) 1 = i := argNat_copy s (by decide) (by decide)
    refine ⟨fun h => ?_, fun h => ?_⟩
    · intro u
      have hx : exec (.queryWindow dt w) before = .next (queryWindow ((s.bpu.copy.drop 1).take 15) u) := by
        rw [← runCommand_queryWindow (s := u) h.normal]
        exact exec_commandRows_run (p := (codeQueryWindow, .queryWindow)) (by simp [commandRows]) ha h
      rw [hx, queryWindow, h1]
      refine ⟨fun hi => if_pos hi ▸ rfl, fun hi hn => ?_, fun e hi he => ?_⟩
      · have hn' : entryAt u i = none := hn
        rw [if_neg (Nat.not_lt.mpr hi), hn']
      · have he' : entryAt u i = some e := he
        rw [if_neg (Nat.not_lt.mpr hi), he']
        obtain ⟨kind, detail, hwords, h0, hk1, h2, hcap, hmir⟩ := queryWords_eq u e
        refine ⟨kind, detail, ?_, h0, ?_, fun c hc => ?_, fun m hm ha => ?_⟩
        · dsimp only
          rw [hwords]
          rfl
        · rw [hk1, mirrorAt, he]
          cases hb : e.body <;> simp [EntryBody.isCapture, hb]
        · obtain ⟨x, hx, hb⟩ := exists_entry_of_captureAt hc
          cases he.symm.trans hx
          exact ⟨by rw [h2, Entry.isActive, hb], hcap c hb⟩
        · have hb : e.body = .mirror m := by
            cases hb : e.body <;> simp [mirrorAt, he, hb] at hm ⊢
            exact hm
          exact ⟨by rw [h2, Entry.isActive, hb], hmir m hb ha⟩
    · intro u
      have hx : exec (.snapshotNow dt w) before = .next (replyWith (snapshotNow ((s.bpu.copy.drop 1).take 15) u)) := by
        rw [← runCommand_snapshotNow (s := u) h.normal]
        exact exec_commandRows_run (p := (codeSnapshotNow, .snapshotNow)) (by simp [commandRows]) ha h
      rw [hx, snapshotNow, h1]
      refine ⟨fun hi => by rw [if_pos hi]; rfl, fun hi hl => ?_, fun e c hi he hb hstate => ?_⟩
      · rw [if_neg (Nat.not_lt.mpr hi)]
        cases hc : captureAt u i with
        | none => rfl
        | some c =>
          have hs : c.state = .loading := hl c hc
          simp only [hs, reduceCtorEq, if_false]
          rfl
      · intro record after cleaned
        have hc : captureAt u i = some c := captureAt_eq_some (s := u) he hb
        refine ⟨?_, fun hnone hlen => ?_⟩
        · rw [if_neg (Nat.not_lt.mpr hi), hc]
          simp only [hstate, if_true]
          rw [snapshot_eq (s := u) he hb]
          rfl
        · refine (offer_joins (s := cleaned) (r := record) fun y hy => mergesWith_false ?_).trans (if_pos hlen)
          rintro ⟨hq, (⟨-, hk, hw⟩ | ⟨hk, -⟩) | ⟨hk, -⟩⟩
          · exact hnone y hy hk hw.symm hq
          · cases hk
          · cases hk
  · intro rs dropped evicts holds merges
    refine ⟨fun pre old post hsplit ho hpre => ⟨fun hk => ?_, fun hk => ?_⟩, fun hn => ?_⟩
    · exact offer_supersedes hsplit ((mergesWith_iff r old).mpr ho) (fun y hy => mergesWith_false (hpre y hy)) hk
    · exact offer_renews hsplit ((mergesWith_iff r old).mpr ho) (fun y hy => mergesWith_false (hpre y hy)) hk
    have hjoin := offer_joins (s := x) (r := r) fun y hy => mergesWith_false (hn y hy)
    refine ⟨fun hl => hjoin.trans (if_pos hl), fun hl => ?_⟩
    rw [if_neg (Nat.not_lt.mpr hl)] at hjoin
    have hdrop : makeRoom r.cls rs = none → offer r x = dropped := fun hm => by
      have hm' : makeRoom r.cls x.uq.records = none := hm
      rw [hjoin, hm']
      rfl
    have hevict : ∀ pre old post, makeRoom r.cls (pre ++ old :: post) = some (pre ++ post) → rs = pre ++ old :: post →
        offer r x = { dropped with uq := { dropped.uq with records := pre ++ post ++ [r] } } := fun pre old post hm hr => by
      have hm' : makeRoom r.cls x.uq.records = some (pre ++ post) := (congrArg _ hr).trans hm
      rw [hjoin, hm']
      rfl
    refine ⟨fun hc => hdrop (by rw [hc, makeRoom]), fun hc => ⟨fun pre old post hr hq ho hpre => ?_, fun hb => ?_⟩, fun hc =>
      ⟨fun pre old post hr hq ho hpre => ?_, fun hb pre old post hr hq ho hpre => ?_, fun hb hr => ?_⟩⟩
    · exact hevict pre old post (by rw [hc, makeRoom, evictOldest_split hq ho hpre]) hr
    · exact hdrop (by rw [hc, makeRoom, evictOldest_none hb])
    · exact hevict pre old post (by rw [hc, makeRoom, evictOldest_split hq ho hpre]) hr
    · have hb' : evictOldest .bulk (pre ++ old :: post) = none := hr ▸ evictOldest_none hb
      exact hevict pre old post (by rw [hc, makeRoom, hb', evictOldest_split hq ho hpre]) hr
    · exact hdrop (by rw [hc, makeRoom, evictOldest_none hb, evictOldest_none hr])

end Sys2Proof.Machine
end

section
/-! SUPPORT. The windows of one origin cleared together: what a set of clears takes with it. -/

-- One proof is checked after another: each worker thread of Lean reserves memory of its own.
set_option Elab.async false

namespace Sys2Proof.Machine

variable {s t : State} {i : Nat} {e : Entry} {pc pm p q : Nat → Bool} {wt : List (Option Entry)}

/-! ### Rules cleared one set after another -/

theorem rulesLeft_rulesLeft (p q : Rule → Bool) (rules : List (Option Rule)) :
    rulesLeft q (rulesLeft p rules) = rulesLeft (fun r => p r || q r) rules := by
  simp only [rulesLeft, List.map_map]
  refine List.map_congr_left fun r _ => ?_
  cases r with
  | none => rfl
  | some x => cases hp : p x <;> simp [Option.filter, hp]

theorem clearsFlag_rulesLeft (p q : Rule → Bool) (f : Nat) (rules : List (Option Rule)) :
    (clearsFlag p f rules || clearsFlag q f (rulesLeft p rules)) = clearsFlag (fun r => p r || q r) f rules := by
  induction rules with
  | nil => rfl
  | cons r rules ih =>
    have hcons : ∀ (p : Rule → Bool) r rules, clearsFlag p f (r :: rules) =
        (r.any (fun x => p x && decide (x.target = f)) || clearsFlag p f rules) := fun _ _ _ => rfl
    have hleft : rulesLeft p (r :: rules) = (r.filter fun x => !p x) :: rulesLeft p rules := rfl
    rw [hleft, hcons, hcons, hcons, ← ih]
    cases r with
    | none => rfl
    | some x =>
      cases hp : p x
      · simp [Option.filter, hp, Bool.or_left_comm]
      · by_cases ht : x.target = f <;> simp [Option.filter, hp, ht]

/-- Two sets of rules cleared one after another are cleared together. -/
theorem RulesCleared.trans {p q : Rule → Bool} {u : State} (h : RulesCleared p s t) (h' : RulesCleared q t u) :
    RulesCleared (fun r => p r || q r) s u := by
  obtain ⟨f, rfl, hf⟩ := h
  obtain ⟨g, rfl, hg⟩ := h'
  refine ⟨g, by rw [rulesLeft_rulesLeft], fun k hk => ?_⟩
  rw [hg k hk, ← clearsFlag_rulesLeft]
  exact (congrArg (· && _) (hf k hk)).trans (by rw [Bool.and_assoc, ← Bool.not_or])

/-! ### Windows cleared together -/

/-- A record once the CAPTURE windows that meet `p` are cleared: removed, or detached while ON_AIR (R73). -/
def withdrawWhere (p : Nat → Bool) (r : Record) : Option Record :=
  if r.window.any p then (if r.state = .onAir then some { r with detached := true, window := none } else none) else some r

/-- The work stays once the CAPTURE windows that meet `pc` and the MIRROR windows that meet `pm` are cleared (R26). -/
def workKept (pc pm : Nat → Bool) : Work → Bool
  | .prime i => !pc i
  | .mirror i _ _ | .age i => !pm i
  | .attention | .stop _ | .result _ | .ring _ _ _ | .status _ => true

/-- `t` is `s` with the CAPTURE windows that meet `pc` and the MIRROR windows that meet `pm` cleared, and the Window Table
`wt` (R23 to R27). -/
def TakenOff (pc pm : Nat → Bool) (wt : List (Option Entry)) (s t : State) : Prop :=
  ∃ flags waits mirrorWaits passOver,
    t = { s with
      wt := wt
      uq.records := s.uq.records.filterMap (withdrawWhere pc)
      ftu := { s.ftu with rules := rulesLeft (fun r => pc r.window) s.ftu.rules, flags := flags }
      bpu.passOver := passOver
      mae := { s.mae with
        primeList := s.mae.primeList.filter fun k => !pc k
        mirrorList := s.mae.mirrorList.filter fun j => !pm j.index
        running := s.mae.running.filter fun j => workKept pc pm j.work
        stack := s.mae.stack.filter fun j => workKept pc pm j.work
        waits := waits
        mirrorWaits := mirrorWaits } } ∧
    (∀ f < 8, conditionFlag flags f = (conditionFlag s.ftu.flags f && !clearsFlag (fun r => pc r.window) f s.ftu.rules)) ∧
    (s.mae.running.filter (fun j => workKept pc pm j.work) = s.mae.running → passOver = s.bpu.passOver ∧
      (s.mae.stack.length < 2 → s.mae.mirrorWaits = 0 → waits = s.mae.waits ∧ mirrorWaits = 0))

theorem workKept_none : workKept (fun _ => false) (fun _ => false) = fun _ => true := by
  funext w
  cases w <;> rfl

theorem filterMap_withdrawWhere_none (rs : List Record) : rs.filterMap (withdrawWhere fun _ => false) = rs := by
  have : withdrawWhere (fun _ => false) = some := by
    funext r
    simp [withdrawWhere]
  rw [this, List.filterMap_some]

theorem option_filter_true {α : Type} (o : Option α) : (o.filter fun _ => true) = o := by cases o <;> rfl

theorem rulesLeft_none (rules : List (Option Rule)) : rulesLeft (fun _ => false) rules = rules := by
  simp [rulesLeft, option_filter_true]

theorem takenOff_refl (s : State) : TakenOff (fun _ => false) (fun _ => false) s.wt s s := by
  refine ⟨s.ftu.flags, s.mae.waits, s.mae.mirrorWaits, s.bpu.passOver, ?_, ?_, fun _ => ⟨rfl, fun _ h0 => ⟨rfl, h0⟩⟩⟩
  · simp only [filterMap_withdrawWhere_none, rulesLeft_none, workKept_none, Bool.not_false, List.filter_true, option_filter_true]
  · simp [clearsFlag]

theorem withdrawOf_withdrawWhere (p : Nat → Bool) (i : Nat) (r : Record) :
    (withdrawWhere p r).bind (withdrawOf i) = withdrawWhere (fun k => p k || decide (k = i)) r := by
  rw [withdrawOf_eq]
  unfold withdrawWhere
  cases hw : r.window with
  | none => simp [hw]
  | some k =>
    by_cases hk : k = i
    · by_cases hs : r.state = .onAir <;> cases hp : p k <;> simp_all
    · by_cases hs : r.state = .onAir <;> cases hp : p k <;> simp_all

theorem option_filter_filter {α : Type} (f g : α → Bool) (o : Option α) :
    (o.filter f).filter g = o.filter fun x => f x && g x := by
  cases o with
  | none => rfl
  | some x => cases hf : f x <;> simp [Option.filter, hf]

theorem option_filter_and {α : Type} {f g : α → Bool} {o : Option α} (h : (o.filter fun x => f x && g x) = o) :
    o.filter f = o ∧ o.filter g = o := by
  cases o with
  | none => exact ⟨rfl, rfl⟩
  | some x => cases hf : f x <;> cases hg : g x <;> simp_all [Option.filter]

/-- One CAPTURE window more is cleared. -/
theorem TakenOff.clear_capture {c : Capture} (h : TakenOff pc pm wt s t) (he : entryAt t i = some e)
    (hb : e.body = .capture c) (hr : s.ftu.rules.length = 8) :
    TakenOff (fun k => pc k || decide (k = i)) pm (wt.set i none) s (clearEntry i t) := by
  obtain ⟨flags, waits, mw, n, ht, hflags, hkept⟩ := h
  have hr' : t.ftu.rules.length = 8 := by rw [ht]; simpa [rulesLeft] using hr
  obtain ⟨flags', waits', mw', n', ht', hflags', hkept'⟩ := clearEntry_capture he hb hr'
  have hwork : (fun j : Job => workKept (fun k => pc k || decide (k = i)) pm j.work) =
      fun j => workKept pc pm j.work && !decide (j.work = .prime i) := by
    funext j
    cases hj : j.work <;> simp [workKept]
  subst ht
  refine ⟨flags', waits', mw', n', ?_, fun f hf => ?_, fun hk => ?_⟩
  · rw [ht']
    simp only [hwork, List.filter_filter, option_filter_filter, rulesLeft_rulesLeft, List.filterMap_filterMap,
      withdrawOf_withdrawWhere, Bool.not_or, Bool.and_comm, decide_not]
  · rw [hflags' f hf, ← clearsFlag_rulesLeft]
    exact (congrArg (· && _) (hflags f hf)).trans (by rw [Bool.and_assoc, ← Bool.not_or])
  · rw [hwork] at hk
    obtain ⟨hk1, hk2⟩ := option_filter_and hk
    obtain ⟨hn, hw⟩ := hkept hk1
    obtain ⟨hn', hw'⟩ := hkept' (by dsimp only; rw [hk1, hk2])
    refine ⟨hn'.trans hn, fun hl h0 => ?_⟩
    obtain ⟨hw1, hm1⟩ := hw hl h0
    obtain ⟨hw2, hm2⟩ := hw' (lt_of_le_of_lt (List.length_filter_le _ _) hl)
    exact ⟨hw2.trans hw1, hm2.trans hm1⟩

/-- One MIRROR window more is cleared. -/
theorem TakenOff.clear_mirror {m : Mirror} (h : TakenOff pc pm wt s t) (he : entryAt t i = some e)
    (hb : e.body = .mirror m) : TakenOff pc (fun k => pm k || decide (k = i)) (wt.set i none) s (clearEntry i t) := by
  obtain ⟨flags, waits, mw, n, ht, hflags, hkept⟩ := h
  obtain ⟨waits', mw', n', ht', hkept'⟩ := clearEntry_mirror he hb
  have hwork : (fun j : Job => workKept pc (fun k => pm k || decide (k = i)) j.work) =
      fun j => workKept pc pm j.work && !j.work.isMirrorOf i := by
    funext j
    cases hj : j.work <;> simp [workKept, Work.isMirrorOf]
  subst ht
  refine ⟨flags, waits', mw', n', ?_, hflags, fun hk => ?_⟩
  · rw [ht']
    simp only [hwork, List.filter_filter, option_filter_filter, Bool.not_or, Bool.and_comm, decide_not]
  · rw [hwork] at hk
    obtain ⟨hk1, hk2⟩ := option_filter_and hk
    obtain ⟨hn, hw⟩ := hkept hk1
    obtain ⟨hn', hw'⟩ := hkept' (by dsimp only; rw [hk1, hk2])
    refine ⟨hn'.trans hn, fun hl h0 => ?_⟩
    obtain ⟨hw1, hm1⟩ := hw hl h0
    obtain ⟨hw2, hm2⟩ := hw' (lt_of_le_of_lt (List.length_filter_le _ _) hl)
    exact ⟨hw2.trans hw1, hm2 hm1⟩

/-! ### The windows of one origin -/

/-- Index `k` holds an entry of the origin. -/
def ofOrigin (o : Origin) (s : State) (k : Nat) : Bool := decide (originAt s k = some o)

/-- Every entry of an origin is cleared, and no other (R35, R37). -/
theorem clearEntriesOf_takenOff (o : Origin) (hw : s.wt.length = 16) (hr : s.ftu.rules.length = 8) :
    ∃ wt, (∀ k, wt.getD k none = if ofOrigin o s k then none else s.wt.getD k none) ∧
      TakenOff (fun k => ofOrigin o s k && (captureAt s k).isSome) (fun k => ofOrigin o s k && (mirrorAt s k).isSome) wt s
        (clearEntriesOf o s) := by
  have key : ∀ n ≤ 16, ∃ wt, wt.length = s.wt.length ∧
      (∀ k, wt.getD k none = if decide (k < n) && ofOrigin o s k then none else s.wt.getD k none) ∧
      TakenOff (fun k => decide (k < n) && (ofOrigin o s k && (captureAt s k).isSome))
        (fun k => decide (k < n) && (ofOrigin o s k && (mirrorAt s k).isSome)) wt s
        ((List.range n).foldl (fun s i => if originAt s i = some o then clearEntry i s else s) s) := by
    intro n
    induction n with
    | zero => exact fun _ => ⟨s.wt, rfl, by simp, by simpa using takenOff_refl s⟩
    | succ n ih =>
      intro hn
      obtain ⟨wt, hlen, hwt, h⟩ := ih (by omega)
      rw [List.range_succ, List.foldl_append]
      generalize (List.range n).foldl (fun s i => if originAt s i = some o then clearEntry i s else s) s = t at h
      have hn' : entryAt t n = entryAt s n := by
        have ht : t.wt = wt := by obtain ⟨_, _, _, _, rfl, -⟩ := h; rfl
        rw [entryAt, ht, hwt n]
        simp [entryAt]
      have hsucc : ∀ (g : Nat → Bool), (fun k => decide (k < n + 1) && g k) =
          fun k => (decide (k < n) && g k) || (decide (k = n) && g n) := fun g => by
        funext k
        rcases Nat.lt_trichotomy k n with hk | rfl | hk
        · simp [hk, Nat.lt_succ_of_lt hk, Nat.ne_of_lt hk]
        · simp
        · simp [Nat.not_lt.mpr hk.le, Nat.not_lt.mpr (Nat.succ_le_of_lt hk), Nat.ne_of_gt hk]
      have hset : ∀ k, (wt.set n none).getD k none = if k = n then none else wt.getD k none := fun k => by
        by_cases hk : k = n
        · subst hk
          rw [List.getD_eq_getElem?_getD, List.getElem?_set, if_pos rfl, if_pos rfl]
          split <;> rfl
        · simp [List.getD_eq_getElem?_getD, List.getElem?_set_ne (Ne.symm hk), hk]
      simp only [hsucc, fun k => congrFun (hsucc (ofOrigin o s)) k]
      rw [List.foldl_cons, List.foldl_nil, originAt, hn']
      cases ho : ofOrigin o s n with
      | false =>
        have ho' : ¬(entryAt s n).map Entry.origin = some o := of_decide_eq_false ho
        rw [if_neg ho']
        simp only [Bool.false_and, Bool.and_false, Bool.or_false]
        exact ⟨wt, hlen, hwt, h⟩
      | true =>
        have ho' : (entryAt s n).map Entry.origin = some o := of_decide_eq_true ho
        rw [if_pos ho']
        obtain ⟨e, he, -⟩ := Option.map_eq_some_iff.mp ho'
        have hgone : ∀ k, (wt.set n none).getD k none =
            if (decide (k < n) && ofOrigin o s k || decide (k = n) && true) = true then none else s.wt.getD k none := fun k => by
          rw [hset k, hwt k]
          by_cases hk : k = n <;> simp [hk]
        refine ⟨wt.set n none, by simpa using hlen, hgone, ?_⟩
        cases hb : e.body with
        | capture c =>
          have hm : mirrorAt s n = none := by simp [mirrorAt, he, hb]
          simp only [captureAt_eq_some he hb, hm, Option.isSome_some, Option.isSome_none, Bool.and_true, Bool.and_false,
            Bool.or_false]
          exact h.clear_capture (hn'.trans he) hb hr
        | mirror m =>
          have hc : captureAt s n = none := by simp [captureAt, he, hb]
          have hm : mirrorAt s n = some m := by simp [mirrorAt, he, hb]
          simp only [hc, hm, Option.isSome_some, Option.isSome_none, Bool.and_true, Bool.and_false, Bool.or_false]
          exact h.clear_mirror (hn'.trans he) hb
  obtain ⟨wt, -, hwt, h⟩ := key 16 le_rfl
  have hlt : ∀ k, (decide (k < 16) && ofOrigin o s k) = ofOrigin o s k := fun k => by
    cases ho : ofOrigin o s k with
    | false => simp
    | true =>
      have ho' : (entryAt s k).map Entry.origin = some o := of_decide_eq_true ho
      obtain ⟨e, he, -⟩ := Option.map_eq_some_iff.mp ho'
      have := lt_length_of_entryAt he
      simp
      omega
  simp only [← Bool.and_assoc, hlt] at hwt h
  exact ⟨wt, hwt, h⟩

end Sys2Proof.Machine
end

section
/-! SUPPORT. Vehicle reset: its assertion and its release. -/

-- One proof is checked after another: each worker thread of Lean reserves memory of its own.
set_option Elab.async false

namespace Sys2Proof.Machine

variable {s t : State} {i : Nat} {e : Entry}

/-! ### The release -/

/-- A STATUS request, all of it (R156, R167). -/
theorem requestStatus_eq (s : State) : requestStatus s = { s with
    mae.status := s.mae.status || !s.mae.stack.any (fun j => j.work.isStatus)
    mae.stack := s.mae.stack.map fun j => if j.work.isStatus then { j with work := .status true } else j } := by
  have hmark : markRestart = fun j => if j.work.isStatus then { j with work := .status true } else j := by
    funext j
    cases hj : j.work <;> simp [markRestart, Work.isStatus, hj]
  unfold requestStatus
  rw [hmark]
  cases ha : s.mae.stack.any fun j => j.work.isStatus with
  | true => simp
  | false =>
    have hmap : s.mae.stack.map (fun j => if j.work.isStatus then ({ j with work := .status true } : Job) else j) = s.mae.stack := by
      refine (List.map_congr_left fun j hj => ?_).trans (List.map_id _)
      have hs : j.work.isStatus = false := by simpa using List.any_eq_false.mp ha j hj
      simp [hs]
    rw [hmap]
    simp

/-- What the Attention Unit requests at the release of VRST (R169, R179). -/
theorem vehicleReleaseAttention_eq (s : State) : vehicleReleaseAttention s = { s with
    mae.stop := s.mae.stop || s.au.stop.held || (s.au.stop.recorded && !s.au.accepted)
    mae.attention := s.mae.attention || decide ((if s.au.causes = 0#8 then s.au.requests
      else s.au.requests ||| requestBit .fault) ≠ s.au.requests)
    au := { s.au with
      accepted := s.au.accepted && !s.au.stop.held
      requests := if s.au.causes = 0#8 then s.au.requests else s.au.requests ||| requestBit .fault } } := by
  have hraise : ∀ x : State, raiseRequest .fault x = { x with
      mae.attention := x.mae.attention || decide (x.au.requests ||| requestBit .fault ≠ x.au.requests)
      au.requests := x.au.requests ||| requestBit .fault } := fun x => by
    rw [raiseRequest, setAttention_eq]
    simp only [and_true, ne_eq, eq_comm]
  have hstop : (if s.au.stop.held then requestStop { s with au.accepted := false }
      else if s.au.stop.recorded && !s.au.accepted then requestStop s else s) = { s with
        mae.stop := s.mae.stop || s.au.stop.held || (s.au.stop.recorded && !s.au.accepted)
        au.accepted := s.au.accepted && !s.au.stop.held } := by
    cases hh : s.au.stop.held with
    | true => simp [requestStop]
    | false => cases hr : s.au.stop.recorded && !s.au.accepted <;> simp [requestStop]
  unfold vehicleReleaseAttention
  rw [hstop]
  by_cases hc : s.au.causes = 0#8
  · simp [hc]
  · simp [hc, hraise]

theorem exec_vrstReleased {dt : Tick} {before : State} (hp : (elapse dt before).porn = true)
    (hv : (elapse dt before).vrst = true) :
    exec (.vrstReleased dt) before = .next (settleEngine (vehicleRequests (elapse dt before))) := by
  have h : ∀ t : State, t.porn = true → t.vrst = true →
      (if !t.vrst then t else if t.porn then vehicleRelease t else { t with vrst := false }) = vehicleRelease t :=
    fun t hp hv => by simp [hp, hv]
  exact congrArg Host.Outcome.next (h _ hp hv)

theorem exec_vrstAsserted {dt : Tick} {before : State} (hp : (elapse dt before).porn = true)
    (hv : (elapse dt before).vrst = false) : exec (.vrstAsserted dt) before = .next (vehicleAssert (elapse dt before)) := by
  have h : ∀ t : State, t.porn = true → t.vrst = false →
      (if t.vrst then t else if t.porn then vehicleAssert t else { t with vrst := true }) = vehicleAssert t :=
    fun t hp hv => by simp [hp, hv]
  exact congrArg Host.Outcome.next (h _ hp hv)

/-- Settles O16. -/
theorem vehicleResetReleased : Obligations.VehicleResetReleased := by
  intro dt before s hp hv htab
  have hx : exec (.vrstReleased dt) before = .next (settleEngine (vehicleRequests s)) := exec_vrstReleased hp hv
  clear_value s
  obtain ⟨wt, ⟨-, hwt⟩, hfold⟩ := vehicleRelease_upTo { s with vrst := false } 16
  rw [vehicleRequests, vehicleReleaseWindows, hfold, requestStatus_eq, vehicleReleaseAttention_eq] at hx
  refine ⟨_, hx, rfl, fun i hi c hc => ?_, fun i hi hc => ?_, ?_, rfl, rfl, rfl, rfl, rfl, rfl,
    rfl, rfl, rfl, rfl, rfl, rfl, rfl, rfl, rfl⟩
  · obtain ⟨e, he, hb⟩ := exists_entry_of_captureAt hc
    have hw : wt.getD i none = some e.reloaded := by rw [hwt i, if_pos hi]; exact congrArg (Option.map Entry.reloaded) he
    exact captureAt_eq_some (e := e.reloaded) hw (by rw [Entry.reloaded, hb]; rfl)
  · show wt.getD i none = _
    rw [hwt i, if_pos hi]
    cases he : entryAt s i with
    | none => exact congrArg (Option.map Entry.reloaded) he
    | some e =>
      refine (congrArg (Option.map Entry.reloaded) he).trans ?_
      cases hb : e.body with
      | capture c => simp [captureAt, he, hb] at hc
      | mirror m =>
        cases e
        cases hb
        rfl
  · rfl

/-! ### The assertion -/

/-- An entry as the assertion of VRST leaves it, where it stays (R35). -/
def Entry.disarmed (e : Entry) : Entry :=
  { e with body := match e.body with
      | .capture c => .capture (disarm c)
      | .mirror m => .mirror m }

/-- The CAPTURE entries below `n` are disarmed (R35). -/
theorem disarm_upTo (s : State) (n : Nat) : ∃ wt,
    (∀ i, wt.getD i none = if i < n then (s.wt.getD i none).map Entry.disarmed else s.wt.getD i none) ∧
    (List.range n).foldl (fun s i => mapCapture i disarm s) s = { s with wt := wt } := by
  induction n with
  | zero => exact ⟨s.wt, by simp, rfl⟩
  | succ n ih =>
    obtain ⟨wt, hwt, hfold⟩ := ih
    rw [List.range_succ, List.foldl_append, hfold]
    have hn : entryAt { s with wt := wt } n = entryAt s n := (hwt n).trans (if_neg (lt_irrefl n))
    have hlt : ∀ i, i ≠ n → (i < n + 1 ↔ i < n) := fun i hi => by omega
    -- an index that holds nothing to disarm
    have hskip : (entryAt s n).map Entry.disarmed = entryAt s n → mapCapture n disarm { s with wt := wt } = { s with wt := wt } →
        ∃ x, (∀ i, x.getD i none = if i < n + 1 then (s.wt.getD i none).map Entry.disarmed else s.wt.getD i none) ∧
          [n].foldl (fun s i => mapCapture i disarm s) { s with wt := wt } = { s with wt := x } := fun hsame hmap => by
      refine ⟨wt, fun i => ?_, hmap⟩
      rw [hwt i]
      by_cases hi : i = n
      · subst hi
        rw [if_neg (lt_irrefl i), if_pos (Nat.lt_succ_self i)]
        exact hsame.symm
      · simp only [hlt i hi]
    cases he : entryAt s n with
    | none => exact hskip (by rw [he]; rfl) (by rw [mapCapture, hn, he])
    | some e =>
      cases hb : e.body with
      | mirror m =>
        refine hskip ?_ (by rw [mapCapture, hn, he]; simp only [hb])
        rw [he]
        cases e
        cases hb
        rfl
      | capture c =>
        refine ⟨wt.set n (some e.disarmed), fun i => ?_, ?_⟩
        · by_cases hi : i = n
          · subst hi
            have hlen : i < wt.length := lt_length_of_entryAt (hn.trans he)
            rw [if_pos (Nat.lt_succ_self i), show s.wt.getD i none = some e from he]
            simp [hlen]
          · simp only [hlt i hi, ← hwt i]
            simp [List.getD_eq_getElem?_getD, List.getElem?_set_ne (Ne.symm hi)]
        · rw [List.foldl_cons, List.foldl_nil, mapCapture_eq (hn.trans he) hb, Entry.disarmed, hb]

/-- Index `k` holds a CAPTURE entry of the origin. -/
def captureOf (o : Origin) (s : State) (k : Nat) : Bool := ofOrigin o s k && (captureAt s k).isSome

/-- An engine without jobs has none to lose. -/
theorem engine_filter_idle (m : Engine) (hr : m.running = none) (hk : m.stack = []) (hm : m.mirrorWaits = 0)
    (hp : m.primeList = []) (hl : m.mirrorList = []) (f g : Job → Bool) (p : Nat → Bool) (q : MirrorJob → Bool) :
    ({ m with running := m.running.filter f, stack := m.stack.filter g, primeList := m.primeList.filter p,
              mirrorList := m.mirrorList.filter q, mirrorWaits := 0 } : Engine) = m := by
  cases m
  simp_all

/-- The Window Table's part of the assertion of VRST (R35). -/
theorem vehicleAssertWindows_eq (h : TablesOk s) (hr : s.mae.running = none) (hk : s.mae.stack = []) (hm : s.mae.mirrorWaits = 0)
    (hp : s.mae.primeList = []) (hl : s.mae.mirrorList = []) : ∃ wt flags,
    vehicleAssertWindows s = { s with
      wt := wt
      uq.records := s.uq.records.filterMap (withdrawWhere (captureOf .localLoad s))
      ftu := { s.ftu with rules := rulesLeft (fun r => captureOf .localLoad s r.window) s.ftu.rules, flags := flags } } ∧
    (∀ k < 16, wt.getD k none = if ofOrigin .localLoad s k then none else (s.wt.getD k none).map Entry.disarmed) ∧
    (∀ f < 8, conditionFlag flags f = (conditionFlag s.ftu.flags f &&
      !clearsFlag (fun r => captureOf .localLoad s r.window) f s.ftu.rules)) := by
  obtain ⟨wt, hwt, flags, waits, mw, n, hoff, hflags, hkept⟩ := clearEntriesOf_takenOff .localLoad h.windows h.rules
  obtain ⟨rfl, hw⟩ := hkept (by rw [hr]; rfl)
  obtain ⟨rfl, rfl⟩ := hw (by rw [hk]; exact Nat.zero_lt_two) hm
  obtain ⟨wt', hwt', hdisarm⟩ := disarm_upTo (clearEntriesOf .localLoad s) 16
  refine ⟨wt', flags, ?_, fun k hk => ?_, hflags⟩
  · rw [vehicleAssertWindows, hdisarm, hoff]
    simp only [engine_filter_idle s.mae hr hk hm hp hl]
    rfl
  · rw [hwt' k, if_pos hk, hoff]
    refine (congrArg (Option.map Entry.disarmed) (hwt k)).trans ?_
    split <;> rfl

/-- The parts of the other blocks at the assertion of VRST (R54, R145, R179, R186). -/
theorem vehicleAssertRest_eq (h : s.ftu.rules.length = 8) : ∃ flags,
    clearCopy (vehicleAssertCommand (vehicleAssertAttention (clearGroupsOf .localLoad
      (clearRulesWhere (fun r => decide (r.origin = .localLoad)) s)))) = { s with
        ftu := { s.ftu with rules := rulesLeft (fun r => decide (r.origin = .localLoad)) s.ftu.rules, flags := flags }
        dlf.groups := s.dlf.groups.map (keepOther .localLoad)
        au := { s.au with requests := 0#6, permissions := 0#6, enable := false }
        mae.attention := s.mae.attention || decide (s.au.requests ≠ 0#6 ∨ s.au.permissions ≠ 0#6 ∨ s.au.enable = true)
        cu.state := .idle
        xu.forcedCommand := false
        bpu.copy := List.replicate 19 0#16 } ∧
    (∀ f < 8, conditionFlag flags f = (conditionFlag s.ftu.flags f &&
      !clearsFlag (fun r => decide (r.origin = .localLoad)) f s.ftu.rules)) := by
  obtain ⟨flags, hrules, hflags⟩ := clearRulesWhere_cleared (fun r => decide (r.origin = .localLoad)) h
  refine ⟨flags, ?_, hflags⟩
  have hau : (decide ¬(s.au.requests = 0#6 ∧ s.au.permissions = 0#6 ∧ s.au.enable = false)) =
      decide (s.au.requests ≠ 0#6 ∨ s.au.permissions ≠ 0#6 ∨ s.au.enable = true) := by
    refine decide_eq_decide.mpr ?_
    rw [not_and_or, not_and_or, Bool.not_eq_false]
  rw [hrules, vehicleAssertAttention, setAttention_eq, ← hau]
  rfl

/-- The assertion of VRST, all of it (R14, R35, R54, R145, R168, R179, R186). -/
theorem vehicleAssert_eq (h : TablesOk s) : ∃ wt flags,
    vehicleAssert s = { s with
      vrst := true
      wt := wt
      uq.records := s.uq.records.filterMap (withdrawWhere (captureOf .localLoad s))
      ftu := { s.ftu with
        rules := rulesLeft (fun r => captureOf .localLoad s r.window || decide (r.origin = .localLoad)) s.ftu.rules
        flags := flags }
      dlf.groups := s.dlf.groups.map (keepOther .localLoad)
      bpu := { s.bpu with copy := List.replicate 19 0#16, passOver := 0 }
      mae := { s.mae with
        running := none, stack := [], waits := [], mirrorWaits := 0, stop := false, result := none,
        status := false, mirrorList := [], primeList := [], staging := [], ring := none, unpublished := none,
        publication := false,
        attention := decide (s.au.requests ≠ 0#6 ∨ s.au.permissions ≠ 0#6 ∨ s.au.enable = true) }
      au := { s.au with requests := 0#6, permissions := 0#6, enable := false }
      cu.state := .idle
      xu.forcedCommand := false } ∧
    (∀ k < 16, wt.getD k none = if ofOrigin .localLoad s k then none else (s.wt.getD k none).map Entry.disarmed) ∧
    (∀ f < 8, conditionFlag flags f = (conditionFlag s.ftu.flags f &&
      !clearsFlag (fun r => captureOf .localLoad s r.window || decide (r.origin = .localLoad)) f s.ftu.rules)) := by
  have htab : TablesOk (vehicleAssertEngine { s with vrst := true }) := ⟨h.windows, h.rules, h.groups, h.copy⟩
  obtain ⟨wt, flags, hwindows, hwt, hflags⟩ := vehicleAssertWindows_eq htab rfl rfl rfl rfl rfl
  obtain ⟨flags', hrest, hflags'⟩ := vehicleAssertRest_eq (s := vehicleAssertWindows (vehicleAssertEngine { s with vrst := true }))
    (by rw [hwindows]; simpa [rulesLeft] using htab.rules)
  rw [hwindows] at hrest hflags'
  refine ⟨wt, flags', ?_, hwt, fun f hf => ?_⟩
  · rw [vehicleAssert, hwindows, hrest, ← rulesLeft_rulesLeft]
    rfl
  · rw [hflags' f hf, ← clearsFlag_rulesLeft]
    exact (congrArg (· && _) (hflags f hf)).trans (by rw [Bool.and_assoc, ← Bool.not_or]; rfl)

/-- Where no window beyond the table is cleared, the records of a cleared window are those whose window is one of the
sixteen cleared. -/
theorem withdrawWhere_range {p : Nat → Bool} (h : ∀ k, p k = true → k < 16) : withdrawWhere p = fun r =>
    if (List.range 16).any (fun i => decide (r.window = some i) && p i) then
      (if r.state = .onAir then some { r with detached := true, window := none } else none)
    else some r := by
  funext r
  have hany : r.window.any p = (List.range 16).any fun i => decide (r.window = some i) && p i := by
    cases r.window with
    | none => simp
    | some k =>
      rw [Option.any_some, Bool.eq_iff_iff, List.any_eq_true]
      refine ⟨fun hk => ⟨k, List.mem_range.mpr (h k hk), by simp [hk]⟩, ?_⟩
      rintro ⟨i, -, hi⟩
      rw [Bool.and_eq_true, decide_eq_true_eq] at hi
      obtain ⟨hk, hi⟩ := hi
      cases hk
      exact hi
  rw [withdrawWhere, hany]

theorem captureOf_lt {o : Origin} {k : Nat} (h : s.wt.length = 16) (hk : captureOf o s k = true) : k < 16 := by
  rw [captureOf, Bool.and_eq_true] at hk
  obtain ⟨c, hc⟩ := Option.isSome_iff_exists.mp hk.2
  obtain ⟨e, he, -⟩ := exists_entry_of_captureAt hc
  exact h ▸ lt_length_of_entryAt he

/-- Settles O15. -/
theorem vehicleResetAsserted : Obligations.VehicleResetAsserted := by
  intro dt before s lost rulesLost hp hv htab
  have hx : exec (.vrstAsserted dt) before = .next (vehicleAssert s) := exec_vrstAsserted hp hv
  clear_value s
  have hor : (fun r : Rule => captureOf .localLoad s r.window || decide (r.origin = .localLoad)) = rulesLost :=
    funext fun r => Bool.or_comm ..
  obtain ⟨wt, flags, heq, hwt, hflags⟩ := vehicleAssert_eq htab
  rw [hor] at heq hflags
  rw [heq] at hx
  refine ⟨_, hx, rfl, rfl, rfl, rfl, rfl, rfl, rfl, rfl, rfl, rfl, fun i hi he => ?_, fun i hi e he => ?_, ?_, fun k _ => ?_,
    fun f hf => ?_, rfl, ?_⟩
  · have hs : s.wt.getD i none = none := he
    show wt.getD i none = none
    rw [hwt i hi, hs]
    split <;> rfl
  · have hs : s.wt.getD i none = some e := he
    have ho : ofOrigin .localLoad s i = decide (e.origin = .localLoad) := by rw [ofOrigin, originAt, he]; simp
    show wt.getD i none = _
    rw [hwt i hi, hs, ho]
    obtain ⟨o, base, length, tag, body⟩ := e
    cases o <;> cases body <;> rfl
  · show ({ s.uq with records := _ } : UplinkQueue) = _
    rw [withdrawWhere_range fun k => captureOf_lt htab.windows]
    rfl
  · exact getD_rulesLeft _ _ k
  · exact hflags f hf
  · have : keepOther .localLoad = fun g => g.filter fun x => decide (x.origin = .radioLoad) := by
      funext g
      refine congrArg (Option.filter · g) (funext fun x => ?_)
      cases x.origin <;> rfl
    rw [this]

end Sys2Proof.Machine
end

section
/-! SUPPORT. The network reset, and the messages of a downlink burst. -/

-- One proof is checked after another: each worker thread of Lean reserves memory of its own.
set_option Elab.async false

namespace Sys2Proof.Machine

variable {s t : State} {i : Nat} {e : Entry} {l : Link} {dt : Tick} {before : State} {status : Byte} {burst : List Byte}

/-! ### The queue emptied -/

theorem filterMap_withdrawAny (rs : List Record) : rs.filterMap withdrawAny =
    (rs.filter fun r => decide (r.state = .onAir)).map fun r => { r with detached := true, window := none } := by
  induction rs with
  | nil => rfl
  | cons r rs ih =>
    by_cases h : r.state = .onAir <;> simp [withdrawAny, Record.isOnAir, detach, h, ih]

/-- What a clear has withdrawn before makes no difference to the queue's emptying (R73, R75). -/
theorem withdrawAny_withdrawWhere (p : Nat → Bool) (rs : List Record) :
    (rs.filterMap (withdrawWhere p)).filterMap withdrawAny = rs.filterMap withdrawAny := by
  rw [List.filterMap_filterMap]
  congr 1
  funext r
  unfold withdrawWhere
  split
  · split
    · next h => simp [withdrawAny, Record.isOnAir, detach, h]
    · next h => simp [withdrawAny, Record.isOnAir, h]
  · rfl

/-- The records on the air, detached (R57, R75). -/
def detachedRecords (rs : List Record) : List Record :=
  (rs.filter fun r => decide (r.state = .onAir)).map fun r => { r with detached := true, window := none }

/-- The queue is emptied but for its detached ON_AIR records, and holds a new JOIN (R75). -/
theorem emptyQueue_eq (h : (detachedRecords s.uq.records).length < 24) : emptyQueue s = { s with uq := { s.uq with
    joinSeq := s.uq.joinSeq + 1#8
    records := detachedRecords s.uq.records ++ [internalRecord .join 0xF0#8 (s.uq.joinSeq + 1#8) .urgent s.ft.frame []] } } := by
  have hn : ∀ r, ∀ y ∈ detachedRecords s.uq.records, mergesWith r y = false := fun r y hy => by
    obtain ⟨x, hx, rfl⟩ := List.mem_map.mp hy
    have hs : x.state = .onAir := of_decide_eq_true (List.mem_filter.mp hx).2
    simp [mergesWith, Record.isQueued, hs]
  rw [emptyQueue, filterMap_withdrawAny, createJoin]
  exact (offer_joins (hn _)).trans (if_pos h)

/-! ### The network reset -/

/-- The network reset, all of it (R37, R54, R75, R102, R116, R145, R153). -/
theorem networkReset_eq (hw : s.wt.length = 16) (hr : s.ftu.rules.length = 8)
    (hq : (s.uq.records.filter fun r => decide (r.state = .onAir)).length < 24) :
    ∃ wt flags waits mirrorWaits passOver,
      networkReset s = { s with
        wt := wt
        uq := { s.uq with
          joinSeq := s.uq.joinSeq + 1#8
          records := detachedRecords s.uq.records ++
            [internalRecord .join 0xF0#8 (s.uq.joinSeq + 1#8) .urgent s.ft.frame []] }
        ftu := { s.ftu with
          rules := rulesLeft (fun r => captureOf .radioLoad s r.window || decide (r.origin = .radioLoad)) s.ftu.rules
          flags := flags }
        dlf.groups := s.dlf.groups.map (keepOther .radioLoad)
        bpu.passOver := passOver
        mae := { s.mae with
          running := s.mae.running.filter fun j =>
            workKept (captureOf .radioLoad s) (fun k => ofOrigin .radioLoad s k && (mirrorAt s k).isSome) j.work
          stack := s.mae.stack.filter fun j =>
            workKept (captureOf .radioLoad s) (fun k => ofOrigin .radioLoad s k && (mirrorAt s k).isSome) j.work
          primeList := s.mae.primeList.filter fun k => !captureOf .radioLoad s k
          mirrorList := s.mae.mirrorList.filter fun j => !(ofOrigin .radioLoad s j.index && (mirrorAt s j.index).isSome)
          waits := waits
          mirrorWaits := mirrorWaits }
        ssu := { s.ssu with grants := [], contention := [] }
        ab := { s.ab with credit := s.ab.allowance, restart := true } } ∧
      (∀ k, wt.getD k none = if ofOrigin .radioLoad s k then none else s.wt.getD k none) ∧
      (∀ f < 8, conditionFlag flags f = (conditionFlag s.ftu.flags f &&
        !clearsFlag (fun r => captureOf .radioLoad s r.window || decide (r.origin = .radioLoad)) f s.ftu.rules)) ∧
      (s.mae.running.filter (fun j => workKept (captureOf .radioLoad s)
        (fun k => ofOrigin .radioLoad s k && (mirrorAt s k).isSome) j.work) = s.mae.running → passOver = s.bpu.passOver) := by
  obtain ⟨wt, hwt, htaken⟩ := clearEntriesOf_takenOff .radioLoad hw hr
  have htaken : TakenOff (captureOf .radioLoad s) (fun k => ofOrigin .radioLoad s k && (mirrorAt s k).isSome) wt s
    (clearEntriesOf .radioLoad s) := htaken
  obtain ⟨flags, waits, mw, n, hoff, hflags, hkept⟩ := htaken
  obtain ⟨flags', hrules, hflags'⟩ := clearRulesWhere_cleared (fun r => decide (r.origin = .radioLoad))
    (s := clearEntriesOf .radioLoad s) (by rw [hoff]; simpa [rulesLeft] using hr)
  rw [hoff] at hrules hflags'
  have hrecords : detachedRecords (s.uq.records.filterMap (withdrawWhere (captureOf .radioLoad s))) =
      detachedRecords s.uq.records := by
    unfold detachedRecords
    rw [← filterMap_withdrawAny, ← filterMap_withdrawAny, withdrawAny_withdrawWhere]
  refine ⟨wt, flags', waits, mw, n, ?_, hwt, fun f hf => ?_, fun h => (hkept h).1⟩
  · rw [networkReset, hoff, hrules, emptyQueue_eq]
    · simp only [clearGroupsOf, clearGrants, hrecords, rulesLeft_rulesLeft]
    · show (detachedRecords (s.uq.records.filterMap (withdrawWhere (captureOf .radioLoad s)))).length < 24
      rw [hrecords, detachedRecords, List.length_map]
      exact hq
  · rw [hflags' f hf, ← clearsFlag_rulesLeft]
    exact (congrArg (· && _) (hflags f hf)).trans (by rw [Bool.and_assoc, ← Bool.not_or])

/-! ### Reports -/

theorem portLive_of_ready (h : PortReady l s) : portLive s l = true := by
  simp [portLive, h.porn, h.normal, h.role]

/-- A RECEIVED report of a live port (R118, R119). -/
theorem exec_received (h : PortReady l (elapse dt before)) : exec (.received dt l status burst) before =
    .next (releaseWatch l (releaseClose l (routeReport l (linkOf (elapse dt before) l).held status burst
      (putLink l { linkOf (elapse dt before) l with held := none } (elapse dt before))))) := by
  show Host.Outcome.next (takeReceived l status burst _) = _
  rw [takeReceived, if_pos (portLive_of_ready h)]
  rfl

/-- A good report on the PRIMARY link, READY or TX-FAULT, out of SEARCH, reaches the Downlink Filter's tests (R119). -/
theorem routeReport_primary {a : Option Tick} (hlock : s.ft.lock ≠ .search) (hr : (linkOf s l).role = .primary)
    (hc : (linkOf s l).condition = .ready ∨ (linkOf s l).condition = .txFault) :
    routeReport l a status burst s = filterReport l a status burst s := by
  rw [routeReport, if_neg hlock, hr]
  exact if_pos hc

/-- A downlink burst of the Current Zone is examined message by message (R138, R141). -/
theorem exec_downlink {ms : List CarMessage} (h : PortReady l (elapse dt before)) (hgood : status.getLsbD 7 = true)
    (hlock : (elapse dt before).ft.lock ≠ .search) (hr : (linkOf (elapse dt before) l).role = .primary)
    (hc : (linkOf (elapse dt before) l).condition = .ready ∨ (linkOf (elapse dt before) l).condition = .txFault)
    (hburst : parseBurst burst = .downlink (elapse dt before).ft.zone ms) :
    exec (.received dt l status burst) before = .next (releaseWatch l (releaseClose l
      (ms.foldl (fun x m => examineMessage (elapse dt before).ft.zone (elapse dt before).ft.frame x m)
        (putLink l { linkOf (elapse dt before) l with held := none } (elapse dt before))))) := by
  rw [exec_received h]
  generalize elapse dt before = s at *
  have hft : (putLink l { linkOf s l with held := none } s).ft = s.ft := putLink_ft ..
  have hgood' : (!reportGood status) = false := by simpa [reportGood] using hgood
  rw [routeReport_primary (by rw [hft]; exact hlock) (by rw [linkOf_putLink_self]; exact hr)
    (by rw [linkOf_putLink_self]; exact hc), filterReport, hgood', hburst]
  simp only [Bool.false_eq_true, if_false, takeDownlink, hft, hlock, ne_eq, not_true_eq_false]

/-! ### One message -/

/-- A message that is new and accepted is remembered and routed (R141 to R143, R146). -/
theorem examineMessage_new {zone : Byte} {frame : BitVec 6} {m : CarMessage} {k : MessageKind}
    (hk : kindOfCode m.kind = some k) (hl : m.payload.length ≤ 56) (ha : accepts s k m.destination = true)
    (hn : (⟨zone, m.destination, m.seq, k⟩ : Recent) ∉ s.dlf.recent) : examineMessage zone frame s m =
      routeMessage ⟨zone, m.destination, m.seq, k⟩ frame m.payload
        { s with dlf.recent := addRecent ⟨zone, m.destination, m.seq, k⟩ s.dlf.recent } := by
  rw [examineMessage, hk]
  simp only [Nat.not_lt.mpr hl, if_false, ha, if_true, takeAccepted, if_neg hn, List.take_of_length_le hl]

/-- Settles O45. -/
theorem networkResetClears : Obligations.NetworkResetClears := by
  refine ⟨fun dt l status burst m before => ?_, fun s htab hq => ?_⟩
  · intro s h hgood hlock hr hc hburst hk hl ha hn
    have key : ∀ x : State, x.dlf = s.dlf → x.carid = s.carid → examineMessage s.ft.zone s.ft.frame x m =
        networkReset { x with dlf.recent := addRecent ⟨s.ft.zone, m.destination, m.seq, .reset⟩ s.dlf.recent } :=
      fun x hdlf hcar => by
        rw [examineMessage_new (k := .reset) (by rw [hk]; rfl) hl (by rw [accepts, hdlf, hcar]; exact ha)
          (by rw [hdlf]; exact hn), hdlf]
        rfl
    exact (exec_downlink h hgood hlock hr hc hburst).trans (congrArg (fun y => Host.Outcome.next (releaseWatch l (releaseClose l y)))
      (key _ (putLink_dlf ..) (putLink_carid ..)))
  · intro t lost lostCapture ruleLost jobKept
    obtain ⟨wt, flags, waits, mw, n, heq, hwt, hflags, hkept⟩ := networkReset_eq htab.windows htab.rules hq
    have hjob : (fun j : Job => workKept (captureOf .radioLoad s)
        (fun k => ofOrigin .radioLoad s k && (mirrorAt s k).isSome) j.work) = jobKept := by
      funext j
      simp only [jobKept]
      cases j.work <;> rfl
    have hrule : (fun r : Rule => captureOf .radioLoad s r.window || decide (r.origin = .radioLoad)) = ruleLost :=
      funext fun r => Bool.or_comm ..
    rw [hjob, hrule] at heq
    rw [hjob] at hkept
    rw [hrule] at hflags
    have ht : t = networkReset s := rfl
    clear_value t
    rw [heq] at ht
    subst ht
    refine ⟨fun i _ => hwt i, fun k _ => getD_rulesLeft _ _ k, hflags, rfl, rfl, rfl, fun hall => hkept ?_, fun g => ?_, rfl, rfl, rfl, rfl,
      rfl, rfl, rfl, rfl, rfl⟩
    · cases hrun : s.mae.running with
      | none => rfl
      | some j =>
        rw [hrun, Option.all_some] at hall
        simp [Option.filter, hall]
    · show some g ∈ s.dlf.groups.map (keepOther .radioLoad) ↔ _
      rw [List.mem_map]
      refine ⟨?_, fun ⟨hg, ho⟩ => ⟨some g, hg, by simp [keepOther, Option.filter, ho]⟩⟩
      rintro ⟨x, hx, hxg⟩
      obtain ⟨rfl, ho⟩ := Option.filter_eq_some_iff.mp hxg
      refine ⟨hx, ?_⟩
      cases hg : g.origin with
      | localLoad => rfl
      | radioLoad => simp [hg] at ho

end Sys2Proof.Machine
end

section
/-! SUPPORT. Where the messages of a downlink burst go. -/

-- One proof is checked after another: each worker thread of Lean reserves memory of its own.
set_option Elab.async false

namespace Sys2Proof.Machine

variable {s t : State} {i : Nat} {e : Entry}

/-! ### Acceptance and duplicates -/

theorem accepts_iff (s : State) (k : MessageKind) (d : BitVec 11) : accepts s k d = true ↔
    d ≠ 0#11 ∧ (d.toNat = s.carid.toNat ∨ (d = 1023#11 ∧ k ≠ .provision) ∨
      ∃ g, some g ∈ s.dlf.groups ∧ g.address = d.toNat ∧ g.mask.getLsbD (kindCode k) = true) := by
  have hcar : d = s.carid.setWidth 11 ↔ d.toNat = s.carid.toNat := by
    rw [← BitVec.toNat_inj, BitVec.toNat_setWidth, Nat.mod_eq_of_lt (lt_of_lt_of_le s.carid.isLt (by decide))]
  have hgroup : s.dlf.groups.any (groupAccepts d k) = true ↔
      ∃ g, some g ∈ s.dlf.groups ∧ g.address = d.toNat ∧ g.mask.getLsbD (kindCode k) = true := by
    rw [List.any_eq_true]
    constructor
    · rintro ⟨o, ho, ha⟩
      cases o with
      | none => cases ha
      | some g =>
        rw [groupAccepts, Option.any_some, Bool.and_eq_true, decide_eq_true_eq] at ha
        exact ⟨g, ho, ha⟩
    · rintro ⟨g, hg, ha, hm⟩
      exact ⟨some g, hg, by simp [groupAccepts, ha, hm]⟩
  rw [accepts, Bool.and_eq_true, Bool.or_eq_true, Bool.or_eq_true, Bool.and_eq_true, hgroup, or_assoc]
  simp only [decide_eq_true_eq, hcar]

/-- The stop that a kind of message orders. -/
theorem stopOfKind_eq (k : MessageKind) : stopOfKind k =
    if k = .stopHold then some .hold else if k = .stopRelease then some .release else none := by
  cases k <;> rfl

theorem repeatsAccepted_iff (s : State) (r : Recent) : repeatsAccepted s r = true ↔
    s.au.accepted = true ∧ s.au.stop.seq = r.seq ∧ s.au.stop.zone = r.zone ∧ s.au.stop.source = r.destination ∧
      stopOfKind r.kind = some s.au.stop.kind := by
  unfold repeatsAccepted
  cases stopOfKind r.kind with
  | none => simp
  | some k => simp [and_assoc, eq_comm (a := k)]

theorem addRecent_eq (r : Recent) (rs : List Recent) :
    addRecent r rs = if rs.length < 16 then rs ++ [r] else (rs ++ [r]).drop 1 := by
  unfold addRecent
  simp only [Config.recentMax, List.length_append, List.length_singleton]
  by_cases h : rs.length < 16
  · rw [if_pos h, if_neg (by omega)]
  · rw [if_neg h, if_pos (by omega)]

/-! ### Stops -/

/-- A new stop is recorded, neither accepted nor requested, and its STOP job is pending (R148, R177). -/
theorem recordStop_eq (kind : StopKind) (source : BitVec 11) (seq zone : Byte) (frame : BitVec 6) (payload : List Byte)
    (s : State) : ∃ attention, recordStop kind source seq zone frame payload s = requestStatus { s with
      au := { s.au with
        requests := s.au.requests &&& ~~~requestBit .stop
        accepted := false
        stop :=
          { held := decide (kind = .hold), recorded := true, kind := kind, source := source, seq := seq,
            zone := zone, frame := frame, reason := payload.getD 0 0#8, text := (payload.drop 1).take 40 } }
      mae.stop := true
      mae.attention := attention } := by
  rw [recordStop, clearRequests, setAttention_eq]
  exact ⟨_, rfl⟩

/-- After a STATUS request a STATUS job is pending, or a suspended one will restart (R156, R167). -/
theorem status_requestStatus (s : State) : (requestStatus s).mae.status = true ∨
    ∃ j ∈ (requestStatus s).mae.stack, j.work = .status true := by
  rw [requestStatus_eq]
  cases ha : s.mae.stack.any fun j => j.work.isStatus with
  | false => simp
  | true =>
    obtain ⟨j, hj, hs⟩ := List.any_eq_true.mp ha
    exact .inr ⟨{ j with work := .status true }, List.mem_map.mpr ⟨j, hj, by rw [if_pos hs]⟩, rfl⟩

/-! ### The Staging Queue -/

section
variable {m : Staged} {q pre post : List Staged} {old : Staged} {ring : Ring}

/-- The messages of one class of the Staging Queue. -/
def stagedOf (c : RingClass) (q : List Staged) : List Staged := q.filter fun y => decide (y.cls = c)

theorem joinStaging_command (h : m.cls = .command) (q : List Staged) :
    joinStaging m q = stagedOf .command q ++ m :: stagedOf .info q := by
  have hc : (fun x : Staged => !x.isInfo) = fun y => decide (y.cls = .command) := by
    funext x
    unfold Staged.isInfo
    cases x.cls <;> rfl
  rw [joinStaging, h]
  simp only [hc]
  rfl

theorem evictInfo_eq (q : List Staged) : evictInfo q = removeFirst Staged.isInfo q := by
  induction q with
  | nil => rfl
  | cons m q ih => rw [evictInfo, removeFirst, ih]

theorem evictInfo_none (h : stagedOf .info q = []) : evictInfo q = none := by
  rw [evictInfo_eq]
  exact removeFirst_none fun y hy => by simpa [Staged.isInfo] using List.filter_eq_nil_iff.mp h y hy

theorem evictInfo_split (ho : old.cls = .info) (hp : stagedOf .info pre = []) :
    evictInfo (pre ++ old :: post) = some (pre ++ post) := by
  rw [evictInfo_eq]
  exact removeFirst_split (fun y hy => by simpa [Staged.isInfo] using List.filter_eq_nil_iff.mp hp y hy)
    (decide_eq_true ho)

end

/-! ### MIRROR messages -/

theorem wordsOfBytes_isEmpty (bs : List Byte) : (wordsOfBytes bs).isEmpty = decide (bs.length < 2) := by
  unfold wordsOfBytes
  split
  · simp
  · next h =>
    rcases bs with _ | ⟨a, _ | ⟨b, rest⟩⟩
    · rfl
    · rfl
    · exact absurd rfl (h a b rest)

theorem mirrorWithTag_none {tag : Byte}
    (h : ∀ i < 16, ∀ e n, entryAt s i = some e → e.body = .mirror n → e.tag ≠ tag) : mirrorWithTag s tag = none := by
  refine List.find?_eq_none.mpr fun i hi => ?_
  cases he : entryAt s i with
  | none => simp
  | some e =>
    cases hb : e.body with
    | capture c => simp [hb, EntryBody.isCapture]
    | mirror n => simpa [hb, EntryBody.isCapture] using h i (List.mem_range.mp hi) e n he hb

theorem mirrorWithTag_some {tag : Byte} {n : Mirror} (hi : i < 16) (he : entryAt s i = some e) (hb : e.body = .mirror n)
    (ht : e.tag = tag) (hfirst : ∀ j < i, ∀ y z, entryAt s j = some y → y.body = .mirror z → y.tag ≠ tag) :
    mirrorWithTag s tag = some i := by
  refine (List.find?_range_eq_some).mpr ⟨by simp [he, hb, ht, EntryBody.isCapture], List.mem_range.mpr hi, fun j hj => ?_⟩
  cases hy : entryAt s j with
  | none => simp
  | some y =>
    cases hz : y.body with
    | capture c => simp [hz, EntryBody.isCapture]
    | mirror z => simpa [hz, EntryBody.isCapture] using hfirst j hj y z hy hz

/-! ### One message -/

/-- A message of a kind is examined (R141 to R143, R146). -/
theorem examineMessage_eq {zone : Byte} {frame : BitVec 6} {m : CarMessage} {k : MessageKind}
    (hk : kindOfCode m.kind = some k) : ∃ n, (if 56 < m.payload.length then
        { s with dlf.truncations := min (s.dlf.truncations + 1) 65535 } else s) = { s with dlf.truncations := n } ∧
      examineMessage zone frame s m = if accepts s k m.destination then
        takeAccepted ⟨zone, m.destination, m.seq, k⟩ frame (m.payload.take 56) { s with dlf.truncations := n }
      else { s with dlf.truncations := n } := by
  rw [examineMessage, hk]
  by_cases hl : 56 < m.payload.length
  · exact ⟨_, if_pos hl, by simp only [if_pos hl]; rfl⟩
  · exact ⟨s.dlf.truncations, if_neg hl, by simp only [if_neg hl]⟩

/-! ### Where a new message goes -/

section
variable {ring : Ring} {m : Staged} {pre post : List Staged} {old : Staged}

/-- Without a ring the message is dropped and counted (R160). -/
theorem stageMessage_noRing (h : s.mae.ring = none) :
    stageMessage m s = { s with mae.stagingDrops := min (s.mae.stagingDrops + 1) 65535 } := by
  rw [stageMessage, h]
  rfl

/-- A queue with room takes the message (R160). -/
theorem stageMessage_room (h : s.mae.ring = some ring) (hl : s.mae.staging.length < 8) :
    stageMessage m s = staleDropped ring { s with mae.staging := joinStaging m s.mae.staging } := by
  rw [stageMessage, h]
  exact (if_pos hl).trans (dropStaleInfo_eq h)

/-- A full queue drops an INFO message, and a COMMAND message where it holds none to evict (R160). -/
theorem stageMessage_full (h : s.mae.ring = some ring) (hl : 8 ≤ s.mae.staging.length)
    (hc : m.cls = .info ∨ stagedOf .info s.mae.staging = []) : stageMessage m s =
      withCause .ringOverflow { s with mae.stagingDrops := min (s.mae.stagingDrops + 1) 65535 } := by
  rw [stageMessage, h]
  refine (if_neg (Nat.not_lt.mpr hl)).trans ?_
  cases hm : m.cls with
  | info => exact raiseCause_eq _ _
  | command =>
    rw [evictInfo_none (hc.resolve_left (by simp [hm]))]
    exact raiseCause_eq _ _

/-- A COMMAND message at a full queue takes the place of its oldest INFO message (R160). -/
theorem stageMessage_evicts (h : s.mae.ring = some ring) (hl : 8 ≤ s.mae.staging.length) (hm : m.cls = .command)
    (hq : s.mae.staging = pre ++ old :: post) (ho : old.cls = .info) (hp : stagedOf .info pre = []) :
    stageMessage m s = staleDropped ring (withCause .ringOverflow { s with
      mae.stagingDrops := min (s.mae.stagingDrops + 1) 65535
      mae.staging := joinStaging m (pre ++ post) }) := by
  have he : evictInfo s.mae.staging = some (pre ++ post) := hq ▸ evictInfo_split ho hp
  rw [stageMessage, h]
  refine (if_neg (Nat.not_lt.mpr hl)).trans ?_
  rw [hm]
  simp only [he]
  rw [stagingOverflow, raiseCause_eq]
  exact dropStaleInfo_eq h

end

theorem routeMirror_short {payload : List Byte} (h : payload.length < 4) :
    routeMirror payload s = { s with dlf.mirrorMisses := min (s.dlf.mirrorMisses + 1) 65535 } := by
  unfold routeMirror
  split
  · next tag offset data =>
    have hw : (wordsOfBytes data).isEmpty = true := by
      rw [wordsOfBytes_isEmpty]
      simp at h
      simp
      omega
    exact if_pos hw
  · rfl

/-- A MIRROR message with words goes to the window of its tag, or is missed (R150). -/
theorem routeMirror_words {tag offset : Byte} {data : List Byte} (h : 2 ≤ data.length) :
    routeMirror (tag :: offset :: data) s = match mirrorWithTag s tag with
      | some i => listMirror i offset.toNat (wordsOfBytes data) s
      | none => missMirror s := by
  have hw : (wordsOfBytes data).isEmpty = false := by
    rw [wordsOfBytes_isEmpty]
    exact decide_eq_false (Nat.not_lt.mpr h)
  exact if_neg (Bool.eq_false_iff.mp hw)

/-- A provisioning operation with its argument words is carried out and answered, and else answered BAD_FIELD (R151). -/
theorem routeProvision_op {seq code : Byte} {data : List Byte} {n : Nat} {op : State → State × ResultCode}
    (hne : code ≠ codeForceCrossover) (hp : provision code (wordsOfBytes data) s = withArgs n (wordsOfBytes data) op s) :
    (n ≤ (wordsOfBytes data).length →
      routeProvision seq (code :: data) s = offerProvisionReply seq (op s).2 (op s).1) ∧
    ((wordsOfBytes data).length < n → routeProvision seq (code :: data) s = offerProvisionReply seq .badField s) := by
  rw [routeProvision, if_neg hne, hp, withArgs]
  exact ⟨fun h => by rw [if_neg (Nat.not_lt.mpr h)], fun h => by rw [if_pos h]⟩

/-- Settles O60. -/
theorem messagesRouted : Obligations.MessagesRouted := by
  refine ⟨fun dt l status burst ms before => ?_, fun zone frame m x => ?_⟩
  · intro s h hgood hlock hr hc hburst
    exact exec_downlink h hgood hlock hr hc hburst
  intro t
  refine ⟨fun hk => ?_, fun kind hk => ?_⟩
  · show examineMessage zone frame x m = _
    rw [examineMessage, hk]
    rfl
  intro cut payload accepted r order repeated counted new
  obtain ⟨n, hcut, hexam⟩ := examineMessage_eq (s := x) (zone := zone) (frame := frame) hk
  have hcut : cut = { x with dlf.truncations := n } := hcut
  have ht : t = if accepts x kind m.destination then takeAccepted r frame payload cut else cut := by
    rw [hcut]
    exact hexam
  have hacc : accepts x kind m.destination = true ↔ accepted := accepts_iff x kind m.destination
  clear_value t cut
  subst hcut
  refine ⟨fun ha => by rw [ht, if_neg (mt hacc.mp ha)], fun ha hm => ?_, fun ha hm => ?_⟩
  · have hrep : repeatsAccepted { x with dlf.truncations := n } r = true ↔ repeated := by
      rw [repeatsAccepted_iff, stopOfKind_eq]
    have hm' : r ∈ ({ x with dlf.truncations := n } : State).dlf.recent := hm
    rw [ht, if_pos (hacc.mpr ha), takeAccepted, if_pos hm', dropDuplicate]
    refine ⟨fun hr => if_neg (mt hrep.mp hr), fun hr => ?_⟩
    rw [if_pos (hrep.mpr hr)]
    obtain ⟨-, hseq, -, hsource, -⟩ := hr
    rw [← hseq, ← hsource]
    rfl
  have hm' : r ∉ ({ x with dlf.truncations := n } : State).dlf.recent := hm
  have hnew : new = { x with dlf := { x.dlf with truncations := n, recent := addRecent r x.dlf.recent } } := by
    rw [addRecent_eq]
  rw [if_pos (hacc.mpr ha), takeAccepted, if_neg hm'] at ht
  have ht : t = routeMessage r frame payload new := by rw [ht, hnew]
  clear_value new
  have hmae : new.mae = x.mae := by rw [hnew]
  have hau : new.au = x.au := by rw [hnew]
  have huq : new.uq = x.uq := by rw [hnew]
  have hwt : new.wt = x.wt := by rw [hnew]
  have hft : new.ft = x.ft := by rw [hnew]
  have hmiss : new.dlf.mirrorMisses = x.dlf.mirrorMisses := by rw [hnew]
  clear hnew
  refine ⟨fun stop hs => ?_, fun cls hc => ?_, fun hc => ?_, fun hc => ?_, fun hc => ?_⟩
  · have hroute : t = recordStop stop m.destination m.seq zone frame payload new := by
      have hk : (kind = .stopHold ∧ stop = .hold) ∨ (kind = .stopRelease ∧ stop = .release) := by
        revert hs
        simp only [order]
        split
        · next h => exact fun he => .inl ⟨h, (Option.some.inj he).symm⟩
        · split
          · next h => exact fun he => .inr ⟨h, (Option.some.inj he).symm⟩
          · exact nofun
      obtain ⟨hk, rfl⟩ | ⟨hk, rfl⟩ := hk
      · rw [ht, routeMessage, show r.kind = .stopHold from hk]
      · rw [ht, routeMessage, show r.kind = .stopRelease from hk]
    obtain ⟨attention, hrecord⟩ := recordStop_eq stop m.destination m.seq zone frame payload new
    rw [hroute, hrecord]
    refine ⟨?_, ?_, ?_, ?_, status_requestStatus _, ?_, ?_, ?_⟩
    all_goals rw [requestStatus_eq]
    exacts [by rw [hau], huq, hwt]
  · intro staged queue of dropped
    have hroute : t = stageMessage staged new := by
      cases cls <;> rw [ht, routeMessage, show r.kind = _ from hc]
    have hqueue : new.mae.staging = queue := by rw [hmae]
    have hdropped : dropped = { new with mae.stagingDrops := min (new.mae.stagingDrops + 1) 65535 } := by
      simp only [dropped, hmae]
    refine ⟨fun hr => ?_, fun ring hr => ?_⟩
    · rw [hroute, hdropped]
      exact stageMessage_noRing (by rw [hmae]; exact hr)
    have hr' : new.mae.ring = some ring := by rw [hmae]; exact hr
    rw [← hqueue, hdropped, hroute]
    refine ⟨fun hl hcls => ?_, fun hl hcls => ?_, fun hl hor => stageMessage_full hr' hl hor,
      fun pre old post hl hcls hq ho hp => ?_⟩
    · rw [stageMessage_room hr' hl, joinStaging_command hcls]
      rfl
    · rw [stageMessage_room hr' hl, joinStaging, show staged.cls = .info from hcls]
    · rw [stageMessage_evicts hr' hl hcls hq ho hp, joinStaging_command hcls]
      rfl
  · have hroute : t = routeMirror payload new := by rw [ht, routeMessage, show r.kind = .mirror from hc]
    intro missed
    have hmissed : missed = { new with dlf.mirrorMisses := min (new.dlf.mirrorMisses + 1) 65535 } := by rw [hmiss]
    have hentry : ∀ j, entryAt new j = entryAt x j := fun j => by rw [entryAt, hwt]; rfl
    rw [hroute, hmissed]
    refine ⟨fun hl => routeMirror_short hl, fun tag offset data hl hp => ?_⟩
    have h2 : 2 ≤ data.length := by
      rw [hp] at hl
      simpa using hl
    rw [hp, routeMirror_words h2]
    simp only [← hentry]
    refine ⟨fun hnone => ?_, fun i e n hi he hb htag hfirst => ?_⟩
    · rw [mirrorWithTag_none hnone]
      rfl
    · rw [mirrorWithTag_some hi he hb htag hfirst, ← hmae]
      exact ⟨fun hl => if_pos hl, fun hl => if_neg (Nat.not_lt.mpr hl)⟩
  · have hroute : t = routeProvision m.seq payload new := by rw [ht, routeMessage, show r.kind = .provision from hc]
    intro reply done
    refine ⟨fun hp => by rw [hroute, hp]; rfl, fun code data hp => ?_⟩
    intro args op
    rw [hp] at hroute
    have hop : ∀ (c : Byte) (n : Nat) (f : State → State × ResultCode), c ≠ codeForceCrossover →
        provision c args new = withArgs n args f new → op c n (f new) := by
      intro c k f hne hprov hcode
      subst hcode
      obtain ⟨h1, h2⟩ := routeProvision_op (seq := m.seq) hne hprov
      exact ⟨fun hl => hroute.trans (h1 hl), fun hl => hroute.trans (h2 hl)⟩
    refine ⟨hop _ _ (loadWindow .radioLoad args) (by decide) rfl, hop _ _ (clearWindow .radioLoad args) (by decide) rfl,
      hop _ _ (loadCompare .radioLoad args) (by decide) rfl, hop _ _ (clearCompare .radioLoad args) (by decide) rfl,
      hop _ _ (loadGroup .radioLoad args) (by decide) rfl, hop _ _ (setTiming args) (by decide) rfl,
      hop _ _ (setMargin args) (by decide) rfl, fun hcode => ?_, fun hcode => ?_⟩
    · rw [hroute, routeProvision, if_pos (show code = codeForceCrossover from hcode), ← hft]
      exact ⟨fun hl => if_pos hl, fun hl => if_neg hl⟩
    · have hne : code ≠ codeForceCrossover := fun h => hcode (by rw [h]; decide)
      have hbad : provision code args new = (new, .badCode) := by
        unfold provision
        rw [if_neg fun h => hcode (by rw [h]; decide), if_neg fun h => hcode (by rw [h]; decide),
          if_neg fun h => hcode (by rw [h]; decide), if_neg fun h => hcode (by rw [h]; decide),
          if_neg fun h => hcode (by rw [h]; decide), if_neg fun h => hcode (by rw [h]; decide),
          if_neg fun h => hcode (by rw [h]; decide)]
      rw [hroute, routeProvision, if_neg hne, show provision code (wordsOfBytes data) new = _ from hbad]
      rfl
  · rw [ht, routeMessage, show r.kind = .reset from hc]

end Sys2Proof.Machine
end

section
/-! SUPPORT. Reports that are set aside. -/

-- One proof is checked after another: each worker thread of Lean reserves memory of its own.
set_option Elab.async false

namespace Sys2Proof.Machine

variable {s t : State} {l : Link} {dt : Tick} {before : State} {status : Byte} {burst : List Byte} {a : Option Tick}

/-! ### A report that ends a wait -/

/-- What a report ends: the wait of the beacon-window close at the PRIMARY link, of the watch close at the STANDBY link. -/
theorem release_eq (l : Link) (s : State) : releaseWatch l (releaseClose l s) =
    { s with
      ft.window := if (linkOf s l).role = .primary then s.ft.window.map fun w => { w with wait := w.wait.release } else s.ft.window
      xu.watch := if (linkOf s l).role = .standby then s.xu.watch.map fun w => { w with wait := w.wait.release } else s.xu.watch } := by
  have hc : linkOf (releaseClose l s) l = linkOf s l := by
    rw [releaseClose]
    cases l <;> split <;> rfl
  rw [releaseWatch, hc, releaseClose]
  by_cases hp : (linkOf s l).role = .primary
  · rw [if_pos hp, if_pos hp, if_neg (by rw [hp]; decide), if_neg (by rw [hp]; decide)]
  · rw [if_neg hp, if_neg hp]
    split <;> rfl

/-- What a report ends is ended alike where it has only counted. -/
theorem release_downlinkErrors (l : Link) (s : State) (n : Nat) :
    releaseWatch l (releaseClose l { s with dlf.downlinkErrors := n }) = { releaseWatch l (releaseClose l s) with dlf.downlinkErrors := n } := by
  rw [release_eq, release_eq]
  cases l <;> rfl

theorem release_foreignDownlinks (l : Link) (s : State) (n : Nat) :
    releaseWatch l (releaseClose l { s with dlf.foreignDownlinks := n }) = { releaseWatch l (releaseClose l s) with dlf.foreignDownlinks := n } := by
  rw [release_eq, release_eq]
  cases l <;> rfl

theorem release_coChannel (l : Link) (s : State) (n : Nat) : releaseWatch l (releaseClose l { s with ft.coChannel := n }) =
    { releaseWatch l (releaseClose l s) with ft.coChannel := n } := by
  rw [release_eq, release_eq]
  cases l <;> rfl

theorem release_syncErrors (l : Link) (s : State) (n : Nat) : releaseWatch l (releaseClose l { s with ft.syncErrors := n }) =
    { releaseWatch l (releaseClose l s) with ft.syncErrors := n } := by
  rw [release_eq, release_eq]
  cases l <;> rfl

/-! ### Where a report goes -/

/-- A report from a link that is neither READY nor TX-FAULT goes nowhere (R119). -/
theorem routeReport_deaf (h : (linkOf s l).condition = .tuning ∨ (linkOf s l).condition = .portFault) :
    routeReport l a status burst s = s := by
  obtain ⟨hr, ht⟩ : (linkOf s l).condition ≠ .ready ∧ (linkOf s l).condition ≠ .txFault := by
    obtain h | h := h <;> simp [h]
  unfold routeReport
  cases hrole : (linkOf s l).role <;> simp [hr, ht, hrole]

/-- A bad report goes nowhere in SEARCH or on the STANDBY link (R119). -/
theorem routeReport_bad (hb : reportGood status = false) (h : s.ft.lock = .search ∨ (linkOf s l).role = .standby) :
    routeReport l a status burst s = s := by
  unfold routeReport
  by_cases hl : s.ft.lock = .search
  · simp [hl, hb]
  · simp [hl, h.resolve_left hl, hb]

/-! ### The beacons that are not taken -/

section
variable {q : Nat} {b : Beacon} {x : Tick}

/-- The lock states in which the car follows a zone. -/
abbrev Follows (s : State) : Prop := s.ft.lock = .locked ∨ s.ft.lock = .holdover

theorem screenBeacon_coChannel (hf : Follows s) (hz : b.zone ≠ s.ft.zone) :
    screenBeacon x q b s = { s with ft.coChannel := min (s.ft.coChannel + 1) 65535 } := by
  unfold screenBeacon
  rw [if_pos (by simpa [hz] using hf)]
  rfl

theorem windowOf_eq_some {w : BeaconWindow} (hw : s.ft.window = some w) (hin : withinTicks x w.expected w.half = true) :
    windowOf x s.ft = some w := by
  rw [windowOf, hw]
  exact Option.filter_some_pos hin

/-- A second beacon in a window changes nothing (R86). -/
theorem screenBeacon_second {w : BeaconWindow} (hz : b.zone = s.ft.zone ∨ ¬Follows s) (hw : s.ft.window = some w)
    (hin : withinTicks x w.expected w.half = true) (ht : w.taken = true) : screenBeacon x q b s = s := by
  have hc : ((decide (s.ft.lock = .locked) || decide (s.ft.lock = .holdover)) && decide (b.zone ≠ s.ft.zone)) = false := by
    obtain hz | hf := hz
    · simp [hz]
    · have hf' : (decide (s.ft.lock = .locked) || decide (s.ft.lock = .holdover)) = false := by
        rw [← Bool.decide_or]
        exact decide_eq_false hf
      rw [hf', Bool.false_and]
  unfold screenBeacon
  simp only [hc, Bool.false_eq_true, if_false, windowOf_eq_some hw hin, ht, if_true]

/-- An out-of-window beacon is counted (R86). -/
theorem screenBeacon_outside (hf : Follows s) (hz : b.zone = s.ft.zone)
    (hw : ∀ w, s.ft.window = some w → withinTicks x w.expected w.half = false) :
    screenBeacon x q b s = { s with ft.syncErrors := min 255 (s.ft.syncErrors + 1) } := by
  have hnone : windowOf x s.ft = none := by
    rw [windowOf, Option.filter_eq_none_iff]
    intro w hs
    rw [hw w hs]
    exact Bool.false_ne_true
  have hf' : (decide (s.ft.lock = .locked) || decide (s.ft.lock = .holdover)) = true := by
    rw [← Bool.decide_or]
    exact decide_eq_true hf
  unfold screenBeacon
  simp [hnone, hf', hz]

end

theorem wellFormed_iff (b : Beacon) : Beacon.wellFormed b.period b.slots = true ↔
    40000 ≤ b.period ∧ b.period ≤ 1000000 ∧ 4 ≤ b.slots ∧ b.slots ≤ 64 ∧ 2000 ≤ b.period / b.slots := by
  simp [Beacon.wellFormed, and_assoc]

theorem withinTicks_iff (x c : Tick) (half : Nat) :
    withinTicks x c half = true ↔ -(half : Int) ≤ (x - c).toInt ∧ (x - c).toInt ≤ half := decide_eq_true_iff

/-- Settles O58. -/
theorem reportsSetAside : Obligations.ReportsSetAside := by
  intro dt l status burst before s h k paired gives heard whole
  have hx : ∀ t, routeReport l k.held status burst (putLink l { k with held := none } s) = t →
      gives (releaseWatch l (releaseClose l t)) := fun t ht => by
    subst ht
    exact exec_received h
  have hp : ∃ p, p = putLink l { k with held := none } s := ⟨_, rfl⟩
  obtain ⟨p, hp⟩ := hp
  have hlink : linkOf p l = { k with held := none } := by rw [hp, linkOf_putLink_self]
  have hft : p.ft = s.ft := by rw [hp, putLink_ft]
  have hdlf : p.dlf = s.dlf := by rw [hp, putLink_dlf]
  have hpaired : paired = releaseWatch l (releaseClose l p) := by rw [hp]
  rw [← hp] at hx
  have hgood : status.getLsbD 7 = true → reportGood status = true := id
  have hbad : status.getLsbD 7 = false → reportGood status = false := id
  have hprimary : heard → routeReport l k.held status burst p = filterReport l k.held status burst p := fun ⟨hl, hr, hc⟩ =>
    routeReport_primary (by rw [hft]; exact hl) (by rw [hlink]; exact hr) (by rw [hlink]; exact hc)
  clear_value paired
  subst hpaired
  refine ⟨fun hc => hx _ (routeReport_deaf (by rw [hlink]; exact hc)), fun hb hr => hx _ (routeReport_bad (hbad hb)
    (by rw [hft, hlink]; exact hr)), fun hh hg hu => hx _ ?_, fun b hh hg hu => ?_, fun hh hb => ?_, fun zone ms hh hg hu hz => ?_⟩
  · rw [hprimary hh, filterReport, hgood hg, hu]
    rfl
  · have hbeacon : ∀ a, k.held = some a → whole b → routeReport l k.held status burst p = screenBeacon a (reportQuality status) b p :=
      fun a ha hw => by
        rw [hprimary hh, filterReport, hgood hg, hu, ha]
        simp only [Bool.not_true, Bool.false_eq_true, if_false]
        rw [handBeacon, if_pos ((wellFormed_iff b).mpr hw), if_neg (by rw [hft]; exact hh.1)]
    refine ⟨fun hn => hx _ ?_, fun a ha hw => ?_⟩
    · rw [hprimary hh, filterReport, hgood hg, hu]
      obtain hn | hn := hn
      · rw [hn]
        rfl
      · cases k.held with
        | none => rfl
        | some a => exact if_neg (mt (wellFormed_iff b).mp hn)
    · intro follows inWindow
      have hiff : ∀ w, withinTicks a w.expected w.half = true ↔ inWindow w := fun w => withinTicks_iff a w.expected w.half
      have hfollows : Follows p ↔ follows := by rw [Follows, hft]
      refine ⟨fun hf hz => ?_, fun w hz hwin hin ht => hx _ ?_, fun hf hz hwin => ?_⟩
      · have := hx _ ((hbeacon a ha hw).trans (screenBeacon_coChannel (hfollows.mpr hf) (by rw [hft]; exact hz)))
        rw [release_coChannel, hft] at this
        exact this
      · rw [hbeacon a ha hw]
        exact screenBeacon_second (hz.imp (by rw [hft]; exact id) (mt hfollows.mp)) (by rw [hft]; exact hwin) ((hiff w).mpr hin) ht
      · have := hx _ ((hbeacon a ha hw).trans (screenBeacon_outside (hfollows.mpr hf) (by rw [hft]; exact hz)
          (by rw [hft]; exact fun w hs => Bool.eq_false_iff.mpr (mt (hiff w).mp (hwin w hs)))))
        rw [release_syncErrors, hft] at this
        exact this
  · have hroute : routeReport l k.held status burst p = { p with dlf.downlinkErrors := min (p.dlf.downlinkErrors + 1) 65535 } := by
      rw [hprimary hh, filterReport]
      obtain hb | hb := hb
      · rw [hbad hb]
        rfl
      · cases reportGood status with
        | false => rfl
        | true =>
          rw [hb]
          rfl
    have := hx _ hroute
    rw [release_downlinkErrors, hdlf] at this
    exact this
  · have hroute : routeReport l k.held status burst p = { p with dlf.foreignDownlinks := min (p.dlf.foreignDownlinks + 1) 65535 } := by
      rw [hprimary hh, filterReport, hgood hg, hu]
      simp only [Bool.not_true, Bool.false_eq_true, if_false, takeDownlink]
      rw [if_neg (by rw [hft]; exact hh.1), if_pos (by rw [hft]; exact hz)]
      rfl
    have := hx _ hroute
    rw [release_foreignDownlinks, hdlf] at this
    exact this

end Sys2Proof.Machine
end

section
/-! SUPPORT. What becomes of the uplink records at a burst's end, at a close, at a crossover and at an entry into SEARCH. -/

-- One proof is checked after another: each worker thread of Lean reserves memory of its own.
set_option Elab.async false

namespace Sys2Proof.Machine

variable {s : State} {rs : List Record} {fate : List Record → Record → Fate} {x r : Record} {n : BitVec 6}

/-! ### Fates in list order -/

/-- What a fate leaves of a record. -/
def Fate.left : Fate → Option Record
  | .keep r => some r
  | .drop => none
  | .superseded => none
  | .undelivered => none

/-- Where each record's fate is the one `g` gives it, however the earlier ones have been left by `g`, the records are left as
`g` says, and each loss is counted. -/
theorem settleRecords_eq (g : Record → Fate) : ∀ (post pre : List Record),
    (∀ pre' r post', post = pre' ++ r :: post' → fate ((pre ++ pre').filterMap (fun r => (g r).left) ++ post') r = g r) →
    settleRecords fate (pre.filterMap fun r => (g r).left) post =
      ⟨(pre ++ post).filterMap fun r => (g r).left, (post.filter fun r => decide (g r = .superseded)).length,
        (post.filter fun r => decide (g r = .undelivered)).length⟩
  | [], pre, _ => by simp [settleRecords]
  | r :: post, pre, h => by
    have hr : fate (pre.filterMap (fun r => (g r).left) ++ post) r = g r := by simpa using h [] r post rfl
    have ih := settleRecords_eq g post (pre ++ [r]) fun pre' x post' hp => by
      simpa using h (r :: pre') x post' (by rw [hp]; rfl)
    rw [List.append_cons, settleRecords, hr]
    cases hg : g r <;> simp [hg, Fate.left] at ih ⊢ <;> simp [ih]

theorem mem_settleRecords : ∀ (rs before : List Record), x ∈ (settleRecords fate before rs).records →
    x ∈ before ∨ ∃ r ∈ rs, ∃ others, fate others r = .keep x
  | [], before, h => .inl h
  | r :: rest, before, h => by
    have tail : ∀ b, x ∈ (settleRecords fate b rest).records → x ∈ b ∨ ∃ y ∈ r :: rest, ∃ o, fate o y = .keep x := fun b hb =>
      (mem_settleRecords rest b hb).imp id fun ⟨y, hy, ho⟩ => ⟨y, List.mem_cons_of_mem r hy, ho⟩
    rw [settleRecords] at h
    split at h
    case h_1 t ht =>
      obtain hb | hy := tail _ h
      · obtain hb | hx := List.mem_append.mp hb
        · exact .inl hb
        · exact .inr ⟨r, List.mem_cons_self, _, ht.trans (by rw [List.mem_singleton.mp hx])⟩
      · exact .inr hy
    all_goals exact tail _ h

theorem settleRecords_undelivered (h : ∀ others r, fate others r ≠ .undelivered) : ∀ (rs before : List Record),
    (settleRecords fate before rs).undelivered = 0
  | [], _ => rfl
  | r :: rest, before => by
    rw [settleRecords]
    split
    case h_4 hu => exact absurd hu (h _ r)
    all_goals exact settleRecords_undelivered h rest _

/-- An event that leaves no record undelivered changes the queue alone. -/
theorem settleQueue_eq (h : ∀ others r, fate others r ≠ .undelivered) (s : State) : settleQueue fate s =
    { s with
      uq.records := (settleRecords fate [] s.uq.records).records
      uq.superseded := min (s.uq.superseded + (settleRecords fate [] s.uq.records).superseded) 65535
      uq.undelivered := min s.uq.undelivered 65535 } := by
  have hu := settleRecords_undelivered h s.uq.records []
  unfold settleQueue
  simp only [hu, if_true]
  rfl

/-! ### Records apart -/

theorem isQueued_iff (r : Record) : r.isQueued = true ↔ r.state = .queued := decide_eq_true_iff

theorem isOnAir_iff (r : Record) : r.isOnAir = true ↔ r.state = .onAir := decide_eq_true_iff

theorem hasNewer_iff : hasNewer rs r = true ↔ placeTaken rs r := by
  unfold hasNewer placeTaken Record.sharesPlace
  cases r.kind <;> simp only [List.any_eq_true, Bool.and_eq_true, isQueued_iff, decide_eq_true_iff, reduceCtorEq, false_and, true_and,
    or_false, false_or, and_false, exists_false, Bool.false_eq_true, and_assoc, eq_comm (a := r.window)]

theorem awaits_iff (r : Record) : r.awaits = true ↔ ∃ due, r.state = .awaitAck due := by
  unfold Record.awaits Record.inFlight
  cases r.state <;> simp

/-- A fate that looks at the other records only for a QUEUED record in the place of a record in flight. -/
structure Local (fate : List Record → Record → Fate) : Prop where
  queued : ∀ others r, r.state = .queued → fate others r = .keep r
  inFlight : ∀ others others' r, (placeTaken others r ↔ placeTaken others' r) → fate others r = fate others' r
  place : ∀ others r t, fate others r = .keep t → t.kind = r.kind ∧ t.window = r.window

/-- Records apart meet their fates as if each were judged beside the records that were there before (R67). -/
theorem settleRecords_apart (hl : Local fate) (ha : Apart rs) : settleRecords fate [] rs =
    ⟨rs.filterMap fun r => (fate rs r).left, (rs.filter fun r => decide (fate rs r = .superseded)).length,
      (rs.filter fun r => decide (fate rs r = .undelivered)).length⟩ := by
  have key := settleRecords_eq (fate := fate) (fate rs) rs []
  simp only [List.nil_append, List.filterMap_nil] at key
  refine key fun pre r post hrs => ?_
  by_cases hq : r.state = .queued
  · rw [hl.queued _ r hq, hl.queued _ r hq]
  have hf : r.inFlight = true := by
    rw [Record.inFlight]
    split
    exacts [absurd ‹_› hq, rfl, rfl]
  have hpair : (pre ++ r :: post).Pairwise fun r w => r.inFlight = true → w.inFlight = true → ¬r.sharesPlace w := hrs ▸ ha
  have hpre : ∀ y ∈ pre, y.inFlight = true → ¬y.sharesPlace r := fun y hy hyf =>
    (List.pairwise_append.mp hpair).2.2 y hy r List.mem_cons_self hyf hf
  refine hl.inFlight _ _ r ⟨fun ⟨w, hw, hwq, hwp⟩ => ?_, fun ⟨w, hw, hwq, hwp⟩ => ?_⟩
  · obtain hw | hw := List.mem_append.mp hw
    · obtain ⟨y, hy, hyw⟩ := List.mem_filterMap.mp hw
      by_cases hyq : y.state = .queued
      · rw [hl.queued _ y hyq] at hyw
        cases hyw
        exact ⟨w, by rw [hrs]; exact List.mem_append_left _ hy, hwq, hwp⟩
      · exfalso
        obtain ⟨t, ht⟩ : ∃ t, fate rs y = .keep t := by
          cases hfy : fate rs y with
          | keep t => exact ⟨t, rfl⟩
          | drop => rw [hfy] at hyw; cases hyw
          | superseded => rw [hfy] at hyw; cases hyw
          | undelivered => rw [hfy] at hyw; cases hyw
        rw [ht] at hyw
        cases hyw
        obtain ⟨hk, hwin⟩ := hl.place _ _ _ ht
        have hyf : y.inFlight = true := by
          rw [Record.inFlight]
          split
          exacts [absurd ‹_› hyq, rfl, rfl]
        refine hpre y hy hyf ?_
        rw [Record.sharesPlace, hk, hwin] at hwp
        exact hwp.imp (fun ⟨h1, h2, h3⟩ => ⟨h2, h1, h3.symm⟩) fun ⟨h1, h2⟩ => ⟨h2, h1⟩
    · exact ⟨w, by rw [hrs]; exact List.mem_append_right _ (List.mem_cons_of_mem r hw), hwq, hwp⟩
  · rw [hrs] at hw
    refine ⟨w, ?_, hwq, hwp⟩
    obtain hw | hw := List.mem_append.mp hw
    · exact List.mem_append_left _ (List.mem_filterMap.mpr ⟨w, hw, by rw [hl.queued _ w hwq]; rfl⟩)
    · obtain rfl | hw := List.mem_cons.mp hw
      · exact absurd hwq hq
      · exact List.mem_append_right _ hw

/-! ### The fates of the manual -/

theorem returnFate_eq (others : List Record) (r : Record) : returnFate others r =
    if placeTaken others r then .superseded else .keep { r with state := .queued, ackedOnAir := false } := by
  unfold returnFate
  by_cases h : placeTaken others r
  · rw [if_pos h, if_pos (hasNewer_iff.mpr h)]
  · rw [if_neg h, if_neg (mt hasNewer_iff.mp h)]

theorem abandonFate_eq (others : List Record) (r : Record) : abandonFate others r =
    if r.state = .onAir then
      if r.detached = true ∨ r.ackedOnAir = true then .drop else returnFate others r
    else .keep r := by
  unfold abandonFate
  simp only [Bool.not_eq_true', ← Bool.not_eq_true, isOnAir_iff, Bool.or_eq_true]
  split <;> simp_all

theorem returnAwaiting_eq (others : List Record) (r : Record) : returnAwaiting others r =
    if r.awaits = true then returnFate others r else .keep r := by
  unfold returnAwaiting
  cases hs : r.state <;> simp [awaits_iff, hs]

theorem returnFate_local {others others' : List Record} (h : placeTaken others r ↔ placeTaken others' r) :
    returnFate others r = returnFate others' r := by
  rw [returnFate_eq, returnFate_eq]
  simp only [h]

theorem returnFate_place {others : List Record} {t : Record} (h : returnFate others r = .keep t) :
    t.kind = r.kind ∧ t.window = r.window := by
  rw [returnFate_eq] at h
  split at h <;> cases h
  exact ⟨rfl, rfl⟩

theorem local_abandonFate : Local abandonFate where
  queued others r hq := by rw [abandonFate_eq, if_neg (by rw [hq]; simp)]
  inFlight others others' r h := by
    rw [abandonFate_eq, abandonFate_eq, returnFate_local h]
  place others r t h := by
    rw [abandonFate_eq] at h
    split at h
    · split at h
      · cases h
      · exact returnFate_place h
    · cases h
      exact ⟨rfl, rfl⟩

theorem local_returnAwaiting : Local returnAwaiting where
  queued others r hq := by rw [returnAwaiting_eq, if_neg (by rw [awaits_iff, hq]; simp)]
  inFlight others others' r h := by
    rw [returnAwaiting_eq, returnAwaiting_eq, returnFate_local h]
  place others r t h := by
    rw [returnAwaiting_eq] at h
    split at h
    · exact returnFate_place h
    · cases h
      exact ⟨rfl, rfl⟩

/-! ### The queue after a burst's end, a close, and an entry into SEARCH -/

theorem abandonFate_ne (others : List Record) (r : Record) : abandonFate others r ≠ .undelivered := by
  rw [abandonFate_eq, returnFate_eq]
  repeat' split
  all_goals simp

theorem returnAwaiting_ne (others : List Record) (r : Record) : returnAwaiting others r ≠ .undelivered := by
  rw [returnAwaiting_eq, returnFate_eq]
  repeat' split
  all_goals simp

theorem completionFate_ne (n : BitVec 6) (others : List Record) (r : Record) : completionFate n others r ≠ .undelivered := by
  unfold completionFate
  repeat' split
  all_goals simp

/-- No record is ON_AIR after an abandonment (R67). -/
theorem not_onAir_abandon (h : x ∈ (settleRecords abandonFate [] rs).records) : x.state ≠ .onAir := by
  obtain h | ⟨r, -, others, hr⟩ := mem_settleRecords rs [] h
  · cases h
  · rw [abandonFate_eq, returnFate_eq] at hr
    split at hr
    · repeat' split at hr
      all_goals cases hr
      simp
    · cases hr
      assumption

/-- No record is AWAIT_ACK after an entry into SEARCH (R74). -/
theorem not_awaits_return (h : x ∈ (settleRecords returnAwaiting [] rs).records) : x.awaits = false := by
  obtain h | ⟨r, -, others, hr⟩ := mem_settleRecords rs [] h
  · cases h
  · rw [returnAwaiting_eq, returnFate_eq] at hr
    split at hr
    · split at hr <;> cases hr
      rfl
    · cases hr
      exact Bool.eq_false_iff.mpr ‹_›

/-- An abandonment of records apart (R67). -/
theorem settleRecords_abandon (ha : Apart rs) : settleRecords abandonFate [] rs =
    ⟨abandoned rs, (rs.filter fun r => r.isOnAir && !r.detached && !r.ackedOnAir && decide (placeTaken rs r)).length, 0⟩ := by
  rw [settleRecords_apart local_abandonFate ha, Settled.mk.injEq]
  refine ⟨List.filterMap_congr fun r _ => ?_, congrArg List.length (List.filter_congr fun r _ => ?_), ?_⟩
  · rw [abandonFate_eq, returnFate_eq]
    by_cases h1 : r.state = .onAir
    · by_cases h2 : r.detached = true ∨ r.ackedOnAir = true
      · rw [if_pos h1, if_pos h1, if_pos h2, if_pos (by rw [← or_assoc]; exact .inl h2)]
        rfl
      · rw [if_pos h1, if_pos h1, if_neg h2]
        by_cases h3 : placeTaken rs r
        · rw [if_pos h3, if_pos (.inr (.inr h3))]
          rfl
        · rw [if_neg h3, if_neg (by rw [← or_assoc]; exact not_or.mpr ⟨h2, h3⟩)]
          rfl
    · rw [if_neg h1, if_neg h1]
      rfl
  · rw [abandonFate_eq, returnFate_eq, Bool.eq_iff_iff]
    simp only [decide_eq_true_iff, Bool.and_eq_true, isOnAir_iff, Bool.not_eq_true']
    by_cases h1 : r.state = .onAir <;> by_cases h2 : r.detached = true <;> by_cases h3 : r.ackedOnAir = true <;>
      by_cases h4 : placeTaken rs r <;> simp [h1, h2, h3, h4]
  · rw [List.filter_eq_nil_iff.mpr fun r _ => by rw [decide_eq_true_iff]; exact abandonFate_ne rs r]
    rfl

/-- The return of AWAIT_ACK records that are apart (R74). -/
theorem settleRecords_return (ha : Apart rs) : settleRecords returnAwaiting [] rs =
    ⟨returned rs, (rs.filter fun r => r.awaits && decide (placeTaken rs r)).length, 0⟩ := by
  rw [settleRecords_apart local_returnAwaiting ha, Settled.mk.injEq]
  refine ⟨List.filterMap_congr fun r _ => ?_, congrArg List.length (List.filter_congr fun r _ => ?_), ?_⟩
  · rw [returnAwaiting_eq, returnFate_eq]
    by_cases h1 : r.awaits = true
    · rw [if_pos h1, if_pos h1]
      by_cases h2 : placeTaken rs r
      · rw [if_pos h2, if_pos h2]
        rfl
      · rw [if_neg h2, if_neg h2]
        rfl
    · rw [if_neg h1, if_neg h1]
      rfl
  · rw [returnAwaiting_eq, returnFate_eq, Bool.eq_iff_iff]
    by_cases h1 : r.awaits = true <;> by_cases h2 : placeTaken rs r <;> simp [h1, h2]
  · rw [List.filter_eq_nil_iff.mpr fun r _ => by rw [decide_eq_true_iff]; exact returnAwaiting_ne rs r]
    rfl

end Sys2Proof.Machine
end

section
/-! SUPPORT. What the operations on the links, the dwell and the queue leave alone. -/

-- One proof is checked after another: each worker thread of Lean reserves memory of its own.
set_option Elab.async false

namespace Sys2Proof.Machine

variable {s t : State} {l : Link} {ch : BitVec 4}

/-! ### The blocks beside the links -/

/-- The blocks and values that the operations on links, dwell and queue leave alone. -/
structure Side where
  ram : Memory
  wt : List (Option Entry)
  ftu : FieldTest
  dlf : DownlinkFilter
  ab : Airtime
  tick : Tick
  timing : Timing

def side (s : State) : Side := ⟨s.ram, s.wt, s.ftu, s.dlf, s.ab, s.ft.tick, s.ft.timing⟩

theorem side_eq_iff : side t = side s ↔ t.ram = s.ram ∧ t.wt = s.wt ∧ t.ftu = s.ftu ∧ t.dlf = s.dlf ∧ t.ab = s.ab ∧
    t.ft.tick = s.ft.tick ∧ t.ft.timing = s.ft.timing := by
  simp only [side, Side.mk.injEq]

@[simp] theorem side_putLink (l : Link) (k : LinkState) (s : State) : side (putLink l k s) = side s := by
  cases l <;> rfl

@[simp] theorem side_mapLink (l : Link) (f : LinkState → LinkState) (s : State) : side (mapLink l f s) = side s :=
  side_putLink l _ s

@[simp] theorem side_releaseClose (l : Link) (s : State) : side (releaseClose l s) = side s := by
  unfold releaseClose
  split <;> rfl

@[simp] theorem side_releaseWatch (l : Link) (s : State) : side (releaseWatch l s) = side s := by
  unfold releaseWatch
  split <;> rfl

@[simp] theorem side_requestStatus (s : State) : side (requestStatus s) = side s := by
  unfold requestStatus
  split <;> rfl

@[simp] theorem side_setAttention (q p : BitVec 6) (e : Bool) (s : State) : side (setAttention q p e s) = side s := by
  unfold setAttention
  dsimp only
  split <;> rfl

@[simp] theorem side_raiseRequest (c : RequestClass) (s : State) : side (raiseRequest c s) = side s :=
  side_setAttention _ _ _ s

@[simp] theorem side_raiseCause (c : FaultCause) (s : State) : side (raiseCause c s) = side s :=
  side_raiseRequest _ _

@[simp] theorem side_replyCommand (r : ResultCode) (data : List Word) (s : State) : side (replyCommand r data s) = side s := rfl

@[simp] theorem side_offer (r : Record) (s : State) : side (offer r s) = side s := by
  unfold offer
  dsimp only
  split
  · exact side_raiseCause _ _
  · rfl

@[simp] theorem side_createJoin (s : State) : side (createJoin s) = side s := side_offer _ _

@[simp] theorem side_offerProvisionReply (seq : Byte) (r : ResultCode) (s : State) :
    side (offerProvisionReply seq r s) = side s := side_offer _ _

@[simp] theorem side_settleQueue (fate : List Record → Record → Fate) (s : State) : side (settleQueue fate s) = side s := by
  unfold settleQueue
  dsimp only
  split
  · rfl
  · exact side_raiseCause _ _

@[simp] theorem side_joinTest (s : State) : side (joinTest s) = side s := by
  unfold joinTest
  split
  · exact side_createJoin s
  · rfl

@[simp] theorem side_emptyQueue (s : State) : side (emptyQueue s) = side s := side_createJoin _

@[simp] theorem side_sendTune (l : Link) (ch : BitVec 4) (s : State) : side (sendTune l ch s) = side s := by
  rw [sendTune, side_releaseWatch, side_releaseClose, side_mapLink]

@[simp] theorem side_retune (l : Link) (ch : BitVec 4) (s : State) : side (retune l ch s) = side s := by
  unfold retune
  split
  · rfl
  · rfl
  · exact side_mapLink _ _ _
  · split
    exacts [side_mapLink _ _ _, side_sendTune _ _ _]

@[simp] theorem side_noteTuneSent (l : Link) (s : State) : side (noteTuneSent l s) = side s := by
  unfold noteTuneSent
  repeat' split
  all_goals rfl

@[simp] theorem side_sendNext (l : Link) (s : State) : side (sendNext l s) = side s := by
  unfold sendNext
  split
  · rw [side_noteTuneSent, side_sendTune]
  · rfl

@[simp] theorem side_endBurst (l : Link) (s : State) : side (endBurst l s) = side s := by
  unfold endBurst
  dsimp only
  split
  · rw [side_sendNext]
    rfl
  · rfl

@[simp] theorem side_abandonBurst (s : State) : side (abandonBurst s) = side s := by
  unfold abandonBurst
  split
  · rw [side_endBurst, side_settleQueue]
    rfl
  · rfl

@[simp] theorem side_settleBurst (s : State) : side (settleBurst s) = side s := by
  unfold settleBurst
  dsimp only
  repeat' split
  exacts [side_abandonBurst s, rfl, rfl]

@[simp] theorem side_endDwell (s : State) : side (endDwell s) = side s := rfl

@[simp] theorem side_endDwellOf (l : Link) (s : State) : side (endDwellOf l s) = side s := by
  unfold endDwellOf
  split <;> rfl

@[simp] theorem side_startDwell (l : Link) (n : Neighbour) (s : State) : side (startDwell l n s) = side s := by
  unfold startDwell
  dsimp only
  split
  · rfl
  · rw [side_retune]
    rfl

@[simp] theorem side_adjustDwell (s : State) : side (adjustDwell s) = side s := by
  unfold adjustDwell
  repeat' split
  exacts [rfl, rfl, side_startDwell _ _ s, rfl, side_startDwell _ _ s, rfl]

@[simp] theorem side_advanceDwell (s : State) : side (advanceDwell s) = side s := by
  unfold advanceDwell
  repeat' split
  exacts [rfl, rfl, side_startDwell _ _ s, rfl, rfl]

@[simp] theorem side_answerLinkEnable (l : Link) (s : State) : side (answerLinkEnable l s) = side s := by
  unfold answerLinkEnable
  repeat' split
  all_goals rfl

@[simp] theorem side_answerForced (r : ResultCode) (s : State) : side (answerForced r s) = side s := by
  unfold answerForced
  dsimp only
  repeat' split
  · rw [side_offerProvisionReply]
    rfl
  · rw [side_offerProvisionReply]
    rfl
  all_goals rfl

@[simp] theorem side_setLock (k : LockState) (s : State) : side (setLock k s) = side s := by
  unfold setLock
  dsimp only
  split
  · rfl
  · exact side_requestStatus _

@[simp] theorem side_startScan (l : Link) (s : State) : side (startScan l s) = side s := by
  unfold startScan
  split
  · rw [side_retune, side_mapLink]
  · rfl

@[simp] theorem side_dropTiming (s : State) : side (dropTiming s) = side s := by
  unfold dropTiming
  split
  · rfl
  · rw [side_setLock]
    rfl

theorem side_enterSearch (s : State) : side (enterSearch s) = side { s with ab.restart := true } := by
  rw [enterSearch]
  simp only [side_startScan, side_answerForced, side_endDwell, side_settleQueue]
  have h := side_eq_iff.mp (side_dropTiming s)
  obtain ⟨h1, h2, h3, h4, h5, h6, h7⟩ := h
  simp only [side, h1, h2, h3, h4, h5, h6, h7]

end Sys2Proof.Machine
end

section
/-! SUPPORT. A link tuned anew, the end of a burst on it, and the dwell. -/

-- One proof is checked after another: each worker thread of Lean reserves memory of its own.
set_option Elab.async false

namespace Sys2Proof.Machine

variable {s t : State} {l : Link} {ch : BitVec 4} {k : LinkState}

/-! ### The Crossover Unit beside a link -/

@[simp] theorem putLink_dwell (l : Link) (k : LinkState) (s : State) : (putLink l k s).xu.dwell = s.xu.dwell := by
  cases l <;> rfl
@[simp] theorem putLink_watch (l : Link) (k : LinkState) (s : State) : (putLink l k s).xu.watch = s.xu.watch := by
  cases l <;> rfl
@[simp] theorem putLink_dwellBeacon (l : Link) (k : LinkState) (s : State) :
    (putLink l k s).xu.dwellBeacon = s.xu.dwellBeacon := by cases l <;> rfl
@[simp] theorem putLink_neighbours (l : Link) (k : LinkState) (s : State) :
    (putLink l k s).xu.neighbours = s.xu.neighbours := by cases l <;> rfl
@[simp] theorem putLink_margin (l : Link) (k : LinkState) (s : State) : (putLink l k s).xu.margin = s.xu.margin := by
  cases l <;> rfl
@[simp] theorem putLink_crossovers (l : Link) (k : LinkState) (s : State) :
    (putLink l k s).xu.crossovers = s.xu.crossovers := by cases l <;> rfl
@[simp] theorem putLink_forcedCommand (l : Link) (k : LinkState) (s : State) :
    (putLink l k s).xu.forcedCommand = s.xu.forcedCommand := by cases l <;> rfl
@[simp] theorem putLink_forcedProvision (l : Link) (k : LinkState) (s : State) :
    (putLink l k s).xu.forcedProvision = s.xu.forcedProvision := by cases l <;> rfl

@[simp] theorem otherLink_otherLink (l : Link) : otherLink (otherLink l) = l := by cases l <;> rfl

theorem eq_or_eq_otherLink (l m : Link) : m = l ∨ m = otherLink l := by cases l <;> cases m <;> simp [otherLink]

/-- The links of a state are those of its Crossover Unit. -/
theorem linkOf_congr (h : t.xu = s.xu) (l : Link) : linkOf t l = linkOf s l := by
  cases l <;> simp only [linkOf, h]

theorem putLink_self (l : Link) (s : State) : putLink l (linkOf s l) s = s := by
  cases l <;> rfl

theorem mapLink_eq (l : Link) (f : LinkState → LinkState) (s : State) : mapLink l f s = putLink l (f (linkOf s l)) s := rfl

/-! ### A link tuned anew (R121) -/

/-- `t` is `s` with the link `l` as `k`, and with the close that waited for a report of the link, if one did, waiting no
longer (R84, R129). -/
def Relinked (l : Link) (k : LinkState) (s t : State) : Prop :=
  ∃ w v, t = putLink l k { s with ft.window := w, xu.watch := v } ∧
    ((linkOf s l).role ≠ .primary ∨ s.ft.window = none → w = s.ft.window) ∧
    ((linkOf s l).role ≠ .standby ∨ s.xu.watch = none → v = s.xu.watch)

theorem Relinked.putLink (l : Link) (k : LinkState) (s : State) : Relinked l k s (putLink l k s) :=
  ⟨s.ft.window, s.xu.watch, rfl, fun _ => rfl, fun _ => rfl⟩

theorem Relinked.link (h : Relinked l k s t) : linkOf t l = k := by
  obtain ⟨w, v, rfl, -⟩ := h
  exact linkOf_putLink_self l k _

theorem Relinked.other (h : Relinked l k s t) : linkOf t (otherLink l) = linkOf s (otherLink l) := by
  obtain ⟨w, v, rfl, -⟩ := h
  cases l <;> rfl

theorem Relinked.window (h : Relinked l k s t) (hw : (linkOf s l).role ≠ .primary ∨ s.ft.window = none) :
    t.ft.window = s.ft.window := by
  obtain ⟨w, v, rfl, hk, -⟩ := h
  rw [putLink_ft]
  exact hk hw

theorem Relinked.watch (h : Relinked l k s t) (hw : (linkOf s l).role ≠ .standby ∨ s.xu.watch = none) :
    t.xu.watch = s.xu.watch := by
  obtain ⟨w, v, rfl, -, hk⟩ := h
  rw [putLink_watch]
  exact hk hw

/-- What ends a wait, on a link put anew, leaves the rest of the state alone. -/
theorem relinked_release (hk : k.role = (linkOf s l).role) :
    Relinked l k s (releaseWatch l (releaseClose l (Machine.putLink l k s))) := by
  rw [release_eq, linkOf_putLink_self]
  refine ⟨if (linkOf s l).role = .primary then s.ft.window.map fun w => { w with wait := w.wait.release } else s.ft.window,
    if (linkOf s l).role = .standby then s.xu.watch.map fun w => { w with wait := w.wait.release } else s.xu.watch,
    ?_, fun h => ?_, fun h => ?_⟩
  · rw [hk]
    cases l <;> rfl
  · obtain h | h := h
    · rw [if_neg h]
    · simp [h]
  · obtain h | h := h
    · rw [if_neg h]
    · simp [h]

theorem sendTune_relinked (l : Link) (ch : BitVec 4) (s : State) :
    Relinked l ((linkOf s l).sentTune s.ft.tick ch) s (sendTune l ch s) :=
  relinked_release (s := s) rfl

theorem retune_tuning (h : (linkOf s l).condition = .tuning) (ch : BitVec 4) :
    retune l ch s = mapLink l (fun k => { k with nextChannel := some ch }) s := by
  simp only [retune, h]

theorem retune_ready (h : (linkOf s l).condition = .ready) (ch : BitVec 4) : retune l ch s =
    if burstOn s l then mapLink l (fun k => { k with nextChannel := some ch }) s else sendTune l ch s := by
  simp only [retune, h]

theorem usable_iff (k : LinkState) : k.usable = true ↔ k.condition = .ready ∨ k.condition = .tuning := by
  simp [LinkState.usable]

theorem usable_eq_false_iff (k : LinkState) : k.usable = false ↔ k.condition = .txFault ∨ k.condition = .portFault := by
  unfold LinkState.usable
  cases k.condition <;> simp

/-- How a retune leaves its link (R121): the TUNE is held, or sent. -/
theorem retune_relinked (h : (linkOf s l).usable = true) (ch : BitVec 4) :
    Relinked l ((linkOf s l).retuned s.ft.tick ch (burstOn s l)) s (retune l ch s) := by
  unfold LinkState.retuned
  obtain hc | hc := (usable_iff _).mp h
  · rw [retune_ready hc]
    cases burstOn s l with
    | true =>
      rw [if_pos (.inr rfl), if_pos rfl]
      exact .putLink l _ s
    | false =>
      rw [if_neg (by rw [hc]; simp), if_neg Bool.false_ne_true]
      exact sendTune_relinked l ch s
  · rw [retune_tuning hc, if_pos (.inl hc)]
    exact .putLink l _ s

theorem retune_faulted (h : (linkOf s l).usable = false) (ch : BitVec 4) : retune l ch s = s := by
  obtain hc | hc := (usable_eq_false_iff _).mp h <;> simp only [retune, hc]

/-! ### A held TUNE that is sent (log 12) -/

/-- The Command Unit after a held TUNE of `l` is sent. -/
def tuneSent (l : Link) (cu : CommandUnit) : CommandUnit :=
  match cu.state with
  | .waiting code tag (.linkTune k true) =>
    if k = l then { cu with state := .waiting code tag (.linkTune k false) } else cu
  | .waiting _ _ (.linkTune _ false) | .waiting _ _ .crossover | .waiting _ _ (.ringIdle _ _) | .idle | .executing _ _ => cu

theorem noteTuneSent_eq (l : Link) (s : State) : noteTuneSent l s = { s with cu := tuneSent l s.cu } := by
  unfold noteTuneSent tuneSent
  split <;> simp only [*]
  split <;> rfl

theorem tuneSent_waiting {cu : CommandUnit} {a : Byte} {b : BitVec 4} (h : cu.state = .waiting a b (.linkTune l true)) :
    (tuneSent l cu).state = .waiting a b (.linkTune l false) := by
  simp [tuneSent, h]

theorem tuneSent_of_not {cu : CommandUnit} (h : ∀ a b, cu.state ≠ .waiting a b (.linkTune l true)) : tuneSent l cu = cu := by
  unfold tuneSent
  split
  · split
    · exact absurd (by subst_vars; assumption) (h _ _)
    · rfl
  all_goals rfl

theorem sendNext_of_some (h : (linkOf s l).nextChannel = some ch) :
    sendNext l s = { sendTune l ch s with cu := tuneSent l (sendTune l ch s).cu } := by
  rw [sendNext, h]
  exact noteTuneSent_eq l _

/-! ### The end of a burst (R110 to R112, R121) -/

/-- A burst's end that sends no held next channel (log 50). -/
theorem endBurst_still (h : (linkOf s l).condition ≠ .ready ∨ (linkOf s l).nextChannel = none) :
    endBurst l s = { s with ssu.burst := none } := by
  have hk : linkOf { s with ssu.burst := none } l = linkOf s l := linkOf_congr rfl l
  rw [endBurst]
  simp only [hk]
  obtain h | h := h
  · rw [if_neg h]
  · rw [sendNext, hk, h]
    split <;> rfl

/-- A burst's end that sends the held next channel. -/
theorem endBurst_tunes (hc : (linkOf s l).condition = .ready) (hn : (linkOf s l).nextChannel = some ch) :
    ∃ t, Relinked l ((linkOf s l).sentTune s.ft.tick ch) { s with ssu.burst := none } t ∧
      endBurst l s = { t with cu := tuneSent l s.cu } := by
  have hk : linkOf { s with ssu.burst := none } l = linkOf s l := linkOf_congr rfl l
  have hr := sendTune_relinked l ch { s with ssu.burst := none }
  rw [hk] at hr
  refine ⟨_, hr, ?_⟩
  rw [endBurst]
  simp only [hk]
  rw [if_pos hc, sendNext_of_some (by rw [hk]; exact hn)]
  obtain ⟨w, v, ht, -⟩ := hr
  rw [ht, putLink_cu]

end Sys2Proof.Machine
end

section
/-! SUPPORT. The burst abandoned, completed and expired, and a link's fault. -/

-- One proof is checked after another: each worker thread of Lean reserves memory of its own.
set_option Elab.async false

namespace Sys2Proof.Machine

variable {s t : State} {l : Link} {ch : BitVec 4} {k : LinkState} {b : Burst}

/-! ### The burst abandoned (R67, R110, R112) -/

/-- The Uplink Queue after the abandonment of the burst. -/
def abandonedQueue (q : UplinkQueue) : UplinkQueue :=
  { q with
    records := (settleRecords abandonFate [] q.records).records
    superseded := min (q.superseded + (settleRecords abandonFate [] q.records).superseded) 65535
    undelivered := min q.undelivered 65535 }

theorem abandonBurst_none (h : s.ssu.burst = none) : abandonBurst s = s := by
  rw [abandonBurst, h]

theorem abandonBurst_eq (h : s.ssu.burst = some b) :
    abandonBurst s = endBurst b.link { s with ssu.burst := none, uq := abandonedQueue s.uq } := by
  rw [abandonBurst, h]
  simp only
  rw [settleQueue_eq abandonFate_ne]
  rfl

/-- What the end of a burst keeps of its link. -/
structure SameFigures (k k' : LinkState) : Prop where
  enabled : k'.enabled = k.enabled
  role : k'.role = k.role
  a8 : k'.a8 = k.a8
  txFaults : k'.txFaults = k.txFaults
  scanExpiry : k'.scanExpiry = k.scanExpiry

theorem SameFigures.refl (k : LinkState) : SameFigures k k := ⟨rfl, rfl, rfl, rfl, rfl⟩

/-- `t` is `s` after the end of the burst on link `l`: the link as `k`, a held next channel having been sent where the
link was READY, and every other block as it was. -/
structure BurstOver (l : Link) (k : LinkState) (s t : State) : Prop where
  figures : SameFigures (linkOf s l) k
  still : (linkOf s l).condition ≠ .ready → k = linkOf s l
  eq : ∃ w v cu, t = putLink l k { s with ssu.burst := none, ft.window := w, xu.watch := v, cu := cu } ∧
    (s.ft.window = none → w = none) ∧ (s.xu.watch = none → v = none) ∧
    (cu = s.cu ∨ (linkOf s l).condition = .ready ∧ cu = tuneSent l s.cu)

theorem endBurst_over (l : Link) (s : State) : ∃ k, BurstOver l k s (endBurst l s) := by
  by_cases h : (linkOf s l).condition ≠ .ready ∨ (linkOf s l).nextChannel = none
  · rw [endBurst_still h]
    exact ⟨linkOf s l, .refl _, fun _ => rfl, s.ft.window, s.xu.watch, s.cu, (putLink_self l _).symm, id, id, .inl rfl⟩
  · obtain ⟨hc, hn⟩ := not_or.mp h
    have hc := not_not.mp hc
    obtain ⟨ch, hn⟩ := Option.ne_none_iff_exists'.mp hn
    obtain ⟨t, ⟨w, v, ht, hw, hv⟩, he⟩ := endBurst_tunes hc hn
    refine ⟨(linkOf s l).sentTune s.ft.tick ch, ⟨rfl, rfl, rfl, rfl, rfl⟩, fun h => absurd hc h, w, v, tuneSent l s.cu, ?_, fun h => (hw (.inr h)).trans h,
      fun h => (hv (.inr h)).trans h, .inr ⟨hc, rfl⟩⟩
    rw [he, ht]
    cases l <;> rfl

/-- `t` is `s` with its burst settled: kept, or abandoned (Table 6-4). -/
def BurstSettled (s t : State) : Prop := t = s ∨ ∃ b k, s.ssu.burst = some b ∧
  BurstOver b.link k { s with uq := abandonedQueue s.uq } t

theorem abandonBurst_settled (s : State) : BurstSettled s (abandonBurst s) := by
  cases hb : s.ssu.burst with
  | none => exact .inl (abandonBurst_none hb)
  | some b =>
    obtain ⟨k, hk⟩ := endBurst_over b.link { s with ssu.burst := none, uq := abandonedQueue s.uq }
    rw [← abandonBurst_eq hb] at hk
    exact .inr ⟨b, k, hb, hk.figures, hk.still, hk.eq⟩

theorem settleBurst_none (h : s.ssu.burst = none) : settleBurst s = s := by
  rw [settleBurst, h]

theorem settleBurst_kept (h : s.ssu.burst = some b) (hr : (linkOf s b.link).role = .primary)
    (hp : b.phase = .prepared → (linkOf s b.link).condition = .ready) : settleBurst s = s := by
  rw [settleBurst, h]
  exact if_neg (not_or.mpr ⟨not_not.mpr hr, fun ⟨h1, h2⟩ => h2 (hp h1)⟩)

theorem settleBurst_abandons (h : s.ssu.burst = some b) (hr : (linkOf s b.link).role ≠ .primary ∨
    b.phase = .prepared ∧ (linkOf s b.link).condition ≠ .ready) : settleBurst s = abandonBurst s := by
  rw [settleBurst, h]
  exact if_pos hr

theorem settleBurst_settled (s : State) : BurstSettled s (settleBurst s) := by
  unfold settleBurst
  dsimp only
  repeat' split
  exacts [abandonBurst_settled s, .inl rfl, .inl rfl]

/-! What an end of the burst leaves alone. -/

theorem BurstOver.link (h : BurstOver l k s t) : linkOf t l = k := by
  obtain ⟨w, v, cu, rfl, -⟩ := h.eq
  exact linkOf_putLink_self l k _

theorem BurstOver.other (h : BurstOver l k s t) : linkOf t (otherLink l) = linkOf s (otherLink l) := by
  obtain ⟨w, v, cu, rfl, -⟩ := h.eq
  cases l <;> rfl

theorem BurstOver.waiting {m : Link} {a : Byte} {tag : BitVec 4} {held : Bool} (h : BurstOver l k s t)
    (hm : (linkOf s m).condition ≠ .ready) (hw : s.cu.state = .waiting a tag (.linkTune m held)) : t.cu = s.cu := by
  obtain ⟨w, v, cu, rfl, -, -, hcu⟩ := h.eq
  rw [putLink_cu]
  obtain rfl | ⟨hc, rfl⟩ := hcu
  · rfl
  · refine tuneSent_of_not fun a' b' h' => ?_
    rw [hw] at h'
    cases h'
    exact hm hc

/-- A settled burst leaves a link that is not READY as it is. -/
theorem BurstSettled.link_kept {m : Link} (h : BurstSettled s t) (hm : (linkOf s m).condition ≠ .ready) :
    linkOf t m = linkOf s m := by
  obtain rfl | ⟨b, k, -, h⟩ := h
  · rfl
  · obtain rfl | rfl := eq_or_eq_otherLink b.link m
    · exact h.link.trans (h.still hm)
    · exact h.other

theorem BurstSettled.figures (h : BurstSettled s t) (m : Link) : SameFigures (linkOf s m) (linkOf t m) := by
  obtain rfl | ⟨b, k, -, h⟩ := h
  · exact .refl _
  · obtain rfl | rfl := eq_or_eq_otherLink b.link m
    · rw [h.link]
      exact h.figures
    · rw [h.other]
      exact .refl _

theorem BurstSettled.waiting {m : Link} {a : Byte} {tag : BitVec 4} {held : Bool} (h : BurstSettled s t)
    (hm : (linkOf s m).condition ≠ .ready) (hw : s.cu.state = .waiting a tag (.linkTune m held)) : t.cu = s.cu := by
  obtain rfl | ⟨b, k, -, h⟩ := h
  · rfl
  · exact h.waiting hm hw

/-- A settled burst leaves every block alone but the queue, the burst and its link, the wait of a close and the Command Unit's
note of a TUNE. -/
theorem BurstSettled.kept (h : BurstSettled s t) : t.mae = s.mae ∧ t.au = s.au ∧ t.xu.dwell = s.xu.dwell ∧
    t.xu.neighbours = s.xu.neighbours ∧ t.xu.dwellBeacon = s.xu.dwellBeacon ∧ t.xu.crossovers = s.xu.crossovers ∧
    t.xu.margin = s.xu.margin ∧ t.xu.forcedCommand = s.xu.forcedCommand ∧ t.xu.forcedProvision = s.xu.forcedProvision ∧
    t.ssu.grants = s.ssu.grants ∧ t.ssu.contention = s.ssu.contention ∧ t.uq.joinSeq = s.uq.joinSeq := by
  obtain rfl | ⟨b, k, -, h⟩ := h
  · simp
  · obtain ⟨w, v, cu, rfl, -⟩ := h.eq
    simp [abandonedQueue]

/-- A settled burst leaves the timing alone but for the wait of a close. -/
theorem BurstSettled.timing (h : BurstSettled s t) : ∃ w, t.ft = { s.ft with window := w } ∧ (s.ft.window = none → w = none) := by
  obtain rfl | ⟨b, k, -, h⟩ := h
  · exact ⟨t.ft.window, rfl, id⟩
  · obtain ⟨w, v, cu, rfl, hw, -⟩ := h.eq
    exact ⟨w, by rw [putLink_ft], hw⟩

/-! ### A link's fault (R122) -/

theorem causes_raiseCause (c : FaultCause) (s : State) : (raiseCause c s).au.causes = s.au.causes ||| causeBit c := by
  rw [raiseCause_eq]
  rfl

theorem requests_raiseCause (c : FaultCause) (s : State) :
    (raiseCause c s).au.requests = s.au.requests ||| requestBit .fault := by
  rw [raiseCause_eq]
  rfl

theorem or_and_self_right {w : Nat} (x y : BitVec w) : (x ||| y) &&& y = y := by
  ext i hi
  simp only [BitVec.getElem_and, BitVec.getElem_or]
  cases x[i] <;> cases y[i] <;> rfl

theorem or_and_causeBit_ne (x : BitVec 8) (c : FaultCause) : (x ||| causeBit c) &&& causeBit c ≠ 0#8 := by
  rw [or_and_self_right]
  cases c <;> decide

theorem or_and_requestBit_ne (x : BitVec 6) (c : RequestClass) : (x ||| requestBit c) &&& requestBit c ≠ 0#6 := by
  rw [or_and_self_right]
  cases c <;> decide

theorem answerLinkEnable_eq (l : Link) (s : State) : answerLinkEnable l s = s ∨
    answerLinkEnable l s = replyCommand .done [word (conditionCode (linkOf s l).condition)] s := by
  unfold answerLinkEnable
  repeat' split
  exacts [.inr rfl, .inl rfl, .inl rfl, .inl rfl, .inl rfl, .inl rfl]

theorem answerLinkEnable_waiting {a : Byte} {tag : BitVec 4} {held : Bool} (h : s.cu.state = .waiting a tag (.linkTune l held)) :
    answerLinkEnable l s = replyCommand .done [word (conditionCode (linkOf s l).condition)] s := by
  simp [answerLinkEnable, h]

theorem endDwellOf_eq (l : Link) (s : State) : endDwellOf l s = if (linkOf s l).role = .standby then
    { s with xu.dwell := none, xu.watch := none, xu.dwellBeacon := none } else s := rfl

/-- A link that has just entered PORT-FAULT. -/
def LinkState.portFaulted (k : LinkState) : LinkState :=
  { k with condition := .portFault, held := none, nextChannel := none, tuneExpiry := none, scanExpiry := none }

/-- The state in which a burst on a link that enters PORT-FAULT is settled: the link is in fault, its dwell has ended, and
LINK_FAULT is raised. -/
def faulted (l : Link) (s : State) : State :=
  raiseCause .linkFault (endDwellOf l (releaseClose l (putLink l (linkOf s l).portFaulted s)))

theorem enterPortFault_eq (h : (linkOf s l).condition ≠ .portFault) :
    enterPortFault l s = answerLinkEnable l (settleBurst (faulted l s)) := by
  rw [enterPortFault, if_neg h]
  rfl

/-- The timing and the dwell as the fault of a link changes them. -/
def faultSettled (l : Link) (s : State) : State :=
  let standby := (linkOf s l).role = .standby
  { s with
    ft.window := if (linkOf s l).role = .primary then s.ft.window.map fun w => { w with wait := w.wait.release } else s.ft.window
    xu.dwell := if standby then none else s.xu.dwell
    xu.watch := if standby then none else s.xu.watch
    xu.dwellBeacon := if standby then none else s.xu.dwellBeacon }

theorem faulted_eq (l : Link) (s : State) :
    faulted l s = withCause .linkFault (putLink l (linkOf s l).portFaulted (faultSettled l s)) := by
  have hr : (linkOf (releaseClose l (putLink l (linkOf s l).portFaulted s)) l).role = (linkOf s l).role := by
    unfold releaseClose
    cases l <;> split <;> rfl
  have hk : (linkOf s l).portFaulted.role = (linkOf s l).role := rfl
  rw [faulted, raiseCause_eq]
  congr 1
  rw [endDwellOf_eq, hr, releaseClose, linkOf_putLink_self, hk, faultSettled]
  by_cases hs : (linkOf s l).role = .standby
  · rw [if_pos hs, if_neg (by rw [hs]; decide), if_neg (by rw [hs]; decide), if_pos hs, if_pos hs, if_pos hs]
    cases l <;> rfl
  · rw [if_neg hs, if_neg hs, if_neg hs, if_neg hs]
    split <;> cases l <;> rfl

theorem linkOf_faulted (l : Link) (s : State) : linkOf (faulted l s) l = (linkOf s l).portFaulted := by
  rw [faulted_eq]
  exact linkOf_putLink_self l _ _

/-- A link's PORT-FAULT in its whole (R122): the state the port enters, with its burst settled and the waiting SET LINK
ENABLE answered. -/
theorem enterPortFault_spec (h : (linkOf s l).condition ≠ .portFault) : ∃ u, BurstSettled (faulted l s) u ∧
    settleBurst (faulted l s) = u ∧ enterPortFault l s = answerLinkEnable l u ∧ linkOf u l = (linkOf s l).portFaulted := by
  have hs := settleBurst_settled (faulted l s)
  refine ⟨_, hs, rfl, enterPortFault_eq h, (hs.link_kept ?_).trans (linkOf_faulted l s)⟩
  rw [linkOf_faulted]
  exact Condition.noConfusion

/-! ### PORT-FAULT -/

theorem exec_fault {dt : Tick} {message : List Byte} {before : State} (hw : wellFormed (.fault dt l message) = true)
    (h : PortReady l (elapse dt before)) : exec (.fault dt l message) before = .next (enterPortFault l (elapse dt before)) := by
  have hlive := portLive_of_ready h
  have ht : takeFault l (elapse dt before) = enterPortFault l (elapse dt before) := if_pos hlive
  have hq : isQuietMessage message = false := by simpa [wellFormed] using hw
  have hp : parseReport message = .fault ∨ parseReport message = .malformed := by
    cases message with
    | nil => cases hq
    | cons t rest =>
      unfold isQuietMessage at hq
      unfold parseReport
      dsimp only at hq ⊢
      by_cases h1 : t = 0x81#8
      · rw [if_pos (.inl h1)] at hq
        rw [if_pos h1, hq]
        exact .inr rfl
      by_cases h2 : t = 0x82#8
      · rw [if_pos (.inr h2)] at hq
        rw [if_neg h1, if_pos h2, hq]
        exact .inr rfl
      rw [if_neg (not_or.mpr ⟨h1, h2⟩)] at hq
      rw [if_neg h1, if_neg h2]
      by_cases h4 : t = 0x84#8
      · rw [if_pos h4]
        split
        exacts [.inl rfl, .inr rfl]
      rw [if_neg h4]
      by_cases h3 : t = 0x83#8
      · rw [if_pos h3] at hq ⊢
        split
        · rw [if_neg (by simpa using hq)]
          exact .inr rfl
        · exact .inr rfl
      · rw [if_neg h3]
        exact .inr rfl
  show Host.Outcome.next (takePortMessage l message (elapse dt before)) = _
  rw [← ht, takePortMessage]
  obtain hp | hp := hp <;> rw [hp]

theorem answerLinkEnable_kept (l : Link) (s : State) : ∃ mae cu, answerLinkEnable l s = { s with mae := mae, cu := cu } := by
  obtain h | h := answerLinkEnable_eq l s
  · exact ⟨s.mae, s.cu, h⟩
  · exact ⟨_, _, h⟩

/-- The row TUNE_EXPIRY of a TUNING link whose expiry is due (R121). -/
theorem exec_tuneExpiry {before : State} {due : Tick} (h : PortReady l (reachEvent (.tuneExpiry l) before))
    (hd : (linkOf (reachEvent (.tuneExpiry l) before) l).tuneExpiry = some due)
    (hc : (linkOf (reachEvent (.tuneExpiry l) before) l).condition = .tuning)
    (hp : tickDiff due (reachEvent (.tuneExpiry l) before).ft.tick ≤ 0) :
    exec (.tuneExpiry l) before = .next (enterPortFault l (reachEvent (.tuneExpiry l) before)) := by
  have hdue : tuneDue l (reachEvent (.tuneExpiry l) before) = some due := by
    rw [tuneDue, if_pos ⟨hc, portLive_of_ready h⟩, hd]
  show Host.Outcome.next (takeEvent (.tuneExpiry l) before) = _
  rw [takeEvent_due (e := .tuneExpiry l) hdue hp, occur, expireTune, hdue]
  rfl

/-- Settles O57. -/
theorem portFaults : Obligations.PortFaults := by
  refine ⟨fun c l before s hready => ?_, fun l before h => ?_⟩
  · intro k hc
    have hexec : exec c before = .next (enterPortFault l s) := by
      obtain ⟨dt, message, rfl, hw, rfl⟩ | ⟨due, rfl, rfl, hdue, hcond, hpast⟩ := hc
      · exact exec_fault hw hready
      · exact exec_tuneExpiry hready hdue hcond hpast
    refine ⟨fun hf => by rw [hexec, enterPortFault, if_pos hf], fun hf => ?_⟩
    obtain ⟨u, hu, hsettle, henter, hlink⟩ := enterPortFault_spec hf
    obtain ⟨mae, cu, hanswer⟩ := answerLinkEnable_kept l u
    obtain ⟨hmae, hau, hdwell, -⟩ := hu.kept
    obtain ⟨w, hft, -⟩ := hu.timing
    have hside : side u = side s := by
      rw [← hsettle, side_settleBurst, faulted, side_raiseCause, side_endDwellOf, side_releaseClose, side_putLink]
    obtain ⟨hram, hwt, -, -, hab, htick, -⟩ := side_eq_iff.mp hside
    rw [faulted_eq] at hau hdwell hft
    refine ⟨_, hexec, ?_⟩
    rw [henter]
    refine ⟨?_, ?_, ?_, ?_, ?_, ?_, ?_, ?_, ?_, ?_, ?_⟩
    · rw [hanswer]
      exact (linkOf_congr rfl l).trans hlink
    · rw [hanswer]
      show u.au.causes &&& _ ≠ _
      rw [hau]
      exact or_and_causeBit_ne _ .linkFault
    · rw [hanswer]
      show u.au.requests &&& _ ≠ _
      rw [hau]
      exact or_and_requestBit_ne _ .fault
    · rw [hanswer]
      exact htick
    · rw [hanswer]
      show u.ft.lock = _
      rw [hft]
      exact (congrArg FrameTimer.lock (putLink_ft l (linkOf s l).portFaulted (faultSettled l s))).trans rfl
    · rw [hanswer]
      exact hram
    · rw [hanswer]
      exact hwt
    · rw [hanswer]
      exact hab
    · intro hs
      rw [hanswer]
      exact hdwell.trans ((putLink_dwell l _ _).trans (if_pos hs))
    · intro b hb hbl hbp
      have hb' : (faulted l s).ssu.burst = some b := by
        rw [faulted_eq]
        exact (congrArg SlotService.burst (putLink_ssu l _ _)).trans hb
      have hquiet : (linkOf (faulted l s) b.link).condition ≠ .ready := by
        rw [hbl, linkOf_faulted]
        exact Condition.noConfusion
      have huq : (faulted l s).uq = s.uq := by
        rw [faulted_eq]
        exact putLink_uq l _ _
      have hu' : u = { faulted l s with ssu.burst := none, uq := abandonedQueue s.uq } := by
        rw [← hsettle, settleBurst_abandons hb' (.inr ⟨hbp, hquiet⟩), abandonBurst_eq hb', huq]
        exact endBurst_still (.inl hquiet)
      rw [hanswer, hu']
      exact ⟨rfl, fun ha => congrArg Settled.records (settleRecords_abandon ha)⟩
    · intro a tag held hw
      have hcu : u.cu = s.cu := by
        rw [← hsettle, (settleBurst_settled (faulted l s)).waiting (m := l) (by rw [linkOf_faulted]; exact Condition.noConfusion)
          (by rw [faulted_eq]; exact (congrArg CommandUnit.state (putLink_cu l _ _)).trans hw), faulted_eq]
        exact putLink_cu l _ _
      have hpub : u.mae.publication = s.mae.publication := by
        rw [hmae, faulted_eq]
        exact (congrArg Engine.publication (putLink_mae l (linkOf s l).portFaulted (faultSettled l s))).trans rfl
      have hw' : u.cu.state = .waiting a tag (.linkTune l held) := by rw [hcu, hw]
      rw [answerLinkEnable_waiting hw', hlink, replyCommand, commandInProgress, hw']
      exact ⟨rfl, by rw [← hpub]; rfl⟩
  · show Host.Outcome.next (takeEvent (.tuneExpiry l) before) = _
    rw [takeEvent_absent]
    show tuneDue l before = none
    rw [tuneDue, h]
    exact ite_self _

end Sys2Proof.Machine
end

section
/-! SUPPORT. KEY_ASSERTION, SENT and KEY_GUARD_EXPIRY. -/

-- One proof is checked after another: each worker thread of Lean reserves memory of its own.
set_option Elab.async false

namespace Sys2Proof.Machine

variable {s t : State} {l : Link} {k : LinkState} {b : Burst} {before : State} {dt : Tick}

/-! ### The key (R110, R114) -/

theorem exec_keyAssertion (hb : (reachEvent .key before).ssu.burst = some b) (hp : b.phase = .prepared)
    (hd : tickDiff b.keyTick (reachEvent .key before).ft.tick ≤ 0) :
    exec .keyAssertion before = .next (keyBurst (reachEvent .key before)) := by
  have hdue : keyDue (reachEvent .key before) = some b.keyTick := by
    rw [keyDue, hb]
    exact if_pos hp
  show Host.Outcome.next (takeEvent .key before) = _
  rw [takeEvent_due (e := .key) hdue hd, occur]

theorem keyBurst_eq (hb : s.ssu.burst = some b) (hp : b.phase = .prepared) : keyBurst s =
    if (linkOf s b.link).role = .primary ∧ (linkOf s b.link).condition = .ready then
      { s with ssu.burst := some { b with phase := .keyed }, ab := chargeCredit b.length s.ab }
    else abandonBurst s := by
  rw [keyBurst, hb]
  exact if_pos hp

/-- The charge at a key: Q stops at -4K, the rest counted as overrun; nothing is charged without an allowance (R114). -/
theorem chargeCredit_eq (n : Nat) (ab : Airtime) : chargeCredit n ab = { ab with
    spent := min (ab.spent + n) 65535
    credit := if ab.allowance = 0 then ab.credit else max (-4 * (ab.allowance : Int)) (ab.credit - n)
    overrun := if ab.allowance ≠ 0 ∧ ab.credit - n < -4 * (ab.allowance : Int)
      then min (ab.overrun + (-4 * (ab.allowance : Int) - (ab.credit - n)).toNat) 65535 else ab.overrun } := by
  rw [chargeCredit]
  by_cases h0 : ab.allowance = 0
  · rw [if_pos h0, if_pos h0, if_neg (fun h => h.1 h0)]
    rfl
  rw [if_neg h0, if_neg h0]
  by_cases hf : ab.credit - n < -4 * (ab.allowance : Int)
  · rw [if_pos hf, if_pos ⟨h0, hf⟩, max_eq_left hf.le]
    rfl
  · rw [if_neg hf, if_neg (fun h => hf h.2), max_eq_right (not_lt.mp hf)]
    rfl

/-! ### The end of a KEYED burst -/

/-- The queue after the completion of a burst (R66). -/
def completedQueue (n : BitVec 6) (q : UplinkQueue) : UplinkQueue :=
  { q with
    superseded := min q.superseded 65535, undelivered := min q.undelivered 65535
    records := q.records.filterMap fun r =>
      if r.state ≠ .onAir then some r
      else if r.detached = true ∨ r.ackedOnAir = true ∨ r.kind = .join ∨ r.cls ≠ .urgent then none
      else some { r with state := .awaitAck (n + 2#6) } }

theorem completionFate_eq (n : BitVec 6) (others : List Record) (r : Record) : completionFate n others r =
    if r.state ≠ .onAir then .keep r
    else if r.detached = true ∨ r.ackedOnAir = true ∨ r.kind = .join ∨ r.cls ≠ .urgent then .drop
    else .keep { r with state := .awaitAck (n + 2#6) } := by
  unfold completionFate
  simp only [Bool.not_eq_true', ← Bool.not_eq_true, isOnAir_iff, Bool.or_eq_true, decide_eq_true_iff, or_assoc]

theorem settleQueue_completion (n : BitVec 6) (s : State) :
    settleQueue (completionFate n) s = { s with uq := completedQueue n s.uq } := by
  have key := settleRecords_eq (fate := completionFate n) (completionFate n []) s.uq.records [] fun _ _ _ _ => by
    rw [completionFate_eq, completionFate_eq]
  have hdrop : (s.uq.records.filter fun r => decide (completionFate n [] r = .superseded)) = [] :=
    List.filter_eq_nil_iff.mpr fun r _ => by
      rw [decide_eq_true_iff, completionFate_eq]
      repeat' split
      all_goals simp
  rw [settleQueue_eq (completionFate_ne n)]
  rw [List.filterMap_nil, List.nil_append, hdrop] at key
  have hrecords : (s.uq.records.filterMap fun r => (completionFate n [] r).left) = (completedQueue n s.uq).records :=
    List.filterMap_congr fun r _ => by
      rw [completionFate_eq]
      repeat' split
      all_goals rfl
  rw [key, hrecords]
  rfl

theorem completeBurst_eq (hb : s.ssu.burst = some b) (hp : b.phase = .keyed) : completeBurst b.link s =
    endBurst b.link (putLink b.link { linkOf s b.link with txFaults := 0 }
      { s with ssu.burst := none, uq := completedQueue s.ft.frame s.uq }) := by
  rw [completeBurst, hb]
  simp only
  rw [if_pos ⟨hp, trivial⟩, settleQueue_completion]
  cases b.link <;> rfl

theorem completeBurst_other (h : ∀ b, s.ssu.burst = some b → b.phase = .keyed → b.link ≠ l) : completeBurst l s = s := by
  unfold completeBurst
  split
  · rw [if_neg fun ⟨hp, hl⟩ => h _ ‹_› hp hl]
  · rfl

theorem exec_sent : exec (.sent dt l) before = .next
    (if portLive (elapse dt before) l then completeBurst l (elapse dt before) else elapse dt before) := rfl

/-- A burst's end on a link put anew, with a held next channel that is sent. -/
theorem endBurst_put {ch : BitVec 4} (hc : k.condition = .ready) (hn : k.nextChannel = some ch) :
    ∃ w v, endBurst l (putLink l k s) = putLink l (k.sentTune s.ft.tick ch)
      { s with ssu.burst := none, ft.window := w, xu.watch := v, cu := tuneSent l s.cu } := by
  obtain ⟨t, ⟨w, v, ht, -⟩, he⟩ := endBurst_tunes (s := putLink l k s) (l := l) (ch := ch) (by rw [linkOf_putLink_self]; exact hc)
    (by rw [linkOf_putLink_self]; exact hn)
  refine ⟨w, v, ?_⟩
  rw [he, ht, linkOf_putLink_self, putLink_ft, putLink_cu]
  cases l <;> rfl

/-- A transmit fault that is not the third on a READY link is only counted (R112). -/
theorem countTxFault_counts (h : (linkOf s l).condition ≠ .ready ∨ (linkOf s l).txFaults < 2) :
    countTxFault l s = putLink l { linkOf s l with txFaults := min 3 ((linkOf s l).txFaults + 1) } s := by
  rw [countTxFault]
  refine if_neg fun ⟨h3, hc⟩ => ?_
  have hc' : (linkOf s l).condition = .ready := by
    rw [linkOf_mapLink_self] at hc
    exact hc
  have := h.resolve_left (not_not.mpr hc')
  omega

/-- The third transmit fault in a row on a READY link is TX-FAULT (R112, R122). -/
theorem countTxFault_faults (hc : (linkOf s l).condition = .ready) (h : 2 ≤ (linkOf s l).txFaults) :
    countTxFault l s =
      raiseCause .linkFault (endDwellOf l (putLink l { linkOf s l with condition := .txFault, scanExpiry := none, txFaults := 3 } s)) := by
  have hn : min 3 ((linkOf s l).txFaults + 1) = 3 := by omega
  rw [countTxFault]
  simp only [hn, mapLink_eq, linkOf_putLink_self]
  rw [if_pos ⟨trivial, hc⟩, enterTxFault]
  congr 2
  rw [mapLink_eq, linkOf_putLink_self]
  cases l <;> rfl

theorem expireBurst_eq (hb : s.ssu.burst = some b) (hp : b.phase = .keyed) : expireBurst s =
    endBurst b.link (countTxFault b.link { s with ssu.burst := none, uq := abandonedQueue s.uq }) := by
  rw [expireBurst, hb]
  simp only
  rw [if_pos hp, settleQueue_eq abandonFate_ne]
  rfl

theorem exec_keyGuardExpiry (hb : (reachEvent .keyGuard before).ssu.burst = some b) (hp : b.phase = .keyed)
    (hd : tickDiff b.expiryTick (reachEvent .keyGuard before).ft.tick ≤ 0) :
    exec .keyGuardExpiry before = .next (expireBurst (reachEvent .keyGuard before)) := by
  have hdue : expiryDue (reachEvent .keyGuard before) = some b.expiryTick := by
    rw [expiryDue, hb]
    exact if_pos hp
  show Host.Outcome.next (takeEvent .keyGuard before) = _
  rw [takeEvent_due (e := .keyGuard) hdue hd, occur]

/-! ### What the end of a burst leaves -/

theorem BurstOver.side (h : BurstOver l k s t) : side t = side s := by
  obtain ⟨w, v, cu, rfl, -⟩ := h.eq
  exact side_putLink l k _

theorem BurstOver.burst (h : BurstOver l k s t) : t.ssu.burst = none := by
  obtain ⟨w, v, cu, rfl, -⟩ := h.eq
  exact congrArg SlotService.burst (putLink_ssu l k _)

theorem BurstOver.uq (h : BurstOver l k s t) : t.uq = s.uq := by
  obtain ⟨w, v, cu, rfl, -⟩ := h.eq
  exact putLink_uq l k _

theorem BurstOver.au (h : BurstOver l k s t) : t.au = s.au := by
  obtain ⟨w, v, cu, rfl, -⟩ := h.eq
  exact putLink_au l k _

/-- The abandonment of the burst in its whole. -/
theorem abandonBurst_over (hb : s.ssu.burst = some b) :
    ∃ k, BurstOver b.link k { s with uq := abandonedQueue s.uq } (abandonBurst s) := by
  obtain ⟨k, hk⟩ := endBurst_over b.link { s with ssu.burst := none, uq := abandonedQueue s.uq }
  rw [← abandonBurst_eq hb] at hk
  exact ⟨k, hk.figures, hk.still, hk.eq⟩

theorem linkOf_raiseCause (c : FaultCause) (s : State) (l : Link) : linkOf (raiseCause c s) l = linkOf s l := by
  rw [raiseCause_eq]
  exact linkOf_congr rfl l

theorem linkOf_endDwellOf (m : Link) (s : State) (l : Link) : linkOf (endDwellOf m s) l = linkOf s l := by
  rw [endDwellOf_eq]
  split <;> cases l <;> rfl

theorem side_countTxFault (l : Link) (s : State) : side (countTxFault l s) = side s := by
  unfold countTxFault enterTxFault
  dsimp only
  split
  · rw [side_raiseCause, side_endDwellOf, side_mapLink, side_mapLink]
  · exact side_mapLink _ _ _

/-- The next channel held on the link of an expired burst, of which `k` says how the link was (log 50): the transmit fault is
counted first. -/
theorem expireBurst_spec (hb : s.ssu.burst = some b) (hp : b.phase = .keyed) :
    let k := linkOf s b.link
    let t := expireBurst s
    side t = side s ∧ t.ssu.burst = none ∧ t.uq = abandonedQueue s.uq ∧
    (linkOf t b.link).txFaults = min 3 (k.txFaults + 1) ∧
    (k.condition = .ready → 2 ≤ k.txFaults → (linkOf t b.link).condition = .txFault ∧
      t.au.causes &&& causeBit .linkFault ≠ 0#8 ∧ t.au.requests &&& requestBit .fault ≠ 0#6) ∧
    (k.condition ≠ .ready → (linkOf t b.link).condition = k.condition) ∧
    (k.condition ≠ .ready ∨ 2 ≤ k.txFaults → (linkOf t b.link).nextChannel = k.nextChannel) ∧
    (k.condition = .ready → k.txFaults < 2 →
      (k.nextChannel = none → (linkOf t b.link).condition = .ready) ∧
      (∀ ch, k.nextChannel = some ch →
        linkOf t b.link = { k with txFaults := k.txFaults + 1 }.sentTune s.ft.tick ch)) := by
  intro k t
  have ht : t = endBurst b.link (countTxFault b.link { s with ssu.burst := none, uq := abandonedQueue s.uq }) :=
    expireBurst_eq hb hp
  have hk : linkOf { s with ssu.burst := none, uq := abandonedQueue s.uq } b.link = k := linkOf_congr rfl _
  have hside : side t = side s := (congrArg side ht).trans (by rw [side_endBurst, side_countTxFault]; rfl)
  clear_value t
  by_cases hf : k.condition = .ready ∧ 2 ≤ k.txFaults
  · obtain ⟨hc, h2⟩ := hf
    rw [countTxFault_faults (by rw [hk]; exact hc) (by rw [hk]; exact h2), hk, endBurst_still (.inl ?quiet)] at ht
    case quiet =>
      rw [linkOf_raiseCause, linkOf_endDwellOf, linkOf_putLink_self]
      exact Condition.noConfusion
    have hl : linkOf t b.link = { k with condition := .txFault, scanExpiry := none, txFaults := 3 } := by
      have hx : ∀ x : State, linkOf { x with ssu.burst := none } b.link = linkOf x b.link := fun x => linkOf_congr rfl _
      rw [ht, hx, linkOf_raiseCause, linkOf_endDwellOf, linkOf_putLink_self]
    have huq : t.uq = abandonedQueue s.uq := by
      rw [ht, raiseCause_eq, endDwellOf_eq]
      split <;> exact putLink_uq b.link _ _
    have hn : min 3 (k.txFaults + 1) = 3 := by omega
    rw [hl, hn]
    refine ⟨hside, by rw [ht], huq, rfl, fun _ _ => ⟨rfl, ?_, ?_⟩, fun h => absurd hc h, fun _ => rfl, fun _ h => absurd h2 (by omega)⟩
    · rw [ht]
      exact ne_of_eq_of_ne (congrArg (· &&& _) (causes_raiseCause _ _)) (or_and_causeBit_ne _ _)
    · rw [ht]
      exact ne_of_eq_of_ne (congrArg (· &&& _) (requests_raiseCause _ _)) (or_and_requestBit_ne _ _)
  · have hf' : k.condition ≠ .ready ∨ k.txFaults < 2 := (not_and_or.mp hf).imp id Nat.lt_of_not_le
    rw [countTxFault_counts (by rw [hk]; exact hf'), hk] at ht
    by_cases hs : k.condition ≠ .ready ∨ k.nextChannel = none
    · rw [endBurst_still (by rw [linkOf_putLink_self]; exact hs)] at ht
      have hl : linkOf t b.link = { k with txFaults := min 3 (k.txFaults + 1) } := by
        rw [ht]
        exact (linkOf_congr rfl _).trans (linkOf_putLink_self _ _ _)
      have huq : t.uq = abandonedQueue s.uq := by
        rw [ht]
        exact putLink_uq b.link _ _
      rw [hl]
      refine ⟨hside, by rw [ht], huq, rfl, fun h1 h2 => absurd ⟨h1, h2⟩ hf, fun _ => rfl, fun _ => rfl,
        fun hc _ => ⟨fun _ => hc, fun ch hch => ?_⟩⟩
      rw [hs.resolve_left (not_not.mpr hc)] at hch
      cases hch
    · obtain ⟨hc, hn⟩ := not_or.mp hs
      have hc := not_not.mp hc
      have h2 : k.txFaults < 2 := hf'.resolve_left (not_not.mpr hc)
      obtain ⟨ch, hn⟩ := Option.ne_none_iff_exists'.mp hn
      obtain ⟨w, v, hput⟩ := endBurst_put (l := b.link) (k := { k with txFaults := min 3 (k.txFaults + 1) })
        (s := { s with ssu.burst := none, uq := abandonedQueue s.uq }) hc hn
      rw [hput] at ht
      have hmin : min 3 (k.txFaults + 1) = k.txFaults + 1 := by omega
      have hl : linkOf t b.link = { k with txFaults := k.txFaults + 1 }.sentTune s.ft.tick ch := by
        rw [ht, linkOf_putLink_self, hmin]
      have huq : t.uq = abandonedQueue s.uq := by
        rw [ht]
        exact putLink_uq b.link _ _
      have hburst : t.ssu.burst = none := by
        rw [ht]
        exact congrArg SlotService.burst (putLink_ssu b.link _ _)
      refine ⟨hside, hburst, huq, by rw [hl, hmin]; rfl, fun _ h => absurd h (by omega), fun h => absurd hc h,
        fun h => absurd h (not_or.mpr ⟨not_not.mpr hc, by omega⟩), fun _ _ => ⟨fun h => ?_, fun ch' h => ?_⟩⟩
      · rw [hn] at h
        cases h
      · rw [hn] at h
        cases h
        exact hl

/-- Settles O53. -/
theorem burstKeyed : Obligations.BurstKeyed := by
  unfold Obligations.BurstKeyed
  intro tuned
  refine ⟨fun s l => ?_, fun b before => ?_, fun b before hb hp => ?_, fun dt b before => ?_, fun dt l before => ?_,
    fun b before => ?_⟩
  · rw [State.key]
    cases s.ssu.burst <;> simp
  · intro s hb hp hd k q floor
    have hexec := exec_keyAssertion hb hp hd
    rw [keyBurst_eq hb hp] at hexec
    refine ⟨fun hr hc => ?_, fun h => ?_⟩
    · rw [hexec, if_pos ⟨hr, hc⟩, chargeCredit_eq]
    · rw [if_neg (not_and_or.mpr h)] at hexec
      obtain ⟨k', hover⟩ := abandonBurst_over hb
      obtain ⟨hram, hwt, -, -, hab, htick, -⟩ := side_eq_iff.mp hover.side
      refine ⟨_, hexec, hover.burst, htick, hab, hwt, hram, ?_, fun r hr => ?_, fun ha => ?_⟩
      · rw [hover.link]
        exact hover.figures.txFaults
      · rw [hover.uq] at hr
        exact not_onAir_abandon hr
      · rw [hover.uq]
        exact congrArg Settled.records (settleRecords_abandon ha)
  · show Host.Outcome.next (takeEvent .key before) = _
    rw [takeEvent_absent]
    show keyDue before = none
    rw [keyDue, hb]
    exact if_neg (by rw [hp]; exact BurstPhase.noConfusion)
  · intro s k done hb hp hready
    have hexec : exec (.sent dt b.link) before = .next (completeBurst b.link s) :=
      exec_sent.trans (congrArg _ (if_pos (portLive_of_ready hready)))
    rw [completeBurst_eq hb hp] at hexec
    have hdone : completedQueue s.ft.frame s.uq = done := rfl
    rw [hdone] at hexec
    clear_value done
    have hburst : ∀ k' : LinkState, ({ putLink b.link k' { s with ssu.burst := none, uq := done } with ssu.burst := none } : State) =
        putLink b.link k' { s with ssu.burst := none, uq := done } := fun k' => by cases b.link <;> rfl
    refine ⟨fun h => ?_, fun ch hch hc => ?_⟩
    · rw [hexec, endBurst_still (by rw [linkOf_putLink_self]; exact h.symm), hburst]
    · obtain ⟨w, v, hput⟩ := endBurst_put (l := b.link) (k := { k with txFaults := 0 })
        (s := { s with ssu.burst := none, uq := done }) hc hch
      rw [hput] at hexec
      refine ⟨_, hexec, linkOf_putLink_self _ _ _, ?_, putLink_ssu _ _ _, putLink_uq _ _ _, ?_, putLink_ab _ _ _, putLink_wt _ _ _,
        putLink_ram _ _ _, putLink_mae _ _ _, putLink_au _ _ _⟩
      · cases b.link <;> rfl
      · rw [putLink_ft]
  · intro s h
    rw [exec_sent]
    split
    · rw [completeBurst_other h]
    · rfl
  · intro s k hb hp hd
    obtain ⟨hside, hburst, huq, hfaults, hthird, hquiet, hheld, hready⟩ := expireBurst_spec hb hp
    obtain ⟨hram, hwt, -, -, hab, htick, -⟩ := side_eq_iff.mp hside
    refine ⟨_, exec_keyGuardExpiry hb hp hd, hburst, htick, hfaults, hthird, hquiet, hheld, fun hc h2 => ?_, fun r hr => ?_,
      fun ha => ?_, hab, hwt, hram⟩
    · obtain ⟨h1, h2⟩ := hready hc h2
      exact ⟨h1, fun ch hch => h2 ch hch⟩
    · rw [huq] at hr
      exact not_onAir_abandon hr
    · rw [huq, abandonedQueue, settleRecords_abandon ha]
      exact ⟨rfl, min_comm _ _⟩

end Sys2Proof.Machine
end

section
/-! SUPPORT. BST_RISE, TUNED and SCAN_EXPIRY. -/

-- One proof is checked after another: each worker thread of Lean reserves memory of its own.
set_option Elab.async false

namespace Sys2Proof.Machine

variable {s t : State} {l : Link} {ch : BitVec 4} {k : LinkState} {before : State} {dt : Tick}

theorem enabled_of_role (h : RolesOk s) (hr : (linkOf s l).role ≠ .off) : (linkOf s l).enabled = true := by
  cases l
  · exact Bool.of_not_eq_false (mt h.offA.mpr hr)
  · exact Bool.of_not_eq_false (mt h.offB.mpr hr)

theorem mapLink_putLink (l : Link) (f : LinkState → LinkState) (k : LinkState) (s : State) :
    mapLink l f (putLink l k s) = putLink l (f k) s := by
  cases l <;> rfl

/-- A link that scans in the manual's sense: SEARCH, with an enabled, usable link (R124). -/
theorem scanning_eq (he : (linkOf s l).enabled = true) (hu : (linkOf s l).usable = true) :
    scanning s l = decide (s.ft.lock = .search) := by
  rw [scanning, he, hu, Bool.and_true, Bool.and_true]

theorem enableAwaits_iff : enableAwaits l s = true ↔ ∃ a b, s.cu.state = .waiting a b (.linkTune l false) := by
  unfold enableAwaits
  split
  · rename_i code tag m held hw
    cases held <;> simp [hw]
  all_goals simp [*]

/-- A link on which TUNED is taken, its listening time started where it scans (R121, R124). -/
def LinkState.tuned (scan : Bool) (tick : Tick) (k : LinkState) : LinkState :=
  { k with tuneExpiry := none, scanExpiry := if scan then some (tickAdd tick Config.scanTicks) else k.scanExpiry }

theorem exec_tuned : exec (.tuned dt l) before = .next (takeTuned l (elapse dt before)) := rfl

theorem takeTuned_deaf (h : (linkOf s l).condition ≠ .tuning) : takeTuned l s = s := by
  rw [takeTuned, if_neg (by simp [h])]

theorem takeTuned_eq (hp : PortReady l s) (hc : (linkOf s l).condition = .tuning) : takeTuned l s =
    let t := putLink l ((linkOf s l).tuned (scanning s l) s.ft.tick) s
    let u := if (linkOf t l).nextChannel.isSome then sendNext l t else mapLink l (fun k => { k with condition := .ready }) t
    if enableAwaits l s then answerLinkEnable l u else u := by
  rw [takeTuned, if_pos (by rw [portLive_of_ready hp, hc]; rfl)]
  rfl

/-- The state in which TUNED goes on to the held channel, or makes the link READY. -/
theorem takeTuned_none (hp : PortReady l s) (hc : (linkOf s l).condition = .tuning) (hn : (linkOf s l).nextChannel = none) :
    takeTuned l s =
      let u := putLink l { (linkOf s l).tuned (scanning s l) s.ft.tick with condition := .ready } s
      if enableAwaits l s then answerLinkEnable l u else u := by
  have hk : (linkOf (putLink l ((linkOf s l).tuned (scanning s l) s.ft.tick) s) l).nextChannel = none := by
    rw [linkOf_putLink_self]
    exact hn
  rw [takeTuned_eq hp hc]
  simp only [hk, Option.isSome_none, Bool.false_eq_true, if_false, mapLink_putLink]

/-- TUNED on a link whose next channel is held: the held TUNE is sent. -/
theorem takeTuned_some (hp : PortReady l s) (hc : (linkOf s l).condition = .tuning) (hn : (linkOf s l).nextChannel = some ch)
    (haw : enableAwaits l s = false) : ∃ w v, takeTuned l s =
      putLink l (((linkOf s l).tuned (scanning s l) s.ft.tick).sentTune s.ft.tick ch)
        { s with ft.window := w, xu.watch := v, cu := tuneSent l s.cu } := by
  have hk : (linkOf (putLink l ((linkOf s l).tuned (scanning s l) s.ft.tick) s) l).nextChannel = some ch := by
    rw [linkOf_putLink_self]
    exact hn
  obtain ⟨w, v, hrel, -⟩ := sendTune_relinked l ch (putLink l ((linkOf s l).tuned (scanning s l) s.ft.tick) s)
  refine ⟨w, v, ?_⟩
  rw [takeTuned_eq hp hc]
  simp only [haw, hk, Option.isSome_some, if_true, Bool.false_eq_true, if_false]
  rw [sendNext_of_some hk, hrel, putLink_cu, linkOf_putLink_self, putLink_ft]
  cases l <;> rfl

theorem tickAdd_scan (x : Tick) : tickAdd x Config.scanTicks = x + 1000000#32 := rfl

theorem raiseBst_live (hp : PortReady l s) (h : (linkOf s l).condition = .ready ∨ (linkOf s l).condition = .txFault) :
    raiseBst l s = putLink l { linkOf s l with held := some s.ft.tick } s := by
  rw [raiseBst, if_pos (by rw [portLive_of_ready hp]; simpa using h)]
  rfl

theorem raiseBst_deaf (h : (linkOf s l).condition = .tuning ∨ (linkOf s l).condition = .portFault) : raiseBst l s = s := by
  obtain h | h := h <;> rw [raiseBst, if_neg (by simp [h])]

/-- The row SCAN_EXPIRY of a scanning link whose expiry is due (R124). -/
theorem exec_scanExpiry {due : Tick} (hs : scanning (reachEvent (.scanExpiry l) before) l = true)
    (hd : (linkOf (reachEvent (.scanExpiry l) before) l).scanExpiry = some due)
    (hp : tickDiff due (reachEvent (.scanExpiry l) before).ft.tick ≤ 0) :
    exec (.scanExpiry l) before = .next (expireScan l (reachEvent (.scanExpiry l) before)) := by
  have hdue : scanDue l (reachEvent (.scanExpiry l) before) = some due := by
    rw [scanDue, if_pos hs, hd]
  show Host.Outcome.next (takeEvent (.scanExpiry l) before) = _
  rw [takeEvent_due (e := .scanExpiry l) hdue hp, occur]

theorem burstOn_none (h : s.ssu.burst = none) (l : Link) : burstOn s l = false := by
  rw [burstOn, h]

/-- The scan expiry of a READY link tunes it to the next channel (R124). -/
theorem expireScan_relinked {due : Tick} (hs : scanning s l = true) (hd : (linkOf s l).scanExpiry = some due)
    (hc : (linkOf s l).condition = .ready) (hb : s.ssu.burst = none) :
    Relinked l ({ linkOf s l with scanExpiry := none }.sentTune s.ft.tick ((linkOf s l).channel + 1#4))
      (putLink l { linkOf s l with scanExpiry := none } s) (expireScan l s) := by
  have hk : linkOf (putLink l { linkOf s l with scanExpiry := none } s) l = { linkOf s l with scanExpiry := none } :=
    linkOf_putLink_self _ _ _
  have hrel := retune_relinked (s := putLink l { linkOf s l with scanExpiry := none } s) (l := l)
    (by rw [hk]; exact (usable_iff _).mpr (.inl hc)) ((linkOf s l).channel + 1#4)
  rw [hk, putLink_ft, burstOn_none (by rw [putLink_ssu]; exact hb), LinkState.retuned, if_neg (by simp [hc])] at hrel
  rw [expireScan, if_pos (by rw [scanDue, if_pos hs, hd]; rfl)]
  exact hrel

/-- Settles O56. -/
theorem tuningAndScanning : Obligations.TuningAndScanning := by
  refine ⟨fun dt l before => ?_, fun l due before => ?_⟩
  · intro s hp hroles k scan ready
    have hscan : k.condition = .tuning → k.tuned (scanning s l) s.ft.tick = { k with tuneExpiry := none, scanExpiry := scan } :=
      fun hc => by
        rw [LinkState.tuned, scanning_eq (enabled_of_role hroles hp.role) ((usable_iff _).mpr (.inr hc)), tickAdd_scan]
        simp only [scan, decide_eq_true_iff]
    refine ⟨fun h => congrArg _ (raiseBst_live hp h), fun h => congrArg _ (raiseBst_deaf h), fun h =>
      congrArg _ (takeTuned_deaf h), fun hc hn hw => ?_, fun a b hc hn hw => ?_, fun ch hc hn hw => ?_⟩
    · have haw : enableAwaits l s = false := Bool.eq_false_iff.mpr fun h => by
        obtain ⟨a, b, h⟩ := enableAwaits_iff.mp h
        exact hw a b false h
      refine exec_tuned.trans (congrArg _ ((takeTuned_none hp hc hn).trans ?_))
      simp only [haw, Bool.false_eq_true, if_false]
      rw [hscan hc]
    · refine exec_tuned.trans (congrArg _ ((takeTuned_none hp hc hn).trans ?_))
      simp only [enableAwaits_iff.mpr ⟨a, b, hw⟩, if_true]
      rw [answerLinkEnable_waiting (by rw [putLink_cu]; exact hw), linkOf_putLink_self, hscan hc]
      rfl
    · have haw : enableAwaits l s = false := Bool.eq_false_iff.mpr fun h => by
        obtain ⟨a, b, h⟩ := enableAwaits_iff.mp h
        exact hw a b h
      obtain ⟨w, v, ht⟩ := takeTuned_some hp hc hn haw
      refine ⟨_, exec_tuned.trans (congrArg _ ht), ?_, ?_, putLink_uq _ _ _, putLink_ram _ _ _, fun a b hab => ?_, fun h => ?_⟩
      · rw [linkOf_putLink_self, hscan hc]
        rfl
      · cases l <;> rfl
      · rw [putLink_cu]
        exact tuneSent_waiting hab
      · rw [putLink_cu]
        exact tuneSent_of_not h
  · intro s hp hroles k hlock hc hb hscan hd
    have hs : scanning s l = true := by
      rw [scanning_eq (enabled_of_role hroles hp.role) ((usable_iff _).mpr (.inl hc))]
      exact decide_eq_true hlock
    have hrel := expireScan_relinked hs hscan hc hb
    have hother := hrel.other
    rw [linkOf_putLink_other] at hother
    have hlink := hrel.link
    obtain ⟨w, v, ht, -⟩ := hrel
    refine ⟨_, exec_scanExpiry hs hscan hd, hlink, ?_, hother, ?_, ?_⟩
    · rw [ht, putLink_ft]
      show (putLink l _ s).ft.tick = _
      rw [putLink_ft]
    · rw [ht, putLink_uq]
      exact putLink_uq l _ s
    · rw [ht, putLink_ram]
      exact putLink_ram l _ s

end Sys2Proof.Machine
end

section
/-! SUPPORT. The roles of the links, the dwell, and the entry into SEARCH. -/

-- One proof is checked after another: each worker thread of Lean reserves memory of its own.
set_option Elab.async false

namespace Sys2Proof.Machine

variable {s t u : State} {l : Link} {k : LinkState} {n x : Neighbour}

/-! ### The link that holds a role (R120) -/

theorem linkWithRole_role {r : Role} (h : linkWithRole s r = some l) : (linkOf s l).role = r := by
  unfold linkWithRole at h
  repeat' split at h
  · cases h
    assumption
  · cases h
    assumption
  · cases h

theorem RolesOk.primary_of_standby (h : RolesOk s) (hl : (linkOf s l).role = .standby) :
    (linkOf s (otherLink l)).role = .primary := by
  have he := enabled_of_role h (l := l) (by rw [hl]; exact Role.noConfusion)
  cases l
  · exact (h.one (.inl he)).resolve_left (by rw [show s.xu.linkA.role = .standby from hl]; exact Role.noConfusion)
  · exact (h.one (.inr he)).resolve_right (by rw [show s.xu.linkB.role = .standby from hl]; exact Role.noConfusion)

theorem standbyLink_eq (h : RolesOk s) (hl : (linkOf s l).role = .standby) : standbyLink s = some l := by
  have hp := h.primary_of_standby hl
  cases l
  · exact if_pos hl
  · exact (if_neg (by rw [show s.xu.linkA.role = .primary from hp]; exact Role.noConfusion)).trans (if_pos hl)

theorem primaryLink_eq (h : RolesOk s) (hl : (linkOf s l).role = .primary) : primaryLink s = some l := by
  cases l
  · exact if_pos hl
  · exact (if_neg fun ha => h.notBoth ⟨ha, hl⟩).trans (if_pos hl)

theorem dwellingLink_role (h : dwellingLink s = some l) : (linkOf s l).role = .standby := by
  unfold dwellingLink at h
  split at h
  · split at h
    · cases h
      exact linkWithRole_role ‹_›
    · cases h
  · cases h

theorem dwellingLink_usable (h : dwellingLink s = some l) : (linkOf s l).usable = true := by
  unfold dwellingLink at h
  split at h
  · split at h
    · cases h
      simp_all
    · cases h
  · cases h

theorem dwellingLink_eq (hr : RolesOk s) (hl : (linkOf s l).role = .standby) (hu : (linkOf s l).usable = true)
    (hs : s.ft.lock ≠ .search) : dwellingLink s = some l := by
  rw [dwellingLink, standbyLink_eq hr hl]
  exact if_pos (by simp [enabled_of_role hr (l := l) (by rw [hl]; exact Role.noConfusion), hu, hs])

/-! ### The dwell (R127) -/

/-- What a change of the dwell leaves alone: the rest of the state, the figures of both links, and what the Crossover Unit
holds of crossovers. -/
structure DwellMoved (s t : State) : Prop where
  eq : ∃ xu, t = { s with xu := xu }
  figures : ∀ l, SameFigures (linkOf s l) (linkOf t l)
  margin : t.xu.margin = s.xu.margin
  crossovers : t.xu.crossovers = s.xu.crossovers
  forcedCommand : t.xu.forcedCommand = s.xu.forcedCommand
  forcedProvision : t.xu.forcedProvision = s.xu.forcedProvision

theorem SameFigures.trans {a b c : LinkState} (h : SameFigures a b) (g : SameFigures b c) : SameFigures a c :=
  ⟨g.enabled.trans h.enabled, g.role.trans h.role, g.a8.trans h.a8, g.txFaults.trans h.txFaults, g.scanExpiry.trans h.scanExpiry⟩

theorem DwellMoved.refl (s : State) : DwellMoved s s := ⟨⟨s.xu, rfl⟩, fun _ => .refl _, rfl, rfl, rfl, rfl⟩

theorem DwellMoved.trans (h : DwellMoved s t) (g : DwellMoved t u) : DwellMoved s u := by
  obtain ⟨x, hx⟩ := h.eq
  obtain ⟨y, hy⟩ := g.eq
  exact ⟨⟨y, by rw [hy, hx]⟩, fun l => (h.figures l).trans (g.figures l), g.margin.trans h.margin, g.crossovers.trans h.crossovers,
    g.forcedCommand.trans h.forcedCommand, g.forcedProvision.trans h.forcedProvision⟩

theorem DwellMoved.same (h : DwellMoved s t) : t.ft = s.ft ∧ t.uq = s.uq ∧ t.ssu = s.ssu ∧ t.ab = s.ab ∧ t.mae = s.mae ∧
    t.au = s.au ∧ t.cu = s.cu ∧ t.ram = s.ram ∧ t.wt = s.wt ∧ t.ftu = s.ftu ∧ t.dlf = s.dlf := by
  obtain ⟨x, rfl⟩ := h.eq
  simp

theorem endDwell_moved (s : State) : DwellMoved s (endDwell s) :=
  ⟨⟨_, rfl⟩, fun l => by rw [show linkOf (endDwell s) l = linkOf s l by cases l <;> rfl]; exact .refl _, rfl, rfl, rfl, rfl⟩

theorem linkOf_endDwell (s : State) (l : Link) : linkOf (endDwell s) l = linkOf s l := by cases l <;> rfl

/-- The dwell started on an entry, before the link is tuned to it. -/
def dwellOn (x : Neighbour) (s : State) : State :=
  { s with
    xu.dwell := some ⟨x.zone, 0, false⟩, xu.watch := none, xu.dwellBeacon := none
    xu.neighbours := s.xu.neighbours.map fun y => if y.zone = x.zone then { y with good := 0, predicted := none } else y }

theorem linkOf_dwellOn (x : Neighbour) (s : State) (l : Link) : linkOf (dwellOn x s) l = linkOf s l := by cases l <;> rfl

theorem startDwell_eq (l : Link) (x : Neighbour) (s : State) : startDwell l x s =
    if (linkOf s l).condition = .ready ∧ (linkOf s l).channel = x.channel then dwellOn x s
    else retune l x.channel (dwellOn x s) := by
  have h : startDwell l x s =
      if (linkOf (dwellOn x s) l).condition = .ready ∧ (linkOf (dwellOn x s) l).channel = x.channel then dwellOn x s
      else retune l x.channel (dwellOn x s) := rfl
  rw [h, linkOf_dwellOn]

/-- The STANDBY link's dwell start, where the link is usable. -/
theorem startDwell_relinked (hu : (linkOf s l).usable = true) (x : Neighbour) :
    Relinked l (if (linkOf s l).condition = .ready ∧ (linkOf s l).channel = x.channel then linkOf s l
      else (linkOf s l).retuned s.ft.tick x.channel (burstOn s l)) (dwellOn x s) (startDwell l x s) := by
  rw [startDwell_eq]
  split
  · have h := Relinked.putLink l (linkOf (dwellOn x s) l) (dwellOn x s)
    rw [putLink_self, linkOf_dwellOn] at h
    exact h
  · have h := retune_relinked (s := dwellOn x s) (l := l) (by rw [linkOf_dwellOn]; exact hu) x.channel
    rw [linkOf_dwellOn] at h
    exact h

/-- A change of one link and of the dwell, where the link is not PRIMARY. -/
theorem DwellMoved.of_relinked (h : Relinked l k s t) (hk : SameFigures (linkOf s l) k) (hp : (linkOf s l).role ≠ .primary) :
    DwellMoved s t := by
  have hlink := h.link
  have hother := h.other
  obtain ⟨w, v, ht, hw, -⟩ := h
  have hw := hw (.inl hp)
  subst hw
  refine ⟨⟨t.xu, ?_⟩, fun m => ?_, ?_, ?_, ?_, ?_⟩
  · rw [ht]
    cases l <;> rfl
  · obtain rfl | rfl := eq_or_eq_otherLink l m
    · rw [hlink]
      exact hk
    · rw [hother]
      exact .refl _
  all_goals
    rw [ht]
    cases l <;> rfl

theorem retuned_figures (tick : Tick) (ch : BitVec 4) (busy : Bool) (k : LinkState) : SameFigures k (k.retuned tick ch busy) := by
  unfold LinkState.retuned
  split <;> exact ⟨rfl, rfl, rfl, rfl, rfl⟩

theorem dwellOn_moved (x : Neighbour) (s : State) : DwellMoved s (dwellOn x s) :=
  ⟨⟨_, rfl⟩, fun l => by rw [linkOf_dwellOn]; exact .refl _, rfl, rfl, rfl, rfl⟩

theorem startDwell_moved (hl : (linkOf s l).role ≠ .primary) (x : Neighbour) : DwellMoved s (startDwell l x s) := by
  by_cases hu : (linkOf s l).usable = true
  · refine (dwellOn_moved x s).trans (.of_relinked (startDwell_relinked hu x) ?_ (by rw [linkOf_dwellOn]; exact hl))
    rw [linkOf_dwellOn]
    split
    exacts [.refl _, retuned_figures _ _ _ _]
  · have hu := Bool.eq_false_iff.mpr hu
    rw [startDwell_eq, retune_faulted (by rw [linkOf_dwellOn]; exact hu), ite_self]
    exact dwellOn_moved x s

theorem startDwell_started (hl : (linkOf s l).role ≠ .primary) (hu : (linkOf s l).usable = true) (x : Neighbour) :
    DwellStarted l (linkOf s l) x s (startDwell l x s) := by
  have h := startDwell_relinked hu x
  have hlink := h.link
  have hother := h.other
  rw [linkOf_dwellOn] at hother
  have hwatch := h.watch (.inr rfl)
  obtain ⟨w, v, ht, -⟩ := h
  refine ⟨?_, hwatch, ?_, ?_, hother, hlink⟩
  all_goals
    rw [ht]
    cases l <;> rfl

theorem eligible_iff (zone : Byte) (n : Neighbour) : n.eligible zone = true ↔ n.zone ≠ zone := decide_eq_true_iff

theorem eligible_eq (zone : Byte) : Neighbour.eligible zone = fun y => decide (y.zone ≠ zone) := rfl

theorem dwelt_mem (h : dwelt s = some n) : n ∈ s.xu.neighbours := by
  unfold dwelt at h
  split at h
  · exact List.mem_of_find?_eq_some h
  · cases h

theorem adjustDwell_deaf (h : dwellingLink s = none) : adjustDwell s = endDwell s := by
  rw [adjustDwell, h]

theorem adjustDwell_keeps (h : dwellingLink s = some l) (hn : dwelt s = some n) (he : n.zone ≠ s.ft.zone) : adjustDwell s = s := by
  rw [adjustDwell, h]
  simp only [hn]
  rw [if_pos ((eligible_iff _ n).mpr he)]

/-- A dwell that may not go on, or has not begun, moves to the first eligible entry, or ends. -/
theorem adjustDwell_moves (h : dwellingLink s = some l) (hn : ∀ n, dwelt s = some n → n.zone = s.ft.zone) : adjustDwell s =
    match s.xu.neighbours.find? (Neighbour.eligible s.ft.zone) with
    | some x => startDwell l x s
    | none => endDwell s := by
  rw [adjustDwell, h]
  simp only
  split
  · rename_i n hd
    exact (if_neg (by rw [eligible_iff]; exact not_not.mpr (hn n hd))).trans rfl
  · rfl

theorem adjustDwell_starts (h : dwellingLink s = some l) (hn : ∀ n, dwelt s = some n → n.zone = s.ft.zone)
    (hx : s.xu.neighbours.find? (fun y => decide (y.zone ≠ s.ft.zone)) = some x) : adjustDwell s = startDwell l x s := by
  rw [adjustDwell_moves h hn, eligible_eq, hx]

theorem adjustDwell_ends (hn : ∀ n ∈ s.xu.neighbours, n.zone = s.ft.zone) : adjustDwell s = endDwell s := by
  cases hl : dwellingLink s with
  | none => exact adjustDwell_deaf hl
  | some l =>
    rw [adjustDwell_moves hl fun n hd => hn n (dwelt_mem hd),
      List.find?_eq_none.mpr fun n hm => by rw [eligible_iff]; exact not_not.mpr (hn n hm)]

theorem adjustDwell_moved (s : State) : DwellMoved s (adjustDwell s) := by
  cases hl : dwellingLink s with
  | none =>
    rw [adjustDwell_deaf hl]
    exact endDwell_moved s
  | some l =>
    have hr : (linkOf s l).role ≠ .primary := by rw [dwellingLink_role hl]; exact Role.noConfusion
    by_cases hk : ∃ n, dwelt s = some n ∧ n.zone ≠ s.ft.zone
    · obtain ⟨n, hn, he⟩ := hk
      rw [adjustDwell_keeps hl hn he]
      exact .refl s
    · rw [adjustDwell_moves hl fun n hn => not_not.mp fun he => hk ⟨n, hn, he⟩]
      split
      exacts [startDwell_moved hr _, endDwell_moved s]

end Sys2Proof.Machine
end

section
/-! SUPPORT. The entry into SEARCH, and RESTART LINK. -/

-- One proof is checked after another: each worker thread of Lean reserves memory of its own.
set_option Elab.async false

namespace Sys2Proof.Machine

variable {s t u : State} {l : Link} {k : LinkState}

/-! ### The scan (R124) -/

/-- A link as its scan begins at its start channel, where it can scan. -/
def LinkState.scanned (l : Link) (tick : Tick) (busy : Bool) (k : LinkState) : LinkState :=
  if k.enabled && k.usable then { k with scanExpiry := none }.retuned tick (startChannel l) busy else k

theorem scanned_figures (l : Link) (tick : Tick) (busy : Bool) (k : LinkState) :
    (k.scanned l tick busy).enabled = k.enabled ∧ (k.scanned l tick busy).role = k.role ∧ (k.scanned l tick busy).a8 = k.a8 ∧
      (k.scanned l tick busy).txFaults = k.txFaults := by
  unfold LinkState.scanned
  split
  · have h := retuned_figures tick (startChannel l) busy { k with scanExpiry := none }
    exact ⟨h.enabled, h.role, h.a8, h.txFaults⟩
  · exact ⟨rfl, rfl, rfl, rfl⟩

theorem Relinked.of_put {k' : LinkState} (h : Relinked l k' (Machine.putLink l k s) t) (hk : k.role = (linkOf s l).role) :
    Relinked l k' s t := by
  obtain ⟨w, v, rfl, hw, hv⟩ := h
  rw [linkOf_putLink_self, putLink_ft, hk] at hw
  rw [linkOf_putLink_self, putLink_watch, hk] at hv
  exact ⟨w, v, by cases l <;> rfl, hw, hv⟩

theorem startScan_relinked (l : Link) (s : State) :
    Relinked l ((linkOf s l).scanned l s.ft.tick (burstOn s l)) s (startScan l s) := by
  unfold startScan LinkState.scanned
  split
  · rename_i h
    have hk : linkOf (putLink l { linkOf s l with scanExpiry := none } s) l = { linkOf s l with scanExpiry := none } :=
      linkOf_putLink_self _ _ _
    have hr := retune_relinked (s := putLink l { linkOf s l with scanExpiry := none } s) (l := l)
      (by rw [hk]; exact (Bool.and_eq_true_iff.mp h).2) (startChannel l)
    have hb : burstOn (putLink l { linkOf s l with scanExpiry := none } s) l = burstOn s l := by
      rw [burstOn, putLink_ssu]
      rfl
    rw [hk, putLink_ft, hb] at hr
    exact hr.of_put rfl
  · have hr := Relinked.putLink l (linkOf s l) s
    rw [putLink_self] at hr
    exact hr

/-- Both links of a state given new states, and nothing else. -/
def putLinks (a b : LinkState) (s : State) : State := { s with xu.linkA := a, xu.linkB := b }

/-- Both links begin to scan. -/
theorem startScans_eq (s : State) : ∃ w v, startScan .b (startScan .a s) =
    putLinks ((linkOf s .a).scanned .a s.ft.tick (burstOn s .a)) ((linkOf s .b).scanned .b s.ft.tick (burstOn s .b))
      { s with ft.window := w, xu.watch := v } ∧ (s.ft.window = none → w = none) ∧ (s.xu.watch = none → v = none) := by
  obtain ⟨w, v, ha, hw, hv⟩ := startScan_relinked .a s
  obtain ⟨w', v', hb, hw', hv'⟩ := startScan_relinked .b (startScan .a s)
  rw [ha] at hb hw' hv'
  rw [ha]
  exact ⟨w', v', hb, fun h => (hw' (.inr ((hw (.inr h)).trans h))).trans ((hw (.inr h)).trans h),
    fun h => (hv' (.inr ((hv (.inr h)).trans h))).trans ((hv (.inr h)).trans h)⟩

/-! ### The queue, the timing and the forced requests -/

/-- The Uplink Queue after the return of its AWAIT_ACK records (R74). -/
def returnedQueue (q : UplinkQueue) : UplinkQueue :=
  { q with
    records := (settleRecords returnAwaiting [] q.records).records
    superseded := min (q.superseded + (settleRecords returnAwaiting [] q.records).superseded) 65535
    undelivered := min q.undelivered 65535 }

theorem settleQueue_return (s : State) : settleQueue returnAwaiting s = { s with uq := returnedQueue s.uq } :=
  settleQueue_eq returnAwaiting_ne s

theorem settleRecords_still {rs : List Record} (h : ∀ r ∈ rs, r.awaits = false) :
    settleRecords returnAwaiting [] rs = ⟨rs, 0, 0⟩ := by
  have key := settleRecords_eq (fate := returnAwaiting) .keep rs [] fun pre r post hp => by
    rw [returnAwaiting_eq, if_neg (by rw [h r (by rw [hp]; simp)]; exact Bool.false_ne_true)]
  simpa [Fate.left] using key

theorem requestStatus_moves (s : State) : ∃ mae, requestStatus s = { s with mae := mae } ∧ mae.result = s.mae.result ∧
    mae.publication = s.mae.publication := by
  rw [requestStatus_eq]
  exact ⟨_, rfl, rfl, rfl⟩

theorem setLock_eq (k : LockState) (s : State) : ∃ mae, setLock k s = { s with ft.lock := k, mae := mae } ∧
    mae.result = s.mae.result ∧ mae.publication = s.mae.publication := by
  unfold setLock
  dsimp only
  split
  · exact ⟨s.mae, rfl, rfl, rfl⟩
  · exact requestStatus_moves { s with ft.lock := k }

/-- The timing at an entry into SEARCH (R96). -/
theorem dropTiming_eq (s : State) : ∃ ft mae, dropTiming s = { s with ft := ft, mae := mae } ∧ ft.lock = .search ∧
    (s.ft.lock ≠ .search → ft.next = none ∧ ft.window = none) ∧ ft.tick = s.ft.tick ∧ ft.timing = s.ft.timing ∧
    ft.frame = s.ft.frame ∧ mae.result = s.mae.result ∧ mae.publication = s.mae.publication := by
  unfold dropTiming
  by_cases h : s.ft.lock = .search
  · rw [if_pos h]
    exact ⟨s.ft, s.mae, rfl, h, fun hn => absurd h hn, rfl, rfl, rfl, rfl, rfl⟩
  · rw [if_neg h]
    obtain ⟨mae, he, hr, hp⟩ := setLock_eq .search { s with
      ft.next := none, ft.window := none, ft.layout := none, ft.pendingFrame := none, ft.good := 0, ft.miss := 0 }
    exact ⟨_, mae, he, rfl, fun _ => ⟨rfl, rfl⟩, rfl, rfl, rfl, hr, hp⟩

/-- No forced request is pending, and none is answered. -/
theorem answerForced_none (r : ResultCode) (hc : s.xu.forcedCommand = false) (hp : s.xu.forcedProvision = none) :
    answerForced r s = s := by
  unfold answerForced
  simp only [hc, Bool.false_eq_true, if_false, hp]

/-- What the answer to the forced requests changes, where no provisioning operation is pending. -/
theorem answerForced_command (r : ResultCode) (hp : s.xu.forcedProvision = none) : ∃ mae cu, answerForced r s =
    { s with xu.forcedCommand := false, mae := mae, cu := cu } ∧ mae.publication = s.mae.publication ∧
    (s.xu.forcedCommand = false → mae = s.mae ∧ cu = s.cu) := by
  unfold answerForced
  cases hc : s.xu.forcedCommand with
  | false =>
    simp only [Bool.false_eq_true, if_false, hp]
    exact ⟨s.mae, s.cu, by rw [← hc, ← hp], rfl, fun _ => ⟨rfl, rfl⟩⟩
  | true =>
    simp only [if_true, replyCommand, hp]
    exact ⟨_, _, rfl, rfl, fun h => Bool.noConfusion h⟩

theorem offerTo_joinSeq (q : UplinkQueue) (r : Record) : (offerTo q r).1.joinSeq = q.joinSeq := by
  have ht : (joinTail q r).1.joinSeq = q.joinSeq := by
    unfold joinTail
    repeat' split
    all_goals rfl
  unfold offerTo
  repeat' split
  exacts [rfl, ht, rfl, ht, rfl, ht, ht]

/-- An offer changes the queue, and at a drop the Fault Causes with their request (R62, R77). -/
theorem offer_moves (r : Record) (s : State) : ∃ attention causes requests, offer r s =
    { s with uq := (offerTo s.uq r).1, mae.attention := attention, au.causes := causes, au.requests := requests } ∧
    (causes = s.au.causes ∨ causes = s.au.causes ||| causeBit .queueDrop) ∧
    (requests = s.au.requests ∨ requests = s.au.requests ||| requestBit .fault) := by
  unfold offer
  dsimp only
  split
  · rw [raiseCause_eq]
    exact ⟨_, _, _, rfl, .inr rfl, .inr rfl⟩
  · exact ⟨s.mae.attention, s.au.causes, s.au.requests, rfl, .inl rfl, .inl rfl⟩

/-- The result of a pending FORCE CROSSOVER (R131). -/
def forcedReplied (r : ResultCode) (s : State) : State :=
  if s.xu.forcedCommand then replyCommand r [] { s with xu.forcedCommand := false } else s

/-- A pending provisioning operation gets its reply after the command's result. -/
theorem answerForced_some {seq : Byte} (r : ResultCode) (hp : s.xu.forcedProvision = some seq) : answerForced r s =
    offerProvisionReply seq r { forcedReplied r s with xu.forcedProvision := none } := by
  have h : (forcedReplied r s).xu.forcedProvision = some seq := by
    rw [forcedReplied]
    split <;> exact hp
  show (match (forcedReplied r s).xu.forcedProvision with
    | some seq => offerProvisionReply seq r { forcedReplied r s with xu.forcedProvision := none }
    | none => forcedReplied r s) = _
  rw [h]

theorem forcedReplied_moves (r : ResultCode) (s : State) : ∃ mae cu, forcedReplied r s =
    { s with xu.forcedCommand := false, mae := mae, cu := cu } ∧ mae.publication = s.mae.publication := by
  unfold forcedReplied
  split
  · exact ⟨_, _, rfl, rfl⟩
  · rename_i hc
    exact ⟨s.mae, s.cu, by rw [← Bool.eq_false_iff.mpr hc], rfl⟩

/-- What the answer to the forced requests leaves alone. -/
theorem answerForced_keeps (r : ResultCode) (s : State) : ∃ uq mae au cu,
    answerForced r s =
      { s with xu.forcedCommand := false, xu.forcedProvision := none, uq := uq, mae := mae, au := au, cu := cu } ∧
    mae.publication = s.mae.publication ∧ uq.joinSeq = s.uq.joinSeq := by
  cases hp : s.xu.forcedProvision with
  | none =>
    obtain ⟨mae, cu, h, hm, -⟩ := answerForced_command r hp
    exact ⟨s.uq, mae, s.au, cu, by rw [h, ← hp], hm, rfl⟩
  | some seq =>
    obtain ⟨mae, cu, hf, hm⟩ := forcedReplied_moves r s
    rw [answerForced_some r hp, hf]
    obtain ⟨attention, causes, requests, ho, -⟩ :=
      offer_moves (internalRecord .provisionReply tagProvisionReply seq .routine s.ft.frame [resultByte r])
        { s with xu.forcedCommand := false, xu.forcedProvision := none, mae := mae, cu := cu }
    exact ⟨_, { mae with attention := attention }, _, cu, ho, hm, offerTo_joinSeq _ _⟩

/-! ### The entry into SEARCH (R96, R102, R116, R124) -/

/-- The state in which the forced requests are answered at an entry into SEARCH. -/
def searchEntered (s : State) : State :=
  let t := dropTiming s
  { t with
    ssu.grants := [], ssu.contention := [], ab.restart := true, uq := returnedQueue t.uq
    xu.dwell := none, xu.watch := none, xu.dwellBeacon := none }

theorem enterSearch_eq (s : State) :
    enterSearch s = startScan .b (startScan .a (answerForced .noCandidate (searchEntered s))) := by
  rw [enterSearch]
  simp only [settleQueue_return]
  rfl

/-- What an entry into SEARCH makes of the state (R96). -/
theorem enterSearch_spec (s : State) :
    ∃ w, enterSearch s = putLinks ((linkOf s .a).scanned .a s.ft.tick (burstOn s .a)) ((linkOf s .b).scanned .b s.ft.tick (burstOn s .b))
        { answerForced .noCandidate (searchEntered s) with ft.window := w } ∧
      (s.ft.lock ≠ .search → w = none) := by
  obtain ⟨uq, mae, au, cu, ha, -⟩ := answerForced_keeps .noCandidate (searchEntered s)
  obtain ⟨ft, mae', hd, -, hwin, htick, -⟩ := dropTiming_eq s
  obtain ⟨w, v, he, hw, hv⟩ := startScans_eq (answerForced .noCandidate (searchEntered s))
  have hx : ∀ l, linkOf (answerForced .noCandidate (searchEntered s)) l = linkOf s l := fun l => by
    rw [ha, searchEntered, hd]
    cases l <;> rfl
  have hb : ∀ l, burstOn (answerForced .noCandidate (searchEntered s)) l = burstOn s l := fun l => by
    rw [ha, searchEntered, hd]
    rfl
  have ht : (answerForced .noCandidate (searchEntered s)).ft = ft := by
    rw [ha, searchEntered, hd]
  have htk : (answerForced .noCandidate (searchEntered s)).ft.tick = s.ft.tick := by rw [ht, htick]
  have hwatch : (answerForced .noCandidate (searchEntered s)).xu.watch = none := by
    rw [ha]
    rfl
  rw [hx, hx, hb, hb, htk] at he
  refine ⟨w, ?_, fun hl => hw (by rw [ht]; exact (hwin hl).2)⟩
  rw [enterSearch_eq, he, hv hwatch]
  generalize answerForced .noCandidate (searchEntered s) = x at hwatch
  rw [← hwatch]

/-! ### RESTART LINK (R137, R187) -/

theorem runCommand_restartLink (h : s.passOnly = false) (args : List Word) :
    runCommand codeRestartLink args s = replyCommand .done [] (restartLinks s) := by
  rw [runCommand, h]
  rfl

/-- A link as RESTART LINK clears its fault, if it is enabled (R137). -/
def LinkState.restarted (k : LinkState) : LinkState := if k.enabled then k.cleared else k

theorem restarted_figures (k : LinkState) :
    k.restarted.enabled = k.enabled ∧ k.restarted.role = k.role ∧ k.restarted.a8 = k.a8 := by
  unfold LinkState.restarted
  split <;> exact ⟨rfl, rfl, rfl⟩

theorem clearLinkFaults_eq (s : State) : clearLinkFaults s = putLinks s.xu.linkA.restarted s.xu.linkB.restarted s := rfl

/-- A restarted link on which no burst is: TUNING, from its start channel (R124, log 11). -/
theorem restarted_scanned {tick : Tick} (he : k.enabled = true) :
    (k.restarted.scanned l tick false).condition = .tuning ∧ (k.restarted.scanned l tick false).txFaults = 0 ∧
    (k.condition ≠ .tuning → (k.restarted.scanned l tick false).channel = startChannel l) ∧
    (k.condition = .tuning → (k.restarted.scanned l tick false).nextChannel = some (startChannel l)) := by
  have hr : k.restarted = k.cleared := if_pos he
  have hu : (k.cleared.enabled && k.cleared.usable) = true := by
    rw [Bool.and_eq_true, usable_iff]
    refine ⟨he, ?_⟩
    unfold LinkState.cleared
    dsimp only
    split
    exacts [.inr rfl, .inl rfl]
  rw [hr, LinkState.scanned, if_pos hu, LinkState.retuned]
  by_cases hc : k.condition = .tuning
  · have hcl : k.cleared.condition = .tuning := if_pos hc
    rw [if_pos (.inl hcl)]
    exact ⟨hcl, rfl, fun h => absurd hc h, fun _ => rfl⟩
  · have hcl : k.cleared.condition = .ready := if_neg hc
    rw [if_neg (by simp [hcl])]
    exact ⟨rfl, rfl, fun _ => rfl, fun h => absurd h hc⟩

/-- Settles O44. -/
theorem linkRestarted : Obligations.LinkRestarted := by
  intro dt w before s ha h hn hfc hfp u
  have hx : exec (.restartLink dt w) before = .next (replyCommand .done [] (restartLinks u)) := by
    rw [← runCommand_restartLink (s := u) h.normal ((s.bpu.copy.drop 1).take 15)]
    exact exec_commandRows_run (p := (codeRestartLink, .restartLink)) (by simp [commandRows]) ha h
  have hq : emptyQueue u = _ := emptyQueue_eq (s := u) (by rw [detachedRecords, List.length_map]; exact hn)
  obtain ⟨x, hxe⟩ : ∃ x, x = putLinks u.xu.linkA.restarted u.xu.linkB.restarted (emptyQueue u) := ⟨_, rfl⟩
  have hrestart : restartLinks u = enterSearch x := by
    rw [restartLinks, clearLinkFaults_eq, hxe, hq]
  rw [hq] at hxe
  obtain ⟨w', he, hwin⟩ := enterSearch_spec x
  obtain ⟨ft, mae, hd, hlock, hnext, -⟩ := dropTiming_eq x
  have hforced : answerForced .noCandidate (searchEntered x) = searchEntered x :=
    answerForced_none _ (by rw [searchEntered, hd, hxe]; exact hfc) (by rw [searchEntered, hd, hxe]; exact hfp)
  have hrecords : ∀ r ∈ x.uq.records, r.awaits = false := fun r hr => by
    rw [hxe] at hr
    obtain hr | hr := List.mem_append.mp hr
    · obtain ⟨y, hy, rfl⟩ := List.mem_map.mp hr
      have hs : y.state = .onAir := of_decide_eq_true (List.mem_filter.mp hy).2
      simp [Record.awaits, hs]
    · rw [List.mem_singleton.mp hr]
      rfl
  rw [hforced, searchEntered, hd, returnedQueue, settleRecords_still hrecords] at he
  refine ⟨restartLinks u, hx, ?_⟩
  rw [hrestart, he]
  have hft : x.ft = s.ft := by rw [hxe]; rfl
  refine ⟨by rw [hxe]; rfl, by rw [hxe]; rfl, hlock, fun hl => ⟨(hnext (by rw [hft]; exact hl)).1, hwin (by rw [hft]; exact hl)⟩,
    by rw [hxe]; rfl, by rw [hxe]; rfl, rfl, by rw [hxe]; rfl, by rw [hxe]; rfl, by rw [hxe]; rfl, fun l => ?_,
    by rw [hxe]; rfl, by rw [hxe]; rfl, by rw [hxe]; rfl, by rw [hxe]; rfl, by rw [hxe]; rfl⟩
  have hl : ∀ y, linkOf (putLinks ((linkOf x .a).scanned .a x.ft.tick (burstOn x .a)) ((linkOf x .b).scanned .b x.ft.tick
      (burstOn x .b)) y) l = (linkOf s l).restarted.scanned l s.ft.tick (burstOn s l) := fun y => by
    rw [hxe]
    cases l <;> rfl
  rw [hl]
  obtain ⟨hen, hrole, ha8, -⟩ := scanned_figures l s.ft.tick (burstOn s l) (linkOf s l).restarted
  obtain ⟨hen', hrole', ha8'⟩ := restarted_figures (linkOf s l)
  refine ⟨hrole.trans hrole', hen.trans hen', ha8.trans ha8', fun he => ?_, fun he hb => ?_⟩
  · have hk : (linkOf s l).restarted = linkOf s l := if_neg (by rw [he]; exact Bool.false_ne_true)
    rw [hk, LinkState.scanned, if_neg (by rw [he]; exact Bool.false_ne_true)]
  · rw [hb]
    have h := restarted_scanned (l := l) (tick := s.ft.tick) he
    cases l <;> exact h

end Sys2Proof.Machine
end

section
/-! SUPPORT. SET LINK ENABLE and FORCE CROSSOVER. -/

-- One proof is checked after another: each worker thread of Lean reserves memory of its own.
set_option Elab.async false

namespace Sys2Proof.Machine

variable {s t u : State} {l : Link} {k : LinkState} {x n : Neighbour}

/-! ### The command in progress -/

theorem commandInProgress_congr (h : t.cu = s.cu) : commandInProgress t = commandInProgress s := by
  rw [commandInProgress, commandInProgress, h]

theorem commandInProgress_forcedReplied (r : ResultCode) (s : State) :
    commandInProgress (forcedReplied r s) = commandInProgress s := by
  unfold forcedReplied
  split <;> rfl

theorem commandInProgress_answerForced (r : ResultCode) (s : State) :
    commandInProgress (answerForced r s) = commandInProgress s := by
  cases hp : s.xu.forcedProvision with
  | none =>
    unfold answerForced
    cases hc : s.xu.forcedCommand <;> simp only [Bool.false_eq_true, if_false, if_true, replyCommand, hp]
    rfl
  | some seq =>
    rw [answerForced_some r hp]
    obtain ⟨_, _, _, ho, -⟩ := offer_moves (internalRecord .provisionReply tagProvisionReply seq .routine
      (forcedReplied r s).ft.frame [resultByte r]) { forcedReplied r s with xu.forcedProvision := none }
    have hcu : (offerProvisionReply seq r { forcedReplied r s with xu.forcedProvision := none }).cu = (forcedReplied r s).cu :=
      (congrArg State.cu ho).trans rfl
    exact (commandInProgress_congr hcu).trans (commandInProgress_forcedReplied r s)

theorem commandInProgress_enterSearch (s : State) : commandInProgress (enterSearch s) = commandInProgress s := by
  obtain ⟨w, he, -⟩ := enterSearch_spec s
  obtain ⟨ft, mae, hd, -⟩ := dropTiming_eq s
  rw [he]
  refine (commandInProgress_answerForced .noCandidate (searchEntered s)).trans (commandInProgress_congr ?_)
  rw [searchEntered, hd]

/-! ### Disabling a link (R135) -/

theorem runCommand_setLinkEnable (h : s.passOnly = false) (args : List Word) :
    runCommand codeSetLinkEnable args s = setLinkEnable args s := by rw [runCommand, h]; rfl

theorem runCommand_forceCrossover (h : s.passOnly = false) (args : List Word) :
    runCommand codeForceCrossover args s = forceCommand s := by rw [runCommand, h]; rfl

/-- Disabling a STANDBY link, where a burst is on the PRIMARY link alone. -/
theorem disableLink_standby (hr : (linkOf s l).role = .standby) (hb : ∀ b, s.ssu.burst = some b → b.link = otherLink l ∧
      (linkOf s b.link).role = .primary ∧ (b.phase = .prepared → (linkOf s b.link).condition = .ready)) :
    ∃ mae, disableLink l s = endDwell (putLink l (linkOf s l).disabled { s with mae := mae }) ∧
      mae.publication = s.mae.publication := by
  obtain ⟨mae, hm, -, hp⟩ := requestStatus_moves (putLink l (linkOf s l).disabled s)
  have hput : requestStatus (mapLink l LinkState.disabled s) = putLink l (linkOf s l).disabled { s with mae := mae } :=
    hm.trans (by cases l <;> rfl)
  have hsettle : settleBurst (putLink l (linkOf s l).disabled { s with mae := mae }) =
      putLink l (linkOf s l).disabled { s with mae := mae } := by
    cases hburst : s.ssu.burst with
    | none => exact settleBurst_none (by rw [putLink_ssu]; exact hburst)
    | some b =>
      obtain ⟨hl, hrole, hready⟩ := hb b hburst
      have hk : linkOf (putLink l (linkOf s l).disabled { s with mae := mae }) b.link = linkOf s b.link := by
        rw [hl]
        cases l <;> rfl
      exact settleBurst_kept (b := b) (by rw [putLink_ssu]; exact hburst) (by rw [hk]; exact hrole) (by rw [hk]; exact hready)
  rw [putLink_mae] at hp
  refine ⟨mae, ?_, hp⟩
  rw [disableLink]
  simp only [hr, hput, hsettle]
  rfl

/-- The state in which the search begins after the PRIMARY link has been disabled: its burst, if any, is abandoned, and the
other link has the role if it is enabled. -/
def handedOver (l : Link) (mae : Engine) (s : State) : State :=
  let o := linkOf s (otherLink l)
  putLink (otherLink l) (if o.enabled then { o with role := .primary, a8 := 0 } else o) (putLink l (linkOf s l).disabled
    { s with mae := mae, ssu.burst := none, uq := if s.ssu.burst = none then s.uq else abandonedQueue s.uq })

/-- Disabling the PRIMARY link. -/
theorem disableLink_primary (hr : (linkOf s l).role = .primary) (hb : ∀ b, s.ssu.burst = some b → b.link = l) :
    ∃ mae, disableLink l s = raiseRequest .link (enterSearch (handedOver l mae s)) ∧
      mae.publication = s.mae.publication := by
  obtain ⟨mae, hm, -, hp⟩ := requestStatus_moves (putLink l (linkOf s l).disabled s)
  have hput : requestStatus (mapLink l LinkState.disabled s) = putLink l (linkOf s l).disabled { s with mae := mae } :=
    hm.trans (by cases l <;> rfl)
  have hsettle : settleBurst (putLink l (linkOf s l).disabled { s with mae := mae }) = putLink l (linkOf s l).disabled
      { s with mae := mae, ssu.burst := none, uq := if s.ssu.burst = none then s.uq else abandonedQueue s.uq } := by
    cases hburst : s.ssu.burst with
    | none =>
      rw [settleBurst_none (by rw [putLink_ssu]; exact hburst), if_pos rfl, ← hburst]
    | some b =>
      have hk : linkOf (putLink l (linkOf s l).disabled { s with mae := mae }) b.link = (linkOf s l).disabled := by
        rw [hb b hburst, linkOf_putLink_self]
      have hburst' : (putLink l (linkOf s l).disabled { s with mae := mae }).ssu.burst = some b := by
        rw [putLink_ssu]
        exact hburst
      rw [settleBurst_abandons hburst' (.inl (by rw [hk]; exact Role.noConfusion)), abandonBurst_eq hburst', if_neg (by simp),
        hb b hburst, endBurst_still (.inr ?_)]
      · cases l <;> rfl
      · rw [show linkOf { putLink l (linkOf s l).disabled { s with mae := mae } with ssu.burst := none, uq := abandonedQueue _ } l =
          linkOf (putLink l (linkOf s l).disabled { s with mae := mae }) l from linkOf_congr rfl l, linkOf_putLink_self]
        rfl
  rw [putLink_mae] at hp
  refine ⟨mae, ?_, hp⟩
  rw [disableLink]
  simp only [hput, hsettle]
  rw [if_pos (decide_eq_true hr)]
  cases l <;> rfl

/-! ### Enabling a link (R136) -/

/-- The enabled link after its fault is cleared, in its role. -/
def LinkState.marked (role : Role) (k : LinkState) : LinkState := { k.cleared with enabled := true, role := role }

theorem marked_usable (role : Role) (k : LinkState) : (k.marked role).usable = true := by
  rw [usable_iff]
  show k.cleared.condition = .ready ∨ k.cleared.condition = .tuning
  unfold LinkState.cleared
  dsimp only
  split
  exacts [.inr rfl, .inl rfl]

theorem marked_tuning_iff (role : Role) (k : LinkState) : (k.marked role).condition = .tuning ↔ k.condition = .tuning := by
  show k.cleared.condition = .tuning ↔ _
  unfold LinkState.cleared
  dsimp only
  split <;> simp [*]

theorem markEnabled_eq (l : Link) (s : State) : ∃ mae, markEnabled l s =
    putLink l ((linkOf s l).marked (enabledRole s l)) { s with mae := mae } ∧ mae.result = s.mae.result ∧
      mae.publication = s.mae.publication := by
  rw [markEnabled]
  dsimp only
  split
  · obtain ⟨mae, hm, hr, hp⟩ := requestStatus_moves (putLink l ((linkOf s l).marked (enabledRole s l)) s)
    rw [putLink_mae] at hr hp
    exact ⟨mae, hm.trans (by cases l <;> rfl), hr, hp⟩
  · exact ⟨s.mae, rfl, rfl, rfl⟩

/-- A retune is held where a TUNE is outstanding or a burst is on the link (R121). -/
theorem retuned_held (tick : Tick) (ch : BitVec 4) (busy : Bool) (k : LinkState) :
    k.retuned tick ch (decide (k.condition = .tuning) || busy) = k.retuned tick ch busy := by
  unfold LinkState.retuned
  by_cases h : k.condition = .tuning <;> simp [h]

theorem retuneKind_eq (h : (linkOf s l).usable = true) :
    retuneKind s l = some (decide ((linkOf s l).condition = .tuning) || burstOn s l) := by
  obtain hc | hc := (usable_iff _).mp h <;> simp [retuneKind, hc]

/-- SET LINK ENABLE of value 1: it waits for the TUNE it sent or holds, or replies at once. -/
theorem setLinkEnable_one {args : List Word} (hl : linkOfNumber (argNat args 1) = some l) (hv : argNat args 2 = 1) :
    setLinkEnable args s =
      match enableTune (markEnabled l s) l with
      | some held =>
        let u := enableMove l (markEnabled l s)
        { u with cu.state := .waiting (commandInProgress u).1 (commandInProgress u).2 (.linkTune l held) }
      | none => replyCondition l (enableMove l (markEnabled l s)) := by
  rw [setLinkEnable, hl]
  simp only [hv]
  rfl

theorem setLinkEnable_zero {args : List Word} (hl : linkOfNumber (argNat args 1) = some l) (hv : argNat args 2 = 0) :
    setLinkEnable args s =
      if (linkOf s l).role = .off then replyCondition l s else replyCondition l (disableLink l s) := by
  rw [setLinkEnable, hl]
  simp only [hv, if_true]

theorem standbyLink_of (hl : (linkOf s l).role = .standby) (ho : (linkOf s (otherLink l)).role = .primary) :
    standbyLink s = some l := by
  cases l
  · exact if_pos hl
  · exact (if_neg (by rw [show s.xu.linkA.role = .primary from ho]; exact Role.noConfusion)).trans (if_pos hl)

theorem dwellingLink_of (hl : (linkOf s l).role = .standby) (ho : (linkOf s (otherLink l)).role = .primary)
    (he : (linkOf s l).enabled = true) (hu : (linkOf s l).usable = true) (hs : s.ft.lock ≠ .search) :
    dwellingLink s = some l := by
  rw [dwellingLink, standbyLink_of hl ho]
  exact if_pos (by simp [he, hu, hs])

/-- The other link is PRIMARY where this one becomes STANDBY (R120, R136). -/
theorem other_primary_of_enabledRole (h : RolesOk s) (hr : enabledRole s l = .standby) :
    (linkOf s (otherLink l)).role = .primary := by
  unfold enabledRole at hr
  split at hr
  · rename_i hoff
    split at hr
    · rename_i he
      cases l
      · exact (h.one (.inr he)).resolve_left (by rw [show s.xu.linkA.role = .off from hoff]; exact Role.noConfusion)
      · exact (h.one (.inl he)).resolve_right (by rw [show s.xu.linkB.role = .off from hoff]; exact Role.noConfusion)
    · cases hr
  · exact h.primary_of_standby hr

/-! ### The queue of the disabled PRIMARY link -/

theorem apart_abandoned {rs : List Record} (h : Apart rs) : Apart (abandoned rs) := by
  refine List.Pairwise.filterMap _ ?_ h
  intro r w hrw r' hr' w' hw' hrf hwf
  have hkeep : ∀ (y y' : Record), (if y.state = .onAir then
      if y.detached = true ∨ y.ackedOnAir = true ∨ placeTaken rs y then none
      else some { y with state := .queued, ackedOnAir := false }
    else some y) = some y' → y'.inFlight = true → y' = y := fun y y' hy hf => by
    split at hy
    · split at hy
      · cases hy
      · cases hy
        cases hf
    · cases hy
      rfl
  have h1 := hkeep r r' hr' hrf
  have h2 := hkeep w w' hw' hwf
  subst h1 h2
  exact hrw hrf hwf

/-! ### The two commands -/

/-- The links after an entry into SEARCH without a burst. -/
theorem linkOf_enterSearch (hb : s.ssu.burst = none) (m : Link) :
    linkOf (enterSearch s) m = (linkOf s m).scanned m s.ft.tick false := by
  obtain ⟨w, he, -⟩ := enterSearch_spec s
  rw [he, burstOn_none hb, burstOn_none hb]
  cases m <;> rfl

/-- An entry into SEARCH beside the links (R96). -/
theorem enterSearch_effects (s : State) :
    let t := enterSearch s
    t.ssu = { s.ssu with grants := [], contention := [] } ∧ t.ab.restart = true ∧ t.ft.lock = .search ∧
    (s.ft.lock ≠ .search → t.ft.next = none ∧ t.ft.window = none) ∧ t.xu.dwell = none ∧
    t.mae.publication = s.mae.publication ∧ t.uq.joinSeq = s.uq.joinSeq ∧
    (s.xu.forcedProvision = none → t.uq = returnedQueue s.uq) := by
  obtain ⟨w, he, hw⟩ := enterSearch_spec s
  obtain ⟨ft, mae', hd, hlock, hnext, -, -, -, -, hpub⟩ := dropTiming_eq s
  obtain ⟨uq, mae, au, cu, ha, hm, hq⟩ := answerForced_keeps .noCandidate (searchEntered s)
  have hs : searchEntered s = { s with
      ft := ft, mae := mae', ssu.grants := [], ssu.contention := [], ab.restart := true, uq := returnedQueue s.uq
      xu.dwell := none, xu.watch := none, xu.dwellBeacon := none } := by
    rw [searchEntered, hd]
  intro t
  have ht : t = _ := he
  clear_value t
  subst ht
  rw [ha, hs]
  rw [hs] at hm hq
  refine ⟨rfl, rfl, hlock, fun hl => ⟨(hnext hl).1, hw hl⟩, rfl, hm.trans hpub, hq, fun hp => ?_⟩
  obtain ⟨mae'', cu'', hc, -⟩ := answerForced_command (s := searchEntered s) .noCandidate (by rw [hs]; exact hp)
  have huq : uq = (searchEntered s).uq := by
    have := congrArg State.uq (ha.symm.trans hc)
    exact this
  exact huq.trans (by rw [hs])

theorem handedOver_link (l : Link) (mae : Engine) (s : State) : linkOf (handedOver l mae s) l = (linkOf s l).disabled := by
  cases l <;> rfl

theorem handedOver_other (l : Link) (mae : Engine) (s : State) : linkOf (handedOver l mae s) (otherLink l) =
    if (linkOf s (otherLink l)).enabled then { linkOf s (otherLink l) with role := .primary, a8 := 0 }
    else linkOf s (otherLink l) := by
  cases l <;> rfl

theorem side_handedOver (l : Link) (mae : Engine) (s : State) : side (handedOver l mae s) = side s := by
  rw [handedOver, side_putLink, side_putLink]
  rfl

/-- The links after the PRIMARY link has been disabled: the other one, if it is enabled, has its role and scans (R124, R135). -/
theorem linkOf_searching (l : Link) (mae : Engine) (s : State) :
    let o := linkOf s (otherLink l)
    let p := { o with role := .primary, a8 := 0 }
    let t := enterSearch (handedOver l mae s)
    linkOf t l = (linkOf s l).disabled ∧
    linkOf t (otherLink l) = if o.enabled = false then o
      else if o.condition = .txFault ∨ o.condition = .portFault then p
      else { p with scanExpiry := none }.retuned s.ft.tick (startChannel (otherLink l)) false := by
  have hb : (handedOver l mae s).ssu.burst = none := by
    rw [handedOver, putLink_ssu, putLink_ssu]
  have ht : (handedOver l mae s).ft.tick = s.ft.tick := (side_eq_iff.mp (side_handedOver l mae s)).2.2.2.2.2.1
  intro o p t
  have hl : ∀ m, linkOf t m = (linkOf (handedOver l mae s) m).scanned m s.ft.tick false := fun m => by
    rw [← ht]
    exact linkOf_enterSearch hb m
  rw [hl, hl, handedOver_link, handedOver_other]
  refine ⟨rfl, ?_⟩
  by_cases he : o.enabled = true
  · rw [if_pos he, if_neg (by rw [he]; exact Bool.true_eq_false.mp), LinkState.scanned]
    by_cases hf : o.condition = .txFault ∨ o.condition = .portFault
    · have hu : p.usable = false := (usable_eq_false_iff p).mpr hf
      rw [if_pos hf, if_neg (by rw [hu, Bool.and_false]; exact Bool.false_ne_true)]
    · have hu : p.usable = true := Bool.of_not_eq_false (mt (usable_eq_false_iff p).mp hf)
      rw [if_neg hf, if_pos (Bool.and_eq_true_iff.mpr ⟨he, hu⟩)]
  · rw [if_neg he, if_pos (Bool.eq_false_iff.mpr he), LinkState.scanned, if_neg (fun h => he (Bool.and_eq_true_iff.mp h).1)]

theorem side_disableLink_search (l : Link) (mae : Engine) (s : State) :
    side (raiseRequest .link (enterSearch (handedOver l mae s))) = side { s with ab.restart := true } := by
  rw [side_raiseRequest, side_enterSearch]
  have h := side_handedOver l mae s
  simp only [side, Side.mk.injEq] at h ⊢
  obtain ⟨h1, h2, h3, h4, h5, h6, h7⟩ := h
  exact ⟨h1, h2, h3, h4, by rw [h5], h6, h7⟩

theorem requests_raiseRequest (c : RequestClass) (s : State) :
    (raiseRequest c s).au.requests = s.au.requests ||| requestBit c := by
  rw [raiseRequest, setAttention_eq]

theorem raiseRequest_moves (c : RequestClass) (s : State) : ∃ attention requests,
    raiseRequest c s = { s with mae.attention := attention, au.requests := requests } := by
  rw [raiseRequest, setAttention_eq]
  exact ⟨_, _, rfl⟩

/-- A command's result is its RESULT job's words, with those of the Result Area published before (R184). -/
theorem result_replyCommand (r : ResultCode) (data : List Word) (s : State) : (replyCommand r data s).mae.result =
    some ⟨s.mae.publication, resultWords r (commandInProgress s).1 (commandInProgress s).2 data⟩ := rfl

/-- SET LINK ENABLE that disables the STANDBY link. -/
theorem disableStandby_spec (hr : (linkOf s l).role = .standby) (hb : ∀ b, s.ssu.burst = some b → b.link = otherLink l ∧
      (linkOf s b.link).role = .primary ∧ (b.phase = .prepared → (linkOf s b.link).condition = .ready)) :
    ∃ t, replyCondition l (disableLink l s) = replyCommand .done [0#16] t ∧ linkOf t l = (linkOf s l).disabled ∧
      linkOf t (otherLink l) = linkOf s (otherLink l) ∧ t.xu.dwell = none ∧ t.ram = s.ram ∧ t.ft = s.ft ∧ t.uq = s.uq ∧
      t.ssu = s.ssu ∧ t.ab = s.ab ∧ t.wt = s.wt ∧ t.au = s.au ∧ t.xu.neighbours = s.xu.neighbours := by
  obtain ⟨mae, hd, -⟩ := disableLink_standby hr hb
  have hk : linkOf (disableLink l s) l = (linkOf s l).disabled := by
    rw [hd, linkOf_endDwell, linkOf_putLink_self]
  refine ⟨disableLink l s, ?_, hk, ?_⟩
  · rw [replyCondition, hk]
    rfl
  · rw [hd]
    cases l <;> exact ⟨rfl, rfl, rfl, rfl, rfl, rfl, rfl, rfl, rfl, rfl⟩

/-- SET LINK ENABLE that disables the PRIMARY link. -/
theorem disablePrimary_spec (hr : (linkOf s l).role = .primary) (hb : ∀ b, s.ssu.burst = some b → b.link = l) :
    let t := replyCondition l (disableLink l s)
    t.mae.result = some ⟨s.mae.publication, resultWords .done (commandInProgress s).1 (commandInProgress s).2 [0#16]⟩ ∧
    linkOf t l = (linkOf s l).disabled ∧
    linkOf t (otherLink l) = (let o := linkOf s (otherLink l)
      let p := { o with role := .primary, a8 := 0 }
      if o.enabled = false then o
      else if o.condition = .txFault ∨ o.condition = .portFault then p
      else { p with scanExpiry := none }.retuned s.ft.tick (startChannel (otherLink l)) false) ∧
    (s.xu.forcedProvision = none → t.uq = returnedQueue (if s.ssu.burst = none then s.uq else abandonedQueue s.uq)) ∧
    t.ssu.burst = none ∧ t.ssu.grants = [] ∧ t.ssu.contention = [] ∧ t.ab.restart = true ∧
    t.ft.lock = .search ∧ (s.ft.lock ≠ .search → t.ft.next = none ∧ t.ft.window = none) ∧
    t.xu.dwell = none ∧ t.au.requests &&& requestBit .link ≠ 0#6 ∧
    t.ram = s.ram ∧ t.wt = s.wt ∧ t.ftu = s.ftu ∧ t.dlf = s.dlf := by
  obtain ⟨mae, hd, hpub⟩ := disableLink_primary hr hb
  obtain ⟨hssu, hrestart, hlock, hnext, hdwell, hmae, -, huq⟩ := enterSearch_effects (handedOver l mae s)
  obtain ⟨hlink, hother⟩ := linkOf_searching l mae s
  obtain ⟨hram, hwt, hftu, hdlf, -⟩ := side_eq_iff.mp (side_disableLink_search l mae s)
  have hcip : commandInProgress (enterSearch (handedOver l mae s)) = commandInProgress s := by
    rw [commandInProgress_enterSearch]
    exact commandInProgress_congr (by rw [handedOver, putLink_cu, putLink_cu])
  have hreq := requests_raiseRequest .link (enterSearch (handedOver l mae s))
  obtain ⟨attention, requests, hraise⟩ := raiseRequest_moves .link (enterSearch (handedOver l mae s))
  rw [hraise] at hreq hd hram hwt hftu hdlf
  have hx : ∀ m, linkOf (disableLink l s) m = linkOf (enterSearch (handedOver l mae s)) m := fun m => by
    rw [hd]
    exact linkOf_congr rfl m
  have hlock' : (handedOver l mae s).ft = s.ft := by rw [handedOver, putLink_ft, putLink_ft]
  have hfp : (handedOver l mae s).xu.forcedProvision = s.xu.forcedProvision := by
    rw [handedOver, putLink_forcedProvision, putLink_forcedProvision]
  have hqueue : (handedOver l mae s).uq = if s.ssu.burst = none then s.uq else abandonedQueue s.uq := by
    rw [handedOver, putLink_uq, putLink_uq]
  have hburst : (handedOver l mae s).ssu.burst = none := by rw [handedOver, putLink_ssu, putLink_ssu]
  have hcip' : commandInProgress (disableLink l s) = commandInProgress s := (commandInProgress_congr (by rw [hd])).trans hcip
  have hcond : conditionCode (linkOf (disableLink l s) l).condition = 0 := by
    rw [hx, hlink]
    rfl
  have hmae' : (handedOver l mae s).mae = mae := by rw [handedOver, putLink_mae, putLink_mae]
  rw [hlock'] at hnext
  rw [hfp, hqueue] at huq
  rw [hmae'] at hmae
  intro t
  have ht : t = replyCommand .done [0#16] (disableLink l s) := by
    show replyCommand _ [word _] _ = _
    rw [hcond]
    rfl
  have hl : ∀ m, linkOf t m = linkOf (enterSearch (handedOver l mae s)) m := fun m => by
    rw [ht, ← hx]
    exact linkOf_congr rfl m
  clear_value t
  rw [hl, hl, hlink, hother, ht, result_replyCommand, hcip', hd]
  refine ⟨?_, rfl, rfl, huq, ?_, ?_, ?_, hrestart, hlock, hnext, hdwell, ?_, hram, hwt, hftu, hdlf⟩
  · exact congrArg (fun p => some (⟨p, _⟩ : ResultJob)) (hmae.trans hpub)
  · exact (congrArg SlotService.burst hssu).trans hburst
  · exact congrArg SlotService.grants hssu
  · exact congrArg SlotService.contention hssu
  · exact ne_of_eq_of_ne (congrArg (· &&& _) hreq) (or_and_requestBit_ne _ .link)

/-- The link, its role and the rest of the state as SET LINK ENABLE of value 1 goes on from them. -/
theorem enabling_spec (l : Link) (s : State) : ∃ mae, markEnabled l s =
    putLink l ((linkOf s l).marked (enabledRole s l)) { s with mae := mae } ∧ mae.result = s.mae.result ∧
      mae.publication = s.mae.publication ∧ linkOf (markEnabled l s) l = (linkOf s l).marked (enabledRole s l) ∧
      linkOf (markEnabled l s) (otherLink l) = linkOf s (otherLink l) ∧ (markEnabled l s).ft = s.ft ∧
      (markEnabled l s).cu = s.cu ∧ (∀ m, burstOn (markEnabled l s) m = burstOn s m) ∧
      (markEnabled l s).xu.neighbours = s.xu.neighbours ∧ dwelt (markEnabled l s) = dwelt s := by
  obtain ⟨mae, hm, hr, hp⟩ := markEnabled_eq l s
  refine ⟨mae, hm, hr, hp, ?_⟩
  rw [hm]
  refine ⟨linkOf_putLink_self _ _ _, ?_, putLink_ft _ _ _, putLink_cu _ _ _, fun m => ?_, putLink_neighbours _ _ _, ?_⟩
  · cases l <;> rfl
  · rw [burstOn, putLink_ssu]
    rfl
  · cases l <;> rfl

/-- A SET LINK ENABLE that waits for its TUNE (R136, R185). -/
theorem waits_of_relinked {args : List Word} {ch : BitVec 4} {m : LinkState} (hl : linkOfNumber (argNat args 1) = some l)
    (hv : argNat args 2 = 1) (ht : enableTune (markEnabled l s) l = retuneKind (markEnabled l s) l)
    (hrel : Relinked l (m.retuned s.ft.tick ch (burstOn s l)) (markEnabled l s) (enableMove l (markEnabled l s)))
    (hm : m.condition = ((linkOf s l).marked (enabledRole s l)).condition) :
    let held := decide ((linkOf s l).condition = .tuning) || burstOn s l
    let t := setLinkEnable args s
    t.cu.state = .waiting (commandInProgress s).1 (commandInProgress s).2 (.linkTune l held) ∧
    t.mae.result = s.mae.result ∧ linkOf t l = m.retuned s.ft.tick ch held ∧
    linkOf t (otherLink l) = linkOf s (otherLink l) ∧ t.ram = s.ram ∧ t.uq = s.uq ∧ t.ssu = s.ssu ∧ t.wt = s.wt := by
  obtain ⟨mae, hmark, hr, hp, hlink, hother, hft, hcu, hburst, -⟩ := enabling_spec l s
  have hiff : decide (((linkOf s l).marked (enabledRole s l)).condition = .tuning) = decide ((linkOf s l).condition = .tuning) :=
    decide_eq_decide.mpr (marked_tuning_iff _ _)
  have hkind : enableTune (markEnabled l s) l = some (decide ((linkOf s l).condition = .tuning) || burstOn s l) := by
    rw [ht, retuneKind_eq (by rw [hlink]; exact marked_usable _ _), hlink, hburst, hiff]
  have hretuned : m.retuned s.ft.tick ch (decide ((linkOf s l).condition = .tuning) || burstOn s l) =
      m.retuned s.ft.tick ch (burstOn s l) := by
    rw [← retuned_held _ _ (burstOn s l), hm, hiff]
  have hl' := hrel.link
  have ho' := hrel.other
  intro held t
  have hset : t = (let u := enableMove l (markEnabled l s)
      { u with cu.state := .waiting (commandInProgress u).1 (commandInProgress u).2 (.linkTune l held) }) := by
    show setLinkEnable args s = _
    rw [setLinkEnable_one hl hv, hkind]
  clear_value t
  have hcip : commandInProgress (enableMove l (markEnabled l s)) = commandInProgress s := by
    obtain ⟨w, v, hrel, -⟩ := hrel
    refine commandInProgress_congr ?_
    rw [hrel, putLink_cu]
    exact hcu
  have hx : ∀ k, linkOf t k = linkOf (enableMove l (markEnabled l s)) k := fun k => by
    rw [hset]
    exact linkOf_congr rfl k
  rw [hx, hx, hl', ho', hset]
  dsimp only
  rw [hcip]
  obtain ⟨w, v, hrel, -⟩ := hrel
  refine ⟨rfl, ?_, hretuned.symm, hother, ?_⟩
  · rw [hrel, putLink_mae]
    show (markEnabled l s).mae.result = _
    rw [hmark, putLink_mae]
    exact hr
  · rw [hrel]
    show (putLink l _ _).ram = _ ∧ (putLink l _ _).uq = _ ∧ (putLink l _ _).ssu = _ ∧ (putLink l _ _).wt = _
    rw [putLink_ram, putLink_uq, putLink_ssu, putLink_wt]
    show (markEnabled l s).ram = _ ∧ (markEnabled l s).uq = _ ∧ (markEnabled l s).ssu = _ ∧ (markEnabled l s).wt = _
    rw [hmark, putLink_ram, putLink_uq, putLink_ssu, putLink_wt]
    exact ⟨rfl, rfl, rfl, rfl⟩

/-- Enabling a link in SEARCH: it scans from its start channel. -/
theorem enable_search (hs : s.ft.lock = .search) :
    enableTune (markEnabled l s) l = retuneKind (markEnabled l s) l ∧
    Relinked l ({ (linkOf s l).marked (enabledRole s l) with scanExpiry := none }.retuned s.ft.tick (startChannel l) (burstOn s l))
      (markEnabled l s) (enableMove l (markEnabled l s)) := by
  obtain ⟨mae, hmark, hr, hp, hlink, hother, hft, hcu, hburst, -⟩ := enabling_spec l s
  refine ⟨by rw [enableTune, if_pos (.inl (by rw [hft]; exact hs))], ?_⟩
  have h := startScan_relinked l (markEnabled l s)
  rw [hlink, hft, hburst, LinkState.scanned, if_pos (by rw [marked_usable]; rfl)] at h
  rw [enableMove, if_pos (by rw [hft]; exact hs)]
  exact h

/-- Enabling the PRIMARY link out of SEARCH: it is retuned to its own channel. -/
theorem enable_primary (hs : s.ft.lock ≠ .search) (hr : enabledRole s l = .primary) :
    enableTune (markEnabled l s) l = retuneKind (markEnabled l s) l ∧
    Relinked l (((linkOf s l).marked (enabledRole s l)).retuned s.ft.tick (linkOf s l).channel (burstOn s l))
      (markEnabled l s) (enableMove l (markEnabled l s)) := by
  obtain ⟨mae, hmark, -, hp, hlink, hother, hft, hcu, hburst, -⟩ := enabling_spec l s
  have hrole : (linkOf (markEnabled l s) l).role = .primary := by rw [hlink]; exact hr
  refine ⟨by rw [enableTune, if_pos (.inr hrole)], ?_⟩
  have h := retune_relinked (s := markEnabled l s) (l := l) (by rw [hlink]; exact marked_usable _ _) (linkOf (markEnabled l s) l).channel
  rw [enableMove, if_neg (by rw [hft]; exact hs), if_pos hrole]
  rw [hft, hburst] at h
  rw [hlink] at h ⊢
  exact h

/-- Enabling the STANDBY link out of SEARCH: the dwell follows, with the TUNE it takes to start one. -/
theorem enable_standby (hs : s.ft.lock ≠ .search) (hr : enabledRole s l = .standby) :
    enableMove l (markEnabled l s) = adjustDwell (markEnabled l s) ∧
    enableTune (markEnabled l s) l = match dwellTarget (markEnabled l s) with
      | some n =>
        if ((linkOf s l).marked .standby).condition = .ready ∧ (linkOf s l).channel = n.channel then none
        else retuneKind (markEnabled l s) l
      | none => none := by
  obtain ⟨mae, hmark, -, hp, hlink, hother, hft, hcu, hburst, -⟩ := enabling_spec l s
  rw [hr] at hlink
  have hrole : (linkOf (markEnabled l s) l).role ≠ .primary := by
    rw [hlink]
    exact Role.noConfusion
  refine ⟨by rw [enableMove, if_neg (by rw [hft]; exact hs), if_neg hrole], ?_⟩
  rw [enableTune, if_neg (not_or.mpr ⟨by rw [hft]; exact hs, hrole⟩), hlink]
  rfl

/-- A link with no TUNE to wait for is answered at once, with its condition as data (log 12). -/
theorem setLinkEnable_answered {args : List Word} (hl : linkOfNumber (argNat args 1) = some l) (hv : argNat args 2 = 1)
    (ht : enableTune (markEnabled l s) l = none) (hm : enableMove l (markEnabled l s) = t) (hk : linkOf t l = k) :
    setLinkEnable args s = replyCommand .done [word (conditionCode k.condition)] t := by
  rw [setLinkEnable_one hl hv, ht, hm]
  simp only
  rw [replyCondition, hk]

/-- What enabling keeps beside the link and the dwell. -/
theorem enabling_kept (l : Link) (s : State) : (markEnabled l s).ram = s.ram ∧ (markEnabled l s).xu.dwell = s.xu.dwell ∧
    (markEnabled l s).xu.watch = s.xu.watch := by
  obtain ⟨mae, hmark, -⟩ := markEnabled_eq l s
  rw [hmark, putLink_ram, putLink_dwell, putLink_watch]
  exact ⟨rfl, rfl, rfl⟩

/-- SET LINK ENABLE of value 1 on a link that becomes, or is, STANDBY out of SEARCH. -/
theorem enableStandby_spec {args : List Word} (hl : linkOfNumber (argNat args 1) = some l) (hv : argNat args 2 = 1)
    (hs : s.ft.lock ≠ .search) (hr : enabledRole s l = .standby) :
    let marked := (linkOf s l).marked .standby
    let code := word (conditionCode marked.condition)
    let held := decide ((linkOf s l).condition = .tuning) || burstOn s l
    ((∀ n ∈ s.xu.neighbours, n.zone = s.ft.zone) → ∃ t, setLinkEnable args s = replyCommand .done [code] t ∧
      linkOf t l = marked ∧ t.xu.dwell = none ∧ t.ft = s.ft ∧ t.ram = s.ram) ∧
    (∀ n, RolesOk s → dwelt s = some n → n.zone ≠ s.ft.zone → ∃ t, setLinkEnable args s = replyCommand .done [code] t ∧
      linkOf t l = marked ∧ linkOf t (otherLink l) = linkOf s (otherLink l) ∧ t.xu.dwell = s.xu.dwell ∧
      t.xu.watch = s.xu.watch ∧ t.xu.neighbours = s.xu.neighbours ∧ t.ft = s.ft ∧ t.ram = s.ram) ∧
    (∀ x, RolesOk s → (∀ n, dwelt s = some n → n.zone = s.ft.zone) →
      s.xu.neighbours.find? (fun y => decide (y.zone ≠ s.ft.zone)) = some x →
      ∃ t, DwellStarted l marked x s t ∧ t.ft = s.ft ∧ t.ram = s.ram ∧
        (marked.condition = .ready ∧ (linkOf s l).channel = x.channel → setLinkEnable args s = replyCommand .done [code] t) ∧
        (¬(marked.condition = .ready ∧ (linkOf s l).channel = x.channel) → setLinkEnable args s = t ∧
          t.cu.state = .waiting (commandInProgress s).1 (commandInProgress s).2 (.linkTune l held) ∧
          t.mae.result = s.mae.result)) := by
  intro marked code held
  obtain ⟨hmove, htune⟩ := enable_standby hs hr
  obtain ⟨hram, hdwell, hwatch⟩ := enabling_kept l s
  obtain ⟨mae, hmark, hmr, hp, hlink, hother, hft, hcu, hburst, hneigh, hdwelt⟩ := enabling_spec l s
  rw [hr] at hlink
  have hdw : RolesOk s → dwellingLink (markEnabled l s) = some l := fun hroles =>
    dwellingLink_of (by rw [hlink]; rfl) (by rw [hother]; exact other_primary_of_enabledRole hroles hr) (by rw [hlink]; rfl)
      (by rw [hlink]; exact marked_usable _ _) (by rw [hft]; exact hs)
  have heligible : ∀ n : Neighbour, n.eligible (markEnabled l s).ft.zone = true ↔ n.zone ≠ s.ft.zone := fun n => by
    rw [hft]
    exact eligible_iff _ n
  have hnotEligible : (∀ n, dwelt s = some n → n.zone = s.ft.zone) →
      dwellTarget (markEnabled l s) = (markEnabled l s).xu.neighbours.find? (Neighbour.eligible (markEnabled l s).ft.zone) := fun h => by
    rw [dwellTarget, hdwelt]
    cases hd : dwelt s with
    | none => rfl
    | some n => exact if_neg (by rw [heligible]; exact not_not.mpr (h n hd))
  refine ⟨fun hall => ?_, fun n hroles hn he => ?_, fun x hroles hn hx => ?_⟩
  · have hnone : dwellTarget (markEnabled l s) = none := by
      rw [hnotEligible fun n hn => hall n (dwelt_mem hn), List.find?_eq_none]
      intro n hm
      rw [heligible]
      exact not_not.mpr (hall n (by rw [← hneigh]; exact hm))
    rw [hnone] at htune
    have hends : enableMove l (markEnabled l s) = endDwell (markEnabled l s) :=
      hmove.trans (adjustDwell_ends (by rw [hneigh, hft]; exact hall))
    have hk : linkOf (endDwell (markEnabled l s)) l = marked := (linkOf_endDwell _ l).trans hlink
    exact ⟨_, setLinkEnable_answered hl hv htune hends hk, hk, rfl, hft, hram⟩
  · have hnone : dwellTarget (markEnabled l s) = none := by
      rw [dwellTarget, hdwelt, hn]
      exact if_pos ((heligible n).mpr he)
    rw [hnone] at htune
    have hkeeps : enableMove l (markEnabled l s) = markEnabled l s :=
      hmove.trans (adjustDwell_keeps (hdw hroles) (by rw [hdwelt]; exact hn) (by rw [hft]; exact he))
    exact ⟨_, setLinkEnable_answered hl hv htune hkeeps hlink, hlink, hother, hdwell, hwatch, hneigh, hft, hram⟩
  · have htarget : dwellTarget (markEnabled l s) = some x := by
      rw [hnotEligible hn, hft, hneigh]
      exact hx
    rw [htarget] at htune
    have hstarts : enableMove l (markEnabled l s) = startDwell l x (markEnabled l s) :=
      hmove.trans (adjustDwell_starts (hdw hroles) (by rw [hdwelt, hft]; exact hn) (by rw [hneigh, hft]; exact hx))
    have hrole : (linkOf (markEnabled l s) l).role ≠ .primary := by
      rw [hlink]
      exact Role.noConfusion
    have hu : (linkOf (markEnabled l s) l).usable = true := by
      rw [hlink]
      exact marked_usable _ _
    obtain ⟨h1, h2, h3, h4, h5, h6⟩ := startDwell_started hrole hu x
    obtain ⟨hft', huq', -, -, hmae', -, hcu', hram', -⟩ := (startDwell_moved hrole x).same
    rw [hneigh] at h4
    rw [hother] at h5
    rw [hlink, hft, hburst] at h6
    by_cases hc : marked.condition = .ready ∧ (linkOf s l).channel = x.channel
    · have htune' : enableTune (markEnabled l s) l = none := htune.trans (if_pos hc)
      have hk : linkOf (startDwell l x (markEnabled l s)) l = marked := h6.trans (if_pos hc)
      exact ⟨_, ⟨h1, h2, h3, h4, h5, h6⟩, hft'.trans hft, hram'.trans hram,
        fun _ => setLinkEnable_answered hl hv htune' hstarts hk, fun h => absurd hc h⟩
    · have hiff : decide (((linkOf s l).marked .standby).condition = .tuning) = decide ((linkOf s l).condition = .tuning) :=
        decide_eq_decide.mpr (marked_tuning_iff _ _)
      have htune' : enableTune (markEnabled l s) l = some held := by
        rw [htune]
        refine (if_neg hc).trans ?_
        rw [retuneKind_eq hu, hlink, hburst, hiff]
      have hcip : commandInProgress (startDwell l x (markEnabled l s)) = commandInProgress s :=
        commandInProgress_congr (hcu'.trans hcu)
      have hset : setLinkEnable args s = { startDwell l x (markEnabled l s) with
          cu.state := .waiting (commandInProgress s).1 (commandInProgress s).2 (.linkTune l held) } := by
        rw [setLinkEnable_one hl hv, htune', hstarts]
        dsimp only
        rw [hcip]
      refine ⟨setLinkEnable args s, ?_, ?_, ?_, fun h => absurd h hc, fun _ => ⟨rfl, ?_, ?_⟩⟩
      · rw [hset]
        exact ⟨h1, h2, h3, h4, (linkOf_congr rfl _).trans h5, (linkOf_congr rfl _).trans h6⟩
      · rw [hset]
        exact hft'.trans hft
      · rw [hset]
        exact hram'.trans hram
      · rw [hset]
      · rw [hset]
        exact (congrArg Engine.result hmae').trans (by rw [hmark, putLink_mae]; exact hmr)

/-- Settles O43. -/
theorem linkCommands : Obligations.LinkCommands := by
  intro dt w before s ha
  refine ⟨fun h => ?_, fun h => ?_⟩
  · intro u tag number value
    obtain ⟨args, hargs⟩ : ∃ args, args = (s.bpu.copy.drop 1).take 15 := ⟨_, rfl⟩
    have hx : exec (.setLinkEnable dt w) before = .next (setLinkEnable args u) := by
      rw [← runCommand_setLinkEnable (s := u) h.normal args, hargs]
      exact exec_commandRows_run (p := (codeSetLinkEnable, .setLinkEnable)) (by simp [commandRows]) ha h
    have hnumber : argNat args 1 = number := by rw [hargs]; exact argNat_copy s (by decide) (by decide)
    have hvalue : argNat args 2 = value := by rw [hargs]; exact argNat_copy s (by decide) (by decide)
    have hcip : commandInProgress u = (codeSetLinkEnable, tag) := rfl
    have hxu : ∀ m, linkOf u m = linkOf s m := linkOf_congr rfl
    rw [hx]
    refine ⟨fun hn => ?_, fun hn hv => ?_, fun l hl => ?_⟩
    · have hnone : linkOfNumber number = none := by
        rw [linkOfNumber, if_neg (by omega), if_neg (by omega)]
      rw [setLinkEnable, hnumber, hnone]
    · have hsome : ∃ l, linkOfNumber number = some l := by
        obtain h0 | h1 : number = 0 ∨ number = 1 := by omega
        · exact ⟨.a, by rw [h0]; rfl⟩
        · exact ⟨.b, by rw [h1]; rfl⟩
      obtain ⟨l, hl⟩ := hsome
      rw [setLinkEnable, hnumber, hl]
      simp only [hvalue]
      rw [if_neg (by omega), if_neg (by omega)]
    · intro k off
      have hl' : linkOfNumber (argNat args 1) = some l := by rw [hnumber]; exact hl
      refine ⟨fun hv => ?_, fun hv => ?_⟩
      · rw [setLinkEnable_zero hl' (by rw [hvalue]; exact hv)]
        refine ⟨fun hr => ?_, fun hr hb => ?_, fun hr hroles hb => ?_⟩
        · rw [if_pos (by rw [hxu]; exact hr), replyCondition, hxu]
        · rw [if_neg (by rw [hxu]; show ¬k.role = _; rw [hr]; exact Role.noConfusion)]
          obtain ⟨t, ht, hrest⟩ := disableStandby_spec (s := u) (l := l) (by rw [hxu]; exact hr) (fun b hb' => by rw [hxu]; exact hb b hb')
          exact ⟨t, congrArg _ ht, hrest⟩
        · rw [if_neg (by rw [hxu]; show ¬k.role = _; rw [hr]; exact Role.noConfusion)]
          obtain ⟨hresult, hlink, hother, hqueue, hrest⟩ := disablePrimary_spec (s := u) (l := l) (by rw [hxu]; exact hr) hb
          refine ⟨_, rfl, hresult, hlink, ?_, fun hnb hfp hap => ?_, fun hnb hfp hap => ?_, hrest⟩
          · rw [hother]
            simp only [hxu]
            rfl
          · have hq : _ = returnedQueue s.uq := (hqueue hfp).trans (congrArg _ (if_pos hnb))
            rw [hq, returnedQueue, settleRecords_return hap]
            exact ⟨rfl, min_comm _ _⟩
          · have hq : _ = returnedQueue (abandonedQueue s.uq) := (hqueue hfp).trans (congrArg _ (if_neg hnb))
            rw [hq, returnedQueue, abandonedQueue, settleRecords_abandon hap, settleRecords_return (apart_abandoned hap)]
      · intro role marked held code waits
        have hv' : argNat args 2 = 1 := by rw [hvalue]; exact hv
        have hrole : enabledRole u l = role := by
          rw [enabledRole, hxu, hxu]
        have hmarked : (linkOf u l).marked (enabledRole u l) = marked := by
          rw [hxu, hrole]
          rfl
        refine ⟨fun hs => ?_, fun hs hr => ?_, fun hs hr => ?_⟩
        · obtain ⟨htune, hrel⟩ := enable_search (s := u) (l := l) hs
          obtain ⟨hcu, hresult, hlink, hother, hram, huq, hssu, hwt⟩ := waits_of_relinked hl' hv' htune hrel rfl
          rw [hmarked, hxu] at hlink
          rw [hxu] at hcu hother
          exact ⟨_, ⟨rfl, hcu, hresult⟩, hlink, hother, hram, huq, hssu, hwt⟩
        · obtain ⟨htune, hrel⟩ := enable_primary (s := u) (l := l) hs (hrole.trans hr)
          obtain ⟨hcu, hresult, hlink, hother, hram, huq, hssu, -⟩ := waits_of_relinked hl' hv' htune hrel rfl
          rw [hmarked, hxu] at hlink
          rw [hxu] at hcu hother
          exact ⟨_, ⟨rfl, hcu, hresult⟩, hlink, hother, hram, huq, hssu⟩
        · obtain ⟨hends, hkeeps, hstarts⟩ := enableStandby_spec (s := u) hl' hv' hs (hrole.trans hr)
          have hmarked' : (linkOf u l).marked .standby = marked := by
            rw [← hmarked, hrole, hr]
          rw [hmarked'] at hends hkeeps hstarts
          rw [hxu] at hstarts
          have hrolesU : RolesOk s → RolesOk u := rolesOk_of_roles rfl
          refine ⟨fun hall => ?_, fun n hroles hn he => ?_, fun x hroles hn hx => ?_⟩
          · obtain ⟨t, ht, hrest⟩ := hends hall
            exact ⟨t, congrArg _ ht, hrest⟩
          · obtain ⟨t, ht, hrest⟩ := hkeeps n (hrolesU hroles) hn he
            rw [hxu] at hrest
            exact ⟨t, congrArg _ ht, hrest⟩
          · obtain ⟨t, hstarted, hft, hram, hready, hwaits⟩ := hstarts x (hrolesU hroles) hn hx
            refine ⟨t, hstarted, hft, hram, fun hc => congrArg _ (hready hc), fun hc => ?_⟩
            obtain ⟨hset, hcu, hresult⟩ := hwaits hc
            exact ⟨congrArg _ hset, hcu, hresult⟩
  · intro u
    have hx : exec (.forceCrossover dt w) before = .next (forceCommand u) := by
      rw [← runCommand_forceCrossover (s := u) h.normal ((s.bpu.copy.drop 1).take 15)]
      exact exec_commandRows_run (p := (codeForceCrossover, .forceCrossover)) (by simp [commandRows]) ha h
    rw [hx]
    exact ⟨fun hs => congrArg _ (if_pos hs), fun hs => congrArg _ (if_neg hs)⟩

end Sys2Proof.Machine
end

section
/-! SUPPORT. The standby watch. -/

-- One proof is checked after another: each worker thread of Lean reserves memory of its own.
set_option Elab.async false

namespace Sys2Proof.Machine

variable {s : State} {l : Link} {status : Byte} {burst : List Byte} {a p : Tick} {q : Nat} {b : Beacon} {x : Neighbour} {w : WatchWindow}

/-! ### A report of the STANDBY link -/

/-- A report of the STANDBY link ends no wait of the beacon-window close (R84). -/
theorem releaseClose_standby (h : (linkOf s l).role = .standby) : releaseClose l s = s :=
  if_neg (by rw [h]; exact Role.noConfusion)

theorem routeReport_standby {arrival : Option Tick} (hlock : s.ft.lock ≠ .search) (hr : (linkOf s l).role = .standby)
    (hc : (linkOf s l).condition = .ready) (hgood : status.getLsbD 7 = true) :
    routeReport l arrival status burst s = watchReport arrival (reportQuality status) burst s := by
  rw [routeReport, if_neg hlock, hr]
  exact if_pos ⟨hc, hgood⟩

/-- Only a whole beacon of the dwelt zone with its arrival tick reaches the watch (R128). -/
theorem watchReport_set_aside {arrival : Option Tick} (hx : dwelt s = some x) (h : arrival = none ∨ ∀ b, parseBurst burst = .beacon b →
    b.zone ≠ x.zone ∨ ¬(40000 ≤ b.period ∧ b.period ≤ 1000000 ∧ 4 ≤ b.slots ∧ b.slots ≤ 64 ∧ 2000 ≤ b.period / b.slots)) :
    watchReport arrival q burst s = s := by
  unfold watchReport
  split
  · next b a y hb hy =>
    obtain rfl : x = y := Option.some.inj (hx.symm.trans hy)
    obtain hn | hn := h
    · cases hn
    · refine if_neg fun hw => ?_
      obtain ⟨hwell, hz⟩ := Bool.and_eq_true_iff.mp hw
      exact (hn b hb).elim (fun hne => hne (of_decide_eq_true hz)) fun hne => hne ((wellFormed_iff b).mp hwell)
  · rfl

/-- A whole beacon of the dwelt zone is used (R128). -/
theorem watchReport_used (hx : dwelt s = some x) (hb : parseBurst burst = .beacon b) (hz : b.zone = x.zone)
    (hw : Beacon.wellFormed b.period b.slots = true) : watchReport (some a) q burst s = watchBeacon a q b x s := by
  have hc : (Beacon.wellFormed b.period b.slots && decide (b.zone = x.zone)) = true := by
    rw [hw, hz, Bool.true_and, decide_eq_true rfl]
  simp only [watchReport, hb, hx, hc, if_true]

/-- What every used beacon gives: the heard mark and the Dwell Beacon (R128). -/
def heardBeacon (b : Beacon) (s : State) : State :=
  { s with
    xu.dwell := s.xu.dwell.map fun d => { d with heard := true }
    xu.dwellBeacon := some ⟨b.frame, b.period, b.slots⟩ }

theorem watchBeacon_first (h : x.predicted = none) : watchBeacon a q b x s = predictFrom x.zone a id (heardBeacon b s) := by
  rw [watchBeacon, h]
  rfl

theorem watchBeacon_off (h : x.predicted = some p) (hp : withinTicks a p Config.wideHalf = false) :
    watchBeacon a q b x s = predictFrom x.zone a (fun n => { n with good := 0 }) (heardBeacon b s) := by
  rw [watchBeacon, h]
  exact if_neg (Bool.eq_false_iff.mp hp)

theorem watchBeacon_second (h : x.predicted = some p) (hp : withinTicks a p Config.wideHalf = true) (hw : s.xu.watch = some w)
    (ht : w.taken = true) : watchBeacon a q b x s = heardBeacon b s := by
  rw [watchBeacon, h]
  refine (if_pos hp).trans ?_
  rw [hw]
  exact if_pos ht

theorem watchBeacon_taken (h : x.predicted = some p) (hp : withinTicks a p Config.wideHalf = true) (hw : s.xu.watch = some w)
    (ht : w.taken = false) : watchBeacon a q b x s = mapNeighbour x.zone (fun n => { n with lastArrival := some a })
      { heardBeacon b s with xu.watch := some { w with taken := true, quality := q } } := by
  rw [watchBeacon, h]
  refine (if_pos hp).trans ?_
  rw [hw]
  exact if_neg (by rw [Option.getD_some, ht]; exact Bool.false_ne_true)

/-! ### The watch close -/

theorem openWatch_of (hx : dwelt s = some x) (hw : s.xu.watch = some w) (hp : x.predicted = some p) : openWatch s = some (x, p, w) := by
  rw [openWatch, hx, hw]
  simp only [hp, Option.map_some]

theorem watchDue_of (h : openWatch s = some (x, p, w)) (hw : w.wait ≠ .waiting) : dueTick s .watchClose = some (p + 2000#32) := by
  show watchDue s = _
  simp only [watchDue, h, Option.bind_some]
  cases hwait : w.wait with
  | notWaiting => rfl
  | waiting => exact absurd hwait hw
  | ended => rfl

theorem watchDue_waiting (h : openWatch s = some (x, p, w)) (hw : w.wait = .waiting) : dueTick s .watchClose = none := by
  show watchDue s = _
  simp only [watchDue, h, Option.bind_some, hw]

theorem watchTimeoutDue_of (h : openWatch s = some (x, p, w)) (hw : w.wait = .waiting) :
    dueTick s .watchTimeout = some (p + 22000#32) := by
  show watchTimeoutDue s = _
  simp only [watchTimeoutDue, h, Option.bind_some, hw]
  rfl

/-- A watch close changes the dwelt entry and opens the window again (R129). -/
theorem closeWatch_eq (zone : Byte) (w : WatchWindow) (s : State) : closeWatch zone w s = { s with
    xu.watch := some ⟨false, 0, .notWaiting⟩
    xu.neighbours := s.xu.neighbours.map fun n : Neighbour =>
      if n.zone ≠ zone then n
      else if w.taken = true then { n with
        a8 := n.a8 - n.a8 / 8 + w.quality, good := min 255 (n.good + 1)
        predicted := n.lastArrival.map fun a => a + BitVec.ofNat 32 s.ft.period }
      else { n with
        a8 := n.a8 - n.a8 / 8, good := 0
        predicted := n.predicted.map fun a => a + BitVec.ofNat 32 s.ft.period } } := by
  have hn : ∀ n : Neighbour, (if n.zone = zone then judgeWatch w s.ft.period n else n) = if n.zone ≠ zone then n
      else if w.taken = true then { n with
        a8 := n.a8 - n.a8 / 8 + w.quality, good := min 255 (n.good + 1)
        predicted := n.lastArrival.map fun a => a + BitVec.ofNat 32 s.ft.period }
      else { n with
        a8 := n.a8 - n.a8 / 8, good := 0
        predicted := n.predicted.map fun a => a + BitVec.ofNat 32 s.ft.period } := fun n => by
    rw [ite_not]
    rfl
  show { s with
    xu.watch := some WatchWindow.fresh
    xu.neighbours := s.xu.neighbours.map fun n : Neighbour => if n.zone = zone then judgeWatch w s.ft.period n else n } = _
  rw [funext hn]
  rfl

theorem fallWatch_waits (h : openWatch s = some (x, p, w)) (hw : w.wait = .notWaiting) (hp : watchPending p s = true) :
    fallWatch s = { s with xu.watch := some { w with wait := .waiting } } := by
  simp only [fallWatch, h, hw, hp, if_true]

theorem fallWatch_occurs (h : openWatch s = some (x, p, w)) (hw : (w.wait = .notWaiting ∧ watchPending p s = false) ∨ w.wait = .ended) :
    fallWatch s = closeWatch x.zone w s := by
  obtain ⟨hw, hp⟩ | hw := hw
  · simp only [fallWatch, h, hw, hp, Bool.false_eq_true, if_false]
  · simp only [fallWatch, h, hw]

/-- Settles O55. -/
theorem watchWindows : Obligations.WatchWindows := by
  refine ⟨?_, fun c x p w before s hx hw hp => ?_⟩
  · intro dt l status burst x before s h hlock hr hc _ hgood hx paired gives change
    obtain ⟨u, hu⟩ : ∃ u, u = paired := ⟨_, rfl⟩
    have hlink : linkOf u l = { linkOf s l with held := none } := by rw [hu]; exact linkOf_putLink_self ..
    have hft : u.ft = s.ft := by rw [hu]; exact putLink_ft ..
    have hdwelt : dwelt u = some x := by
      rw [← hx, hu]
      cases l <;> rfl
    have hgive : ∀ t : State, watchReport (linkOf s l).held (reportQuality status) burst u = t → (linkOf t l).role = .standby →
        gives t := fun t ht hstandby => by
      have hroute : routeReport l (linkOf s l).held status burst u = t :=
        (routeReport_standby (by rw [hft]; exact hlock) (by rw [hlink]; exact hr) (by rw [hlink]; exact hc) hgood).trans ht
      rw [hu] at hroute
      refine (exec_received h).trans ?_
      rw [show routeReport l _ status burst (putLink l _ (elapse dt before)) = t from hroute, releaseClose_standby hstandby]
    refine ⟨fun a b ha hb hz h1 h2 h3 h4 h5 => ?_, fun hn => ?_⟩
    · intro next used
      have hbeacon : watchReport (linkOf s l).held (reportQuality status) burst u = watchBeacon a (reportQuality status) b x u := by
        rw [ha]
        exact watchReport_used hdwelt hb hz ((wellFormed_iff b).mpr ⟨h1, h2, h3, h4, h5⟩)
      have hused : heardBeacon b u = used := by
        rw [hu]
        cases l <;> rfl
      have hwatch : u.xu.watch = s.xu.watch := by rw [hu]; exact putLink_watch ..
      have hlinked : ∀ t : State, linkOf t l = linkOf u l → (linkOf t l).role = .standby := fun t ht => by
        rw [ht, hlink]
        exact hr
      have hpredict : ∀ f, predictFrom x.zone a f (heardBeacon b u) = { used with
          xu.watch := some ⟨false, 0, .notWaiting⟩
          xu.neighbours := change fun n => f { n with lastArrival := some a, predicted := next } } := fun f => by
        rw [hu]
        cases l <;> rfl
      have htaken : ∀ w, mapNeighbour x.zone (fun n => { n with lastArrival := some a }) { heardBeacon b u with xu.watch := some w } =
          { used with
            xu.watch := some w
            xu.neighbours := change fun n => { n with lastArrival := some a } } := fun w => by
        rw [hu]
        cases l <;> rfl
      refine ⟨fun hp => ?_, fun p w hp hw => ?_⟩
      · have := hgive _ (hbeacon.trans (watchBeacon_first hp)) (hlinked _ (by cases l <;> rfl))
        rw [hpredict] at this
        exact this
      · intro error
        have hin : withinTicks a p Config.wideHalf = true ↔ -2000 ≤ error ∧ error ≤ 2000 := withinTicks_iff a p 2000
        refine ⟨fun hlo hhi => ⟨fun ht => ?_, fun ht => ?_⟩, fun hout => ?_⟩
        · have := hgive _ (hbeacon.trans (watchBeacon_taken hp (hin.mpr ⟨hlo, hhi⟩) (hwatch.trans hw) ht)) (hlinked _ (by cases l <;> rfl))
          rw [htaken] at this
          exact this
        · have := hgive _ (hbeacon.trans (watchBeacon_second hp (hin.mpr ⟨hlo, hhi⟩) (hwatch.trans hw) ht)) (hlinked _ (by cases l <;> rfl))
          rw [hused] at this
          exact this
        · have := hgive _ (hbeacon.trans (watchBeacon_off hp (Bool.eq_false_iff.mpr fun hw => by have := hin.mp hw; omega)))
            (hlinked _ (by cases l <;> rfl))
          rw [hpredict] at this
          exact this
    · have := hgive u (by exact watchReport_set_aside hdwelt hn) (by rw [hlink]; exact hr)
      rw [hu] at this
      exact this
  · intro judged
    have ho : openWatch s = some (x, p, w) := openWatch_of hx hw hp
    have hjudged : closeWatch x.zone w s = judged := closeWatch_eq ..
    refine ⟨fun hrow hreach hdue => ?_, fun hrow hreach hwait hdue => ?_, fun hs hwait => ?_⟩
    · have hoccur : w.wait ≠ .waiting → exec c before = .next (fallWatch s) := fun hwait => by
        rw [hrow, hreach]
        rw [hreach] at ho hdue
        exact congrArg _ (takeEvent_due (e := .watchClose) (watchDue_of ho hwait) hdue)
      refine ⟨fun hwait hpend => ?_, fun hwait hpend => ?_, fun hwait => ?_⟩
      · rw [hoccur (by rw [hwait]; exact CloseWait.noConfusion), fallWatch_waits ho hwait hpend]
      · rw [hoccur (by rw [hwait]; exact CloseWait.noConfusion), fallWatch_occurs ho (.inl ⟨hwait, hpend⟩), ← hjudged]
      · rw [hoccur (by rw [hwait]; exact CloseWait.noConfusion), fallWatch_occurs ho (.inr hwait), ← hjudged]
    · rw [hrow, ← hjudged]
      have htimeout : watchTimeout s = closeWatch x.zone w s := by
        rw [watchTimeout, ho]
        simp only [hwait]
      rw [← htimeout, hreach]
      rw [hreach] at ho hdue
      exact congrArg _ (takeEvent_due (e := .watchTimeout) (watchTimeoutDue_of ho hwait) hdue)
    · subst hs
      exact congrArg _ (takeEvent_absent (watchDue_waiting ho hwait))

end Sys2Proof.Machine
end

section
/-! SUPPORT. The close of a beacon window beside a waiting JOIN that is detached. -/

-- One proof is checked after another: each worker thread of Lean reserves memory of its own.
set_option Elab.async false

namespace Sys2Proof.Machine

/-- A JOIN that is QUEUED and detached. No event of the manual makes one (R57 detaches ON_AIR records alone), but the
obligation's hypotheses do not exclude it. -/
def detachedJoin : Record := { internalRecord .join 0xF0#8 1#8 .urgent 0#6 [] with detached := true }

/-- The window of the detached JOIN's state, taken, its wait over, as its close falls due. -/
def windowTaken : BeaconWindow := ⟨1000#32, 500, 150, true, 40, true, .ended⟩

/-- LOCKED without a grant, the detached JOIN alone in the queue, as the window's close falls due. -/
def besideDetachedJoin : State :=
  { State.reset with
    porn := true
    uq.records := [detachedJoin]
    ft := { FrameTimer.reset with
      tick := 1500#32, next := some 200000#32, period := 200000, slots := 16, slotLength := 12500, zone := 13#8,
      lock := .locked, nextSlot := 16, window := some windowTaken } }

theorem reachEvent_besideDetachedJoin : reachEvent .windowClose besideDetachedJoin = besideDetachedJoin := by
  have hfirst : firstDue besideDetachedJoin = some (.windowClose, 0) := by decide
  exact reachEvent_now (d := 0) (by decide) (Int.le_refl 0) fun f c h => by
    rw [hfirst] at h
    cases h
    exact Int.le_refl 0

/-- The JOIN test of the close does not count a detached JOIN, and the offer of the new JOIN merges into it (R63, R71). -/
theorem records_besideDetachedJoin : (takeEvent .windowClose besideDetachedJoin).uq.records =
    [{ detachedJoin with created := 0#6 }] := by
  decide

/-- Refutes O54: a waiting JOIN that is detached counts for no JOIN at the close, yet it is QUEUED, so the new JOIN
renews it in its place and does not join at the tail. -/
theorem not_beaconWindows : ¬ Obligations.BeaconWindows := by
  rintro ⟨-, -, -, hclose⟩
  have hjoins : ¬∃ r ∈ timedOut 0#6 [detachedJoin], r.kind = .join ∧ r.detached = false := by decide
  obtain ⟨t, ht, -, -, -, -, -, -, hqueue, -⟩ := hclose .beaconWindowClose windowTaken besideDetachedJoin besideDetachedJoin rfl
    (.inl ⟨rfl, reachEvent_besideDetachedJoin.symm, .inr rfl, by decide⟩)
  obtain rfl : takeEvent .windowClose besideDetachedJoin = t := Host.Outcome.next.inj ht
  have hrecords := (hqueue (List.pairwise_singleton _ _) (fun h => Bool.noConfusion h.1)).2 rfl hjoins (by decide)
  rw [records_besideDetachedJoin] at hrecords
  exact absurd (congrArg List.length hrecords) (by decide)

end Sys2Proof.Machine
end

section
/-! SUPPORT. The values of the words the engine writes. -/

-- One proof is checked after another: each worker thread of Lean reserves memory of its own.
set_option Elab.async false

namespace Sys2Proof.Machine

variable {s : State}

/-! ### The Attention Word (R173) -/

/-- The Attention Word names the highest class requested and permitted, or none. -/
theorem attentionValue_spec (au : Attention) :
    let both := fun (n : Nat) => au.requests.getLsbD n && au.permissions.getLsbD n
    (∀ n < 6, both n = true → (∀ m < n, both m = false) → attentionValue au = BitVec.ofNat 16 (n + 1)) ∧
    ((∀ n < 6, both n = false) → attentionValue au = 0x00FF#16) := by
  intro both
  have hv : attentionValue au = if both 0 then 1#16 else if both 1 then 2#16 else if both 2 then 3#16 else if both 3 then 4#16
      else if both 4 then 5#16 else if both 5 then 6#16 else 0x00FF#16 := by
    simp only [attentionValue, BitVec.getLsbD_and, both]
  rw [hv]
  refine ⟨fun n hn hb hlow => ?_, fun h => ?_⟩
  · interval_cases n
    all_goals simp [hb, hlow]
  · simp [h]

/-! ### The Stop Slot and an inbound record (Table 11-6) -/

theorem stopSlotKind_eq (st : StopState) :
    stopSlotKind st = if st.recorded = false then 0#8 else if st.kind = .hold then 1#8 else 2#8 := by
  unfold stopSlotKind
  cases st.recorded
  · rfl
  · cases st.kind <;> rfl

theorem ringCode_eq (c : RingClass) : ringCode c = if c = .command then 1#8 else 2#8 := by
  cases c <;> rfl

/-- Four words and then twenty-eight of bytes. -/
theorem slotWords_spec (a b c d : Word) (bs : List Byte) :
    let ws := [a, b, c, d] ++ (List.range 28).map (byteWord bs)
    ws.length = 32 ∧ ws.take 4 = [a, b, c, d] ∧
      ∀ k < 28, ws.getD (4 + k) 0#16 = (bs.getD (2 * k + 1) 0#8 ++ bs.getD (2 * k) 0#8 : BitVec 16) := by
  refine ⟨by simp, by simp, fun k hk => ?_⟩
  have hlen : ([a, b, c, d] : List Word).length ≤ 4 + k := by simp
  rw [List.getD_eq_getElem?_getD, List.getElem?_append_right hlen]
  simp [hk]
  rfl

/-! ### The Status Block (Table 11-5) -/

theorem entryStore_sum (wt : List (Option Entry)) : (wt.map entryStore).sum =
    (((wt.filterMap id).filter fun e => e.body.isCapture).map Entry.length).sum := by
  induction wt with
  | nil => rfl
  | cons e rest ih =>
    cases e with
    | none => simpa [entryStore] using ih
    | some e =>
      cases hb : e.body <;> simp [entryStore, EntryBody.isCapture, hb, ih]

theorem linkA8_eq (s : State) (l : Link) : linkA8 s l = match (linkOf s l).role with
    | .primary => (linkOf s l).a8
    | .standby => ((s.xu.dwell.bind fun d => s.xu.neighbours.find? fun n => decide (n.zone = d.zone)).map Neighbour.a8).getD 0
    | .off => 0 := by
  unfold linkA8 dwelt neighbourOf
  cases (linkOf s l).role
  · rfl
  · cases s.xu.dwell with
    | none => rfl
    | some d =>
      cases h : s.xu.neighbours.find? fun n => decide (n.zone = d.zone) <;> simp [h]
  · rfl

theorem primaryCode_eq (s : State) : primaryCode s =
    if s.xu.linkA.role = .primary then 0#8 else if s.xu.linkB.role = .primary then 1#8 else 0xFF#8 := by
  unfold primaryCode primaryLink linkWithRole
  by_cases ha : s.xu.linkA.role = .primary
  · simp [ha]
  · by_cases hb : s.xu.linkB.role = .primary <;> simp [ha, hb]

/-- A mask over the window indexes has the bits of the entries that meet `p`. -/
theorem getLsbD_indexMask (s : State) (p : Entry → Bool) {n : Nat} (hn : n < 16) :
    (indexMask s p).getLsbD n = (entryAt s n).any p := by
  have key : ∀ (m : Nat), m ≤ 16 → ∀ k, ((List.range m).foldl (fun w i => w ||| bitAt ((entryAt s i).any p) i) 0#16).getLsbD k =
      (decide (k < m) && (entryAt s k).any p) := by
    intro m
    induction m with
    | zero => intro _ k; simp
    | succ m ih =>
      intro hm k
      rw [List.range_succ, List.foldl_append, List.foldl_cons, List.foldl_nil, BitVec.getLsbD_or, ih (by omega), getLsbD_bitAt _ (by omega)]
      by_cases hk : k = m
      · subst hk
        simp
      · have hiff : k < m + 1 ↔ k < m := by omega
        simp [hk, hiff]
  rw [indexMask, key 16 (Nat.le_refl _) n]
  simp [hn]

theorem isActive_any (s : State) (n : Nat) : (entryAt s n).any Entry.isActive =
    ((mirrorAt s n).isSome || (captureAt s n).any fun c => decide (c.state = .active)) := by
  unfold mirrorAt captureAt
  cases h : entryAt s n with
  | none => rfl
  | some e => cases hb : e.body <;> simp [Entry.isActive, hb]

theorem statusWord_stop (h r a : Bool) :
    bitAt h 0 ||| bitAt r 1 ||| bitAt a 2 = BitVec.ofNat 16 (h.toNat + 2 * r.toNat + 4 * a.toNat) := by
  cases h <;> cases r <;> cases a <;> rfl

theorem statusWord_zero (s : State) {k : Nat} (h : 44 ≤ k) (h' : k ≤ 62) : statusWord s k = 0#16 := by
  interval_cases k <;> rfl

end Sys2Proof.Machine
end

section
/-! SUPPORT. The end of a word of the engine, and the publication of an inbound record. -/

-- One proof is checked after another: each worker thread of Lean reserves memory of its own.
set_option Elab.async false

namespace Sys2Proof.Machine

variable {s t v : State} {i k : Nat} {e : Entry} {m : Mirror} {j : Job} {b : BusWord} {x : Word} {before : State}

/-! ### MIRROR entries -/

theorem mirrorAt_eq_some (he : entryAt s i = some e) (hb : e.body = .mirror m) : mirrorAt s i = some m := by
  simp only [mirrorAt, he, hb]

theorem exists_entry_of_mirrorAt (h : mirrorAt s i = some m) : ∃ e, entryAt s i = some e ∧ e.body = .mirror m := by
  unfold mirrorAt at h
  split at h
  · next e he =>
    split at h
    · cases h
    · next hb =>
      cases h
      exact ⟨e, he, hb⟩
  · cases h

theorem mapMirror_eq (f : Mirror → Mirror) (he : entryAt s i = some e) (hb : e.body = .mirror m) :
    mapMirror i f s = { s with wt := s.wt.set i (some { e with body := .mirror (f m) }) } := by
  simp only [mapMirror, he, hb]
  rfl

theorem mapMirror_wt (i : Nat) (f : Mirror → Mirror) (s : State) : ∃ wt, mapMirror i f s = { s with wt := wt } := by
  unfold mapMirror
  split
  · split
    exacts [⟨s.wt, rfl⟩, ⟨_, rfl⟩]
  · exact ⟨s.wt, rfl⟩

theorem mirrorAt_mapMirror (f : Mirror → Mirror) (h : mirrorAt s i = some m) : mirrorAt (mapMirror i f s) i = some (f m) := by
  obtain ⟨e, he, hb⟩ := exists_entry_of_mirrorAt h
  rw [mapMirror_eq f he hb]
  exact mirrorAt_eq_some (entryAt_putEntry_self (t := s) _ (lt_length_of_entryAt he)) rfl

/-- An age job joins the list where one is not there and the list has room (R165). -/
theorem mem_listAge (h : s.mae.mirrorList.length < 8) : .age i ∈ (listAge i s).mae.mirrorList := by
  unfold listAge
  split
  · next ha =>
    obtain ⟨job, hj, hjob⟩ := List.any_eq_true.mp ha
    rw [← of_decide_eq_true hjob]
    exact hj
  · rw [if_pos (show s.mae.mirrorList.length < Config.mirrorListMax from h)]
    exact List.mem_append_right _ List.mem_cons_self

theorem listAge_eq (i : Nat) (s : State) : ∃ js, listAge i s = { s with mae.mirrorList := js } := by
  unfold listAge
  repeat' split
  exacts [⟨_, rfl⟩, ⟨_, rfl⟩, ⟨_, rfl⟩]

/-! ### What the end of a word can change -/

/-- The Window Table, the engine but for its stack, the requests and the Command Unit, and nothing else. -/
def WordOnly (s t : State) : Prop :=
  ∃ wt mae au cu, t = { s with wt := wt, mae := mae, au := au, cu := cu } ∧ mae.stack = s.mae.stack ∧
    au.causes = s.au.causes ∧ au.stop = s.au.stop

theorem WordOnly.refl (s : State) : WordOnly s s := ⟨s.wt, s.mae, s.au, s.cu, rfl, rfl, rfl, rfl⟩

theorem WordOnly.trans (h : WordOnly s t) (g : WordOnly t v) : WordOnly s v := by
  obtain ⟨wt, mae, au, cu, rfl, h1, h2, h3⟩ := h
  obtain ⟨wt', mae', au', cu', rfl, g1, g2, g3⟩ := g
  exact ⟨wt', mae', au', cu', rfl, g1.trans h1, g2.trans h2, g3.trans h3⟩

protected theorem WordOnly.ite {p : Prop} [Decidable p] (ht : WordOnly s t) (hv : WordOnly s v) : WordOnly s (if p then t else v) := by
  split
  exacts [ht, hv]

theorem WordOnly.passOver (h : WordOnly s t) : t.bpu = s.bpu := by
  obtain ⟨_, _, _, _, rfl, -⟩ := h
  rfl

/-- Where the Pass-Over Count is 0 the end of a job leaves it so (R12). -/
theorem endRunning_zero (h : s.bpu.passOver = 0) :
    endRunning s = { s with mae := { s.mae with running := none, waits := [], mirrorWaits := 0 } } := by
  unfold endRunning
  dsimp only
  split
  · rw [← h]
  · rfl

theorem wordOnly_endRunning (h : s.bpu.passOver = 0) : WordOnly s (endRunning s) := by
  rw [endRunning_zero h]
  exact ⟨s.wt, _, s.au, s.cu, rfl, rfl, rfl, rfl⟩

theorem wordOnly_mae {mae : Engine} (h : mae.stack = s.mae.stack) : WordOnly s { s with mae := mae } :=
  ⟨s.wt, mae, s.au, s.cu, rfl, h, rfl, rfl⟩

theorem wordOnly_advanceTo (n : Nat) (j : Job) (s : State) : WordOnly s (advanceTo n j s) := wordOnly_mae rfl

theorem wordOnly_raiseRequest (c : RequestClass) (s : State) : WordOnly s (raiseRequest c s) := by
  obtain ⟨attention, requests, h⟩ := raiseRequest_moves c s
  rw [h]
  exact ⟨s.wt, _, _, s.cu, rfl, rfl, rfl, rfl⟩

theorem wordOnly_listAge (i : Nat) (s : State) : WordOnly s (listAge i s) := by
  obtain ⟨js, h⟩ := listAge_eq i s
  rw [h]
  exact wordOnly_mae rfl

theorem wordOnly_mirrorDeposited (i : Nat) (s : State) : WordOnly s (mirrorDeposited i s) := by
  obtain ⟨wt, h⟩ := mapMirror_wt i (fun m => { m with age := 0, staleReported := false }) s
  have hm : WordOnly s (mapMirror i (fun m => { m with age := 0, staleReported := false }) s) := by
    rw [h]
    exact ⟨wt, s.mae, s.au, s.cu, rfl, rfl, rfl, rfl⟩
  unfold mirrorDeposited
  dsimp only
  split
  · exact .ite (hm.trans (wordOnly_listAge i _)) hm
  · exact hm

theorem wordOnly_resultDeposited (s : State) : WordOnly s (resultDeposited s) :=
  WordOnly.trans ⟨s.wt, s.mae, s.au, _, rfl, rfl, rfl, rfl⟩ (wordOnly_raiseRequest .result { s with cu.state := .idle })

theorem wordOnly_stopDeposited (s : State) : WordOnly s (stopDeposited s) :=
  .ite (.refl s) (wordOnly_raiseRequest .stop s)

theorem wordOnly_finishRecord (cls : RingClass) (slot : Nat) (j : Job) (h : s.bpu.passOver = 0) :
    WordOnly s (finishRecord cls slot j s) := by
  unfold finishRecord
  split
  · exact .ite (wordOnly_advanceTo 32 j s)
      (.trans (wordOnly_mae rfl) (wordOnly_endRunning (s := { s with mae.unpublished := some (slot, cls) }) h))
  · exact wordOnly_endRunning h

theorem wordOnly_publishRing (cls : RingClass) (h : s.bpu.passOver = 0) : WordOnly s (publishRing cls s) := by
  unfold publishRing
  split
  · dsimp only
    have hp : ∀ m : Engine, m.stack = s.mae.stack → WordOnly s (raiseRequest (ringRequest cls) (endRunning { s with mae := m })) :=
      fun m hm => ((wordOnly_mae hm).trans (wordOnly_endRunning (s := { s with mae := m }) h)).trans (wordOnly_raiseRequest _ _)
    split
    · refine .trans ?_ (wordOnly_raiseRequest _ _)
      exact hp _ rfl
    · exact hp _ rfl
  · exact wordOnly_endRunning h

/-- The end of a word of a job other than PRIME (R155). -/
theorem wordOnly_jobWordDone (hp : s.bpu.passOver = 0) (hj : ∀ i, j.work ≠ .prime i) : WordOnly s (jobWordDone j b x s) := by
  have hgo : ∀ n, WordOnly s (advanceTo n j s) := fun n => wordOnly_advanceTo n j s
  have hend := wordOnly_endRunning hp
  unfold jobWordDone
  cases hw : j.work with
  | prime i => exact absurd hw (hj i)
  | attention => exact .ite (hgo 1) hend
  | stop words => exact .ite (hgo _) (hend.trans (wordOnly_stopDeposited _))
  | result r =>
    dsimp only
    have ht : WordOnly s (if (r.publish && decide (j.done = 0)) = true then { s with mae.publication := false } else s) :=
      .ite (wordOnly_mae rfl) (.refl s)
    exact .ite (ht.trans (wordOnly_advanceTo _ j _))
      ((ht.trans (wordOnly_endRunning (by rw [ht.passOver]; exact hp))).trans (wordOnly_resultDeposited _))
  | ring cls slot words => exact .ite (hgo _) (.ite (wordOnly_finishRecord cls slot j hp) (wordOnly_publishRing cls hp))
  | mirror i offset words => exact .ite (hgo _) (hend.trans (wordOnly_mirrorDeposited i _))
  | age i => exact hend
  | status r => exact .ite (hgo _) hend

/-! ### A write word completes (R157) -/

/-- The word has reached RAM, and the Pass-Over Count is 0 (R12). -/
def wordWritten (b : BusWord) (x : Word) (s : State) : State :=
  noteDeposit b x { s with ram := writeWord s.ram b.addr x, bpu.passOver := 0 }

theorem wordWritten_of_ne (h : b.kind ≠ .attention) :
    wordWritten b x s = { s with ram := writeWord s.ram b.addr x, bpu.passOver := 0 } :=
  if_neg fun ha => h ha.1

theorem wordWritten_moves (b : BusWord) (x : Word) (s : State) : ∃ deposited, wordWritten b x s =
    { s with ram := writeWord s.ram b.addr x, bpu.passOver := 0, au.deposited := deposited } := by
  unfold wordWritten noteDeposit
  split
  exacts [⟨_, rfl⟩, ⟨s.au.deposited, rfl⟩]

/-- The write word of the running job completes, and then the engine makes its choice (R155, R157). -/
theorem exec_writeWord (h : EngineReady (elapse 0#32 before)) (hr : (elapse 0#32 before).mae.running = some j)
    (hb : jobWord (elapse 0#32 before) j = some b) (hv : b.value = some x) : exec .maeWordCycleComplete before =
      .next (settle (jobWordDone j b x (wordWritten b x (elapse 0#32 before)))) := by
  generalize hs : elapse 0#32 before = s at *
  have hword : currentWord s = some b := by
    rw [currentWord, h.onBus]
    show readyWord s = some b
    rw [readyWord, engineOn, h.porn, h.vrst, hr]
    exact hb
  have hcomplete : completeWord b s = jobWordDone j b x (wordWritten b x s) := by
    have hbus : ({ s with bpu.onBus := none, bpu.passOver := 0 } : State) = { s with bpu.passOver := 0 } := by rw [← h.onBus]
    obtain ⟨deposited, hw⟩ := wordWritten_moves b x s
    have hrun : (wordWritten b x s).mae.running = some j := by
      rw [hw]
      exact hr
    rw [completeWord, hbus, hv]
    show (match (wordWritten b x s).mae.running with
      | some j => jobWordDone j b x (wordWritten b x s)
      | none => wordWritten b x s) = _
    rw [hrun]
  have hhold : (settle (jobWordDone j b x (wordWritten b x s))).bpu.hold = none := by
    obtain ⟨deposited, hw⟩ := wordWritten_moves b x s
    refine (congrArg Face.hold (face_settle _)).trans ((congrArg Face.hold (face_jobWordDone _ _ _ _)).trans ?_)
    rw [hw]
    exact h.hold
  show Host.Outcome.next (completeWrite (elapse 0#32 before)) = _
  rw [hs, completeWrite, hword]
  simp only [hv, Option.isSome_some, if_true, completeBus, hcomplete]
  rw [releaseHold, hhold]

end Sys2Proof.Machine
end

section
/-! SUPPORT. What each kind of job writes, and what its words' ends bring about. -/

-- One proof is checked after another: each worker thread of Lean reserves memory of its own.
set_option Elab.async false

namespace Sys2Proof.Machine

variable {s u : State} {j : Job} {b : BusWord} {x : Word}

/-! ### A write word of each kind of job (Table 9-2) -/

/-- The word is `x` at the address `a`, of the kind of the running job. -/
theorem busWord_eq {k : JobKind} {a n : Nat} {y : Word} (hb : some (⟨k, a, some y, n⟩ : BusWord) = some b) (hv : b.value = some x) :
    b.addr = a ∧ x = y ∧ b.kind = k := by
  cases hb
  exact ⟨rfl, (Option.some.inj hv).symm, rfl⟩

theorem running_endRunning (s : State) : (endRunning s).mae.running = none := by
  unfold endRunning
  dsimp only
  split <;> rfl

theorem mae_raiseRequest_running (c : RequestClass) (s : State) : (raiseRequest c s).mae.running = s.mae.running := by
  obtain ⟨attention, requests, h⟩ := raiseRequest_moves c s
  rw [h]

/-- A STOP job's end raises STOP unless another STOP job is pending (R155, R178). -/
theorem stopDeposited_spec (s : State) : (stopDeposited s).mae.running = s.mae.running ∧
    (stopDeposited s).au.requests = if s.mae.stop = true then s.au.requests else s.au.requests ||| requestBit .stop := by
  unfold stopDeposited
  split
  · exact ⟨rfl, rfl⟩
  · exact ⟨mae_raiseRequest_running _ _, requests_raiseRequest _ _⟩

theorem resultDeposited_spec (s : State) : (resultDeposited s).mae.running = s.mae.running ∧ (resultDeposited s).cu.state = .idle ∧
    (resultDeposited s).au.requests = s.au.requests ||| requestBit .result := by
  obtain ⟨attention, requests, h⟩ := raiseRequest_moves .result { s with cu.state := .idle }
  refine ⟨mae_raiseRequest_running _ _, ?_, requests_raiseRequest _ _⟩
  rw [resultDeposited, h]

theorem mirrorDeposited_spec (i : Nat) (s : State) : (mirrorDeposited i s).mae.running = s.mae.running ∧
    ∀ m, mirrorAt s i = some m → mirrorAt (mirrorDeposited i s) i = some { m with age := 0, staleReported := false } ∧
      (m.ageWord = true → s.mae.mirrorList.length < 8 → .age i ∈ (mirrorDeposited i s).mae.mirrorList) := by
  obtain ⟨wt, hwt⟩ := mapMirror_wt i (fun m => { m with age := 0, staleReported := false }) s
  have hmae : (mapMirror i (fun m => { m with age := 0, staleReported := false }) s).mae = s.mae := by rw [hwt]
  have hlisted : ∀ y, (listAge i y).mae.running = y.mae.running ∧ (listAge i y).wt = y.wt := fun y => by
    obtain ⟨js, h⟩ := listAge_eq i y
    rw [h]
    exact ⟨rfl, rfl⟩
  refine ⟨?_, fun m hm => ?_⟩
  · unfold mirrorDeposited
    dsimp only
    split
    · split
      · rw [(hlisted _).1, hmae]
      · rw [hmae]
    · rw [hmae]
  · have hd := mirrorAt_mapMirror (fun m => { m with age := 0, staleReported := false }) hm
    have hdep : mirrorDeposited i s = if m.ageWord then listAge i (mapMirror i (fun m => { m with age := 0, staleReported := false }) s)
        else mapMirror i (fun m => { m with age := 0, staleReported := false }) s := by
      unfold mirrorDeposited
      dsimp only
      rw [hd]
    rw [hdep]
    refine ⟨?_, fun ha hl => ?_⟩
    · split
      · rw [← hd]
        unfold mirrorAt entryAt
        rw [(hlisted _).2]
      · exact hd
    · rw [if_pos ha]
      exact mem_listAge (by rw [hmae]; exact hl)

/-! ### The Status Block and the words of the slots -/

/-- The words of the Status Block (Table 11-5). -/
theorem statusWords (s : State) :
    let bytes := fun (high low : Byte) => (high ++ low : BitVec 16)
    let byte := fun (n : Nat) => BitVec.ofNat 8 n
    let number := fun (n : Nat) => BitVec.ofNat 16 n
    let average := fun (k : LinkState) => match k.role with
      | .primary => k.a8
      | .standby => ((s.xu.dwell.bind fun d => s.xu.neighbours.find? fun n => decide (n.zone = d.zone)).map Neighbour.a8).getD 0
      | .off => 0
    let covered := (List.range 127).filter fun k => s.ssu.grants.any fun g => decide (g.first ≤ k ∧ k < g.first + g.count)
    let stored := (((s.wt.filterMap id).filter fun e => e.body.isCapture).map Entry.length).sum
    statusWord s 3 = bytes (byte s.ft.miss)
      (if s.xu.linkA.role = .primary then 0#8 else if s.xu.linkB.role = .primary then 1#8 else 0xFF#8) ∧
    statusWord s 6 = number (average s.xu.linkA) ∧ statusWord s 7 = number (average s.xu.linkB) ∧
    statusWord s 9 = number covered.length ∧
    statusWord s 16 = number (s.au.stop.held.toNat + 2 * s.au.stop.recorded.toNat + 4 * s.au.accepted.toNat) ∧
    statusWord s 17 = number (1024 - stored) ∧
    (∀ n < 16, (statusWord s 19).getLsbD n = (entryAt s n).isSome ∧
      (statusWord s 20).getLsbD n = ((mirrorAt s n).isSome || (captureAt s n).any fun c => decide (c.state = .active))) := by
  intro bytes byte number average covered stored
  have hcovered : coveredSlots s.ssu.grants = covered := by
    unfold coveredSlots covers
    simp only [← Bool.decide_and]
    rfl
  have hstored : freeStore s = 1024 - stored := congrArg (1024 - ·) (entryStore_sum s.wt)
  refine ⟨congrArg (bytes (byte s.ft.miss)) (primaryCode_eq s), congrArg number (linkA8_eq s .a), congrArg number (linkA8_eq s .b),
    congrArg (fun l => number (List.length l)) hcovered, statusWord_stop _ _ _, congrArg number hstored, fun n hn => ⟨?_, ?_⟩⟩
  · refine (getLsbD_indexMask s (fun _ => true) hn).trans ?_
    cases entryAt s n <;> rfl
  · exact (getLsbD_indexMask s Entry.isActive hn).trans (isActive_any s n)

/-- Settles O47. -/
theorem wordsWritten : Obligations.WordsWritten := by
  refine ⟨attentionValue_spec, fun st => ?_, fun m => ?_, fun result code tag data => rfl, fun s => ?_, ?_⟩
  · intro kind
    have hk : stopSlotKind st = kind := stopSlotKind_eq st
    rw [← hk]
    exact slotWords_spec _ _ _ _ _
  · intro cls
    have hk : ringCode m.cls = cls := ringCode_eq m.cls
    rw [← hk]
    exact slotWords_spec _ _ _ _ _
  · intro bytes byte number lock primary state average covered stored counters
    obtain ⟨h3, h6, h7, h9, h16, h17, h19⟩ := statusWords s
    have hlock : lockCode s.ft.lock = lock := by
      unfold lockCode
      rfl
    refine ⟨rfl, rfl, ?_, rfl, h3, ?_, ?_, h6, h7, rfl, h9, rfl, rfl, rfl, rfl, rfl, rfl, h16, h17, rfl, h19, fun k hk => ?_,
      fun k hk hk' => statusWord_zero s hk hk'⟩
    · rw [← hlock]
      rfl
    · rfl
    · rfl
    · rw [statusWord_counter s (by omega) (by omega), Nat.add_sub_cancel_left]
      rfl
  · intro j b v before s at_ h hr hb hv
    obtain ⟨u, hu⟩ : ∃ u, u = wordWritten b v s := ⟨_, rfl⟩
    obtain ⟨deposited, hmoves⟩ := wordWritten_moves b v s
    have hpass : u.bpu.passOver = 0 := by rw [hu, hmoves]
    have hprime : ∀ i, j.work ≠ .prime i := fun i hw => by
      simp only [jobWord, hw] at hb
      split at hb
      · obtain ⟨k, -, rfl⟩ := Option.map_eq_some_iff.mp hb
        cases hv
      · cases hb
    refine ⟨jobWordDone j b v u, (exec_writeWord h hr hb hv).trans (by rw [hu]), ?_⟩
    intro goesOn
    have hue : u = { s with ram := writeWord s.ram b.addr v, bpu.passOver := 0, au.deposited := deposited } := hu.trans hmoves
    have hmae : u.mae = s.mae := by rw [hue]
    have hwt : u.wt = s.wt := by rw [hue]
    have hcu : u.cu = s.cu := by rw [hue]
    have hreq : u.au.requests = s.au.requests := by rw [hue]
    have hother : b.kind ≠ .attention → u.au = s.au := fun hk => by rw [hu, wordWritten_of_ne hk]
    have hend : (endRunning u).wt = s.wt ∧ (endRunning u).au = u.au ∧ (endRunning u).mae.mirrorList = s.mae.mirrorList ∧
        (endRunning u).mae.stop = s.mae.stop := by
      rw [endRunning_zero hpass]
      exact ⟨hwt, rfl, by rw [hmae], by rw [hmae]⟩
    obtain ⟨hendwt, hendau, hendlist, hendstop⟩ := hend
    obtain ⟨wt, mae, au, cu, heq, hstack, hcauses, hstop⟩ := wordOnly_jobWordDone (b := b) (x := v) hpass hprime
    have hblocks : let t := jobWordDone j b v u
        t.ram = writeWord s.ram b.addr v ∧ t.bpu = { s.bpu with passOver := 0 } ∧ t.mae.stack = s.mae.stack ∧ t.ft = s.ft ∧
          t.uq = s.uq ∧ t.ssu = s.ssu ∧ t.ab = s.ab ∧ t.xu = s.xu ∧ t.dlf = s.dlf ∧ t.ftu = s.ftu ∧ t.au.causes = s.au.causes ∧
          t.au.stop = s.au.stop := by
      rw [hmae] at hstack
      rw [heq]
      refine ⟨?_, ?_, hstack, ?_, ?_, ?_, ?_, ?_, ?_, ?_, hcauses.trans ?_, hstop.trans ?_⟩
      all_goals rw [hue]
    have hgoes : jobWordDone j b v u = advanceTo (j.done + 1) j u → goesOn := fun hgo => congrArg (fun y => y.mae.running) hgo
    obtain ⟨b1, b2, b3, b4, b5, b6, b7, b8, b9, b10, b11, b12⟩ := hblocks
    refine ⟨b1, b2, b3, b4, b5, b6, b7, b8, b9, b10, b11, b12, fun hw => ?_, fun words hw => ?_, fun r hw => ?_,
      fun cls slot words ring hw hring hlow => ?_, fun i offset words e hw he => ?_, fun i hw => ?_, fun r hw => ?_⟩
    · have hdone : jobWordDone j b v u = if j.done = 0 then advanceTo 1 j u else endRunning u := by simp only [jobWordDone, hw]
      simp only [jobWord, hw] at hb
      refine ⟨fun h0 => ?_, fun h1 => ?_⟩
      · rw [if_pos h0] at hb
        obtain ⟨ha, rfl, hk⟩ := busWord_eq hb hv
        have hgo : jobWordDone j b (attentionValue s.au) u = advanceTo (j.done + 1) j u := by rw [hdone, if_pos h0, h0]
        refine ⟨ha, rfl, ?_, hgoes hgo⟩
        rw [hgo, hu]
        show (noteDeposit b _ _).au.deposited = _
        rw [noteDeposit, if_pos ⟨hk, ha⟩]
      · rw [if_neg (by omega)] at hb
        obtain ⟨ha, rfl, -⟩ := busWord_eq hb hv
        rw [hdone, if_neg (by omega)]
        exact ⟨ha, rfl, running_endRunning u⟩
    · have hdone : jobWordDone j b v u = if j.done + 1 < words.length then advanceTo (j.done + 1) j u
          else stopDeposited (endRunning u) := by
        simp only [jobWordDone, hw]
      simp only [jobWord, hw] at hb
      obtain ⟨ha, rfl, hk⟩ := busWord_eq hb hv
      refine ⟨ha, rfl, fun hl => ?_, fun hl => ?_⟩
      · rw [if_pos hl] at hdone
        exact ⟨hgoes hdone, by rw [hdone]; exact hother (by rw [hk]; exact JobKind.noConfusion)⟩
      · rw [if_neg (by omega)] at hdone
        obtain ⟨hrun, hrequests⟩ := stopDeposited_spec (endRunning u)
        rw [hdone, hrun, hrequests, hendau, hendstop, hreq]
        exact ⟨running_endRunning u, rfl⟩
    · intro n last
      obtain ⟨y, hy⟩ : ∃ y, y = if (r.publish && decide (j.done = 0)) = true then { u with mae.publication := false } else u := ⟨_, rfl⟩
      have hdone : jobWordDone j b v u = if j.done + 1 < (if r.publish then r.words.length + 1 else r.words.length) then
          advanceTo (j.done + 1) j y else resultDeposited (endRunning y) := by
        simp only [jobWordDone, hw, hy]
      have hyu : y.bpu.passOver = 0 ∧ y.cu = s.cu ∧ y.au.requests = s.au.requests := by
        rw [hy]
        split
        exacts [⟨hpass, hcu, hreq⟩, ⟨hpass, hcu, hreq⟩]
      obtain ⟨hyp, hycu, hyreq⟩ := hyu
      have hlast : j.done + 1 < (if r.publish then r.words.length + 1 else r.words.length) ↔ j.done < last := by
        show _ ↔ j.done < if r.publish = true then r.words.length else r.words.length - 1
        split <;> omega
      simp only [jobWord, hw] at hb
      obtain ⟨hdrun, hdidle, hdreq⟩ := resultDeposited_spec (endRunning y)
      refine ⟨fun hp h0 => ?_, fun hp => ?_, fun hl => ?_, fun hl => ?_⟩
      · rw [if_pos (by rw [hp, h0]; rfl)] at hb
        rw [if_pos (by rw [hp, h0]; rfl)] at hy
        obtain ⟨ha, rfl, -⟩ := busWord_eq hb hv
        refine ⟨ha, rfl, ?_⟩
        by_cases hl : j.done < last
        · rw [hdone, if_pos (hlast.mpr hl), hy]
          rfl
        · rw [hdone, if_neg (mt hlast.mp hl)]
          obtain ⟨attention, requests, hraise⟩ := raiseRequest_moves .result { endRunning y with cu.state := .idle }
          rw [resultDeposited, hraise, endRunning_zero hyp, hy]
      · rw [if_neg (by
          simp only [Bool.and_eq_true, decide_eq_true_eq, not_and]
          exact fun hpub => by rw [hpub] at hp; simpa [Nat.pos_iff_ne_zero] using hp)] at hb
        obtain ⟨ha, rfl, -⟩ := busWord_eq hb hv
        exact ⟨ha, rfl⟩
      · rw [if_pos (hlast.mpr hl)] at hdone
        exact ⟨congrArg (fun y => y.mae.running) hdone, by rw [hdone]; exact hycu⟩
      · rw [if_neg (fun h => absurd (hlast.mp h) (by omega))] at hdone
        rw [hdone]
        exact ⟨hdrun.trans (running_endRunning y), hdidle, hdreq.trans (by rw [endRunning_zero hyp]; exact congrArg (· ||| _) hyreq)⟩
    · have hdone : jobWordDone j b v u = advanceTo (j.done + 1) j u := by
        simp only [jobWordDone, hw]
        rw [if_pos (by omega)]
      simp only [jobWord, hw, hring] at hb
      rw [if_pos (by omega)] at hb
      obtain ⟨ha, rfl, hk⟩ := busWord_eq hb hv
      have hne : b.kind ≠ .attention := by
        rw [hk]
        cases cls <;> exact JobKind.noConfusion
      refine ⟨ha, rfl, hgoes hdone, ?_, ?_⟩
      · rw [hdone]
        show u.mae.ring = _
        rw [hmae]
      · rw [hdone]
        exact hother hne
    · have hdone : jobWordDone j b v u = if j.done + 1 < words.length then advanceTo (j.done + 1) j u
          else mirrorDeposited i (endRunning u) := by
        simp only [jobWordDone, hw]
      simp only [jobWord, hw, he] at hb
      obtain ⟨ha, rfl, hk⟩ := busWord_eq hb hv
      refine ⟨ha, rfl, fun hl => ?_, fun hl => ?_⟩
      · rw [if_pos hl] at hdone
        exact ⟨hgoes hdone, by rw [hdone]; exact hwt⟩
      · rw [if_neg (by omega)] at hdone
        obtain ⟨hrun, hdeposit⟩ := mirrorDeposited_spec i (endRunning u)
        rw [hdone]
        refine ⟨hrun.trans (running_endRunning u), fun m hm => ?_⟩
        have hm' : mirrorAt (endRunning u) i = some m := by
          rw [← hm]
          unfold mirrorAt entryAt
          rw [hendwt]
        obtain ⟨hage, hlisted⟩ := hdeposit m hm'
        exact ⟨hage, fun hw hl => hlisted hw (by rw [hendlist]; exact hl)⟩
    · have hdone : jobWordDone j b v u = endRunning u := by simp only [jobWordDone, hw]
      rw [hdone]
      have hk : b.kind ≠ .attention := by
        simp only [jobWord, hw] at hb
        split at hb
        · obtain ⟨-, -, hk⟩ := busWord_eq hb hv
          rw [hk]
          exact JobKind.noConfusion
        · cases hb
      refine ⟨running_endRunning u, hendwt, hendau.trans (hother hk), fun e m he hm => ?_⟩
      simp only [jobWord, hw, he, hm] at hb
      obtain ⟨ha, rfl, -⟩ := busWord_eq hb hv
      exact ⟨ha, rfl⟩
    · have hdone : jobWordDone j b v u = if j.done + 1 < 64 then advanceTo (j.done + 1) j u else endRunning u := by
        simp only [jobWordDone, hw]
      simp only [jobWord, hw] at hb
      obtain ⟨ha, rfl, hk⟩ := busWord_eq hb hv
      have hau : u.au = s.au := hother (by rw [hk]; exact JobKind.noConfusion)
      refine ⟨ha, rfl, fun hl => ?_, fun hl => ?_, ?_⟩
      · exact hgoes (hdone.trans (if_pos (by omega)))
      · rw [hdone, if_neg (by omega)]
        exact running_endRunning u
      · rw [hdone]
        split
        · exact hau
        · exact hendau.trans hau

end Sys2Proof.Machine
end

section
/-! SUPPORT. The publication of an inbound record. -/

-- One proof is checked after another: each worker thread of Lean reserves memory of its own.
set_option Elab.async false

namespace Sys2Proof.Machine

variable {s : State} {r : Ring} {cls : RingClass}

/-- The index moves past this slot alone where the next one's record is not finished (R163). -/
theorem indexValue_one {unpublished : Option (Nat × RingClass)} (h : ∀ c, unpublished ≠ some ((r.w + 1) % r.slots, c)) :
    indexValue r unpublished = (r.w + 1) % r.slots := by
  unfold indexValue
  split
  · next slot c =>
    refine if_neg fun hs => h c ?_
    rw [hs]
  · rfl

theorem indexValue_two (r : Ring) (c : RingClass) :
    indexValue r (some ((r.w + 1) % r.slots, c)) = ((r.w + 1) % r.slots + 1) % r.slots := if_pos rfl

/-- Two slots on is another slot than one on. -/
theorem next_ne (h : 2 ≤ r.slots) (w : Nat) : (w % r.slots + 1) % r.slots ≠ w % r.slots := by
  have hw : w % r.slots < r.slots := Nat.mod_lt _ (by omega)
  by_cases h1 : w % r.slots + 1 < r.slots
  · rw [Nat.mod_eq_of_lt h1]
    omega
  · rw [show w % r.slots + 1 = r.slots by omega, Nat.mod_self]
    omega

/-- The index word publishes the record and leaves the one beyond, if any, unpublished (R163). -/
theorem publishRing_one (hr : s.mae.ring = some r) (hp : s.bpu.passOver = 0)
    (h : ∀ c, s.mae.unpublished ≠ some ((r.w + 1) % r.slots, c)) : publishRing cls s = raiseRequest (ringRequest cls)
      { s with mae := { s.mae with running := none, waits := [], mirrorWaits := 0, ring := some { r with w := (r.w + 1) % r.slots } } } := by
  rw [publishRing, hr]
  simp only [indexValue_one h, if_true, Option.isSome_none, Bool.false_eq_true, if_false]
  rw [endRunning_zero (by exact hp)]

/-- The index word publishes the finished record of the next slot too (R163). -/
theorem publishRing_two {c : RingClass} (hr : s.mae.ring = some r) (hp : s.bpu.passOver = 0) (hs : 2 ≤ r.slots)
    (h : s.mae.unpublished = some ((r.w + 1) % r.slots, c)) : publishRing cls s = raiseRequest (ringRequest c)
      (raiseRequest (ringRequest cls) { s with mae := { s.mae with
        running := none, waits := [], mirrorWaits := 0, unpublished := none
        ring := some { r with w := ((r.w + 1) % r.slots + 1) % r.slots } } }) := by
  rw [publishRing, hr]
  simp only [h, indexValue_two, if_neg (next_ne hs (r.w + 1)), Option.isSome_some, if_true]
  rw [endRunning_zero (by exact hp)]

theorem raiseRequest_keeps (c : RequestClass) (s : State) : (raiseRequest c s).ram = s.ram ∧
    (raiseRequest c s).mae.running = s.mae.running ∧ (raiseRequest c s).mae.ring = s.mae.ring ∧
    (raiseRequest c s).mae.unpublished = s.mae.unpublished ∧ (raiseRequest c s).cu = s.cu ∧
    (raiseRequest c s).au.requests = s.au.requests ||| requestBit c := by
  obtain ⟨attention, requests, h⟩ := raiseRequest_moves c s
  refine ⟨?_, ?_, ?_, ?_, ?_, requests_raiseRequest c s⟩
  all_goals rw [h]

/-- Settles O48. -/
theorem ringPublished : Obligations.RingPublished := by
  intro cls slot words r before s h hok hring w1 indexed gives
  obtain ⟨hslots, -⟩ := hok
  have hkind : (Work.ring cls slot words).kind ≠ .attention := by cases cls <;> exact JobKind.noConfusion
  refine ⟨fun hrun => ?_, fun hrun => ?_⟩
  · have hword : jobWord s ⟨.ring cls slot words, 31⟩ =
        some ⟨(Work.ring cls slot words).kind, r.base + 64 * slot + 62, some (words.getD 31 0#16), 0⟩ := by
      simp only [jobWord, hring]
      rfl
    have hx := exec_writeWord h hrun hword rfl
    rw [wordWritten_of_ne hkind] at hx
    refine ⟨_, hx, ?_⟩
    have hdone : ∀ b x u, u.mae.ring = some r → jobWordDone ⟨.ring cls slot words, 31⟩ b x u = if slot = r.w then
        advanceTo 32 ⟨.ring cls slot words, 31⟩ u else endRunning { u with mae.unpublished := some (slot, cls) } := fun b x u hu => by
      show finishRecord cls slot ⟨.ring cls slot words, 31⟩ u = _
      rw [finishRecord, hu]
    rw [hdone _ _ _ (by exact hring)]
    by_cases hs : slot = r.w
    · rw [if_pos hs]
      exact ⟨rfl, hring, rfl, rfl, fun _ => ⟨rfl, rfl⟩, fun hn => absurd hs hn⟩
    · rw [if_neg hs, endRunning_zero rfl]
      exact ⟨rfl, hring, rfl, rfl, fun he => absurd he hs, fun _ => ⟨rfl, rfl⟩⟩
  · have hword : jobWord s ⟨.ring cls slot words, 32⟩ =
        some ⟨(Work.ring cls slot words).kind, s.bpu.base + 68, some (word (indexValue r s.mae.unpublished)), 0⟩ := by
      simp only [jobWord, hring]
      rfl
    have hx := exec_writeWord h hrun hword rfl
    rw [wordWritten_of_ne hkind] at hx
    have hpublish : ∀ b x u, jobWordDone ⟨.ring cls slot words, 32⟩ b x u = publishRing cls u := fun b x u => rfl
    rw [hpublish] at hx
    refine ⟨fun hn => ?_, fun c hc => ?_⟩
    · rw [publishRing_one (by exact hring) rfl (by exact hn), indexValue_one hn] at hx
      exact ⟨_, hx, raiseRequest_keeps _ _⟩
    · rw [publishRing_two (by exact hring) rfl (by omega) (by exact hc), hc, indexValue_two] at hx
      refine ⟨_, hx, ?_⟩
      obtain ⟨h1, h2, h3, h4, h5, h6⟩ := raiseRequest_keeps (ringRequest cls) { s with
        ram := indexed ((w1 + 1) % r.slots), bpu.passOver := 0
        mae := { s.mae with
          running := none, waits := [], mirrorWaits := 0, unpublished := none, ring := some { r with w := (w1 + 1) % r.slots } } }
      obtain ⟨g1, g2, g3, g4, g5, g6⟩ := raiseRequest_keeps (ringRequest c) (raiseRequest (ringRequest cls) { s with
        ram := indexed ((w1 + 1) % r.slots), bpu.passOver := 0
        mae := { s.mae with
          running := none, waits := [], mirrorWaits := 0, unpublished := none, ring := some { r with w := (w1 + 1) % r.slots } } })
      exact ⟨g1.trans h1, g2.trans h2, g3.trans h3, g4.trans h4, g5.trans h5, g6.trans (congrArg (· ||| _) h6)⟩

end Sys2Proof.Machine
end

section
/-! SUPPORT. The engine's choice of its job. -/

-- One proof is checked after another: each worker thread of Lean reserves memory of its own.
set_option Elab.async false

namespace Sys2Proof.Machine

variable {s t x : State} {i : Nat} {j : Job} {k k' : JobKind} {rest : List Job} {e : Entry} {c : Capture} {w : Work}

/-! ### The highest of the kinds -/

/-- The first kind of Table 9-2's order that meets `p` ranks as high as every kind that does. -/
theorem rank_le_of_find {p : JobKind → Bool} (h : rankedKinds.find? p = some k) (hp : p k' = true) : kindRank k ≤ kindRank k' := by
  obtain ⟨-, pre, post, hl, hpre⟩ := List.find?_eq_some_iff_append.mp h
  have hmem : k' ∈ rankedKinds := by cases k' <;> decide
  have hsorted : rankedKinds.Pairwise fun a b => kindRank a < kindRank b := by decide
  rw [hl] at hmem hsorted
  obtain hk | hk := List.mem_append.mp hmem
  · have := hpre k' hk
    rw [hp] at this
    cases this
  · obtain rfl | hk := List.mem_cons.mp hk
    · exact Nat.le_refl _
    · exact Nat.le_of_lt ((List.pairwise_cons.mp (List.pairwise_append.mp hsorted).2.1).1 k' hk)

/-! ### What is pending as a job runs or is suspended -/

theorem ringJobPending_congr {cls : RingClass} (h1 : t.mae.staging = s.mae.staging) (h2 : t.mae.ring = s.mae.ring)
    (h3 : t.mae.unpublished = s.mae.unpublished) (h4 : t.cu = s.cu) (h5 : ringJobInProgress cls t.mae = ringJobInProgress cls s.mae) :
    ringJobPending cls t = ringJobPending cls s := by
  unfold ringJobPending hasUnpublished
  rw [h1, h2, h3, h4, h5]

/-- The engine is free to choose. -/
theorem engineFree_of_ready (h : EngineReady s) : engineFree s = true := by
  rw [engineFree, engineOn, h.porn, h.vrst, h.onBus]
  rfl

/-- A job of kind `k` is to start, in the state `x`: the highest pending one where no job runs, or one that preempts
the running job (R158). -/
def Starts (k : JobKind) (s x : State) : Prop :=
  (s.mae.running = none ∧ highestPending s = some k ∧ (∀ j rest, s.mae.stack = j :: rest → kindRank k < kindRank j.work.kind) ∧ x = s) ∨
    ∃ j, s.mae.running = some j ∧ highestFree s = some k ∧ kindRank k < kindRank j.work.kind ∧ s.mae.stack.length < 2 ∧
      x = { s with mae.stack := j :: s.mae.stack, mae.running := none }

theorem Starts.chooseJob (h : Starts k s x) (he : engineFree s = true) : chooseJob s = startJob k x := by
  rw [Machine.chooseJob, if_pos he]
  obtain ⟨hr, hk, hstack, rfl⟩ | ⟨j, hr, hk, hlt, hl, rfl⟩ := h
  · rw [hr]
    show chooseNext x = _
    rw [chooseNext, hk]
    cases hs : x.mae.stack with
    | nil => rfl
    | cons j rest => exact if_pos (hstack j rest hs)
  · rw [hr]
    show preempt j s = _
    have hp : preempting j s = some k := by
      rw [preempting, if_pos (show s.mae.stack.length < Config.stackMax from hl), hk]
      exact Option.filter_some_pos (decide_eq_true hlt)
    rw [preempt, hp]

/-- No kind that may preempt ranks above the one that starts. -/
theorem Starts.le (h : Starts k s x) (hp : isPending s k' = true) (hw : s.mae.hasWaiting k' = false) : kindRank k ≤ kindRank k' := by
  obtain ⟨-, hk, -, -⟩ | ⟨-, -, hk, -, -, -⟩ := h
  · exact rank_le_of_find hk hp
  · exact rank_le_of_find hk (by rw [hp, hw]; rfl)

theorem Starts.eq (h : Starts k s x) : ∃ stack, x = { s with mae.stack := stack, mae.running := none } ∧
    ∀ cls, (stack.any fun j => j.work.isRingOf cls) = ringJobInProgress cls s.mae := by
  obtain ⟨hr, -, -, rfl⟩ | ⟨j, hr, -, -, -, rfl⟩ := h
  · exact ⟨x.mae.stack, by rw [← hr], fun cls => by rw [ringJobInProgress, hr]; rfl⟩
  · exact ⟨j :: s.mae.stack, rfl, fun cls => by rw [ringJobInProgress, hr]; rfl⟩

/-- The job that has started runs on where nothing that it made pending outranks it. -/
theorem Starts.settle (h : Starts k s x) (he : engineFree s = true) (hrun : (startJob k x).mae.running = some j)
    (hk : j.work.kind = k) (hwaits : ∀ k', (startJob k x).mae.hasWaiting k' = s.mae.hasWaiting k')
    (hpend : ∀ k', kindRank k' < kindRank k → isPending (startJob k x) k' = true → isPending s k' = true) :
    settleEngine s = startJob k x := by
  have hc := h.chooseJob he
  rw [← hc] at hrun hwaits hpend ⊢
  refine settleEngine_of_running hrun (preempting_eq_none (.inl fun k' hf => ?_))
  obtain ⟨hp, hw⟩ := of_highestFree hf
  rw [hk]
  by_contra hlt
  have hlt : kindRank k' < kindRank k := Nat.not_le.mp hlt
  exact absurd (h.le (hpend k' hlt hp) ((hwaits k').symm.trans hw)) (Nat.not_le.mpr hlt)

/-- The start of a job other than COMMAND and INFO, which takes what it starts from off the list of its kind. -/
theorem Starts.settle_other (h : Starts k s x) (he : engineFree s = true) {a p st : Bool} {q : Option ResultJob}
    {js : List MirrorJob} {ps : List Nat} {rf : Word} {mc : Nat} (hk : w.kind = k) (hw : ∀ cls, w.isRingOf cls = false)
    (ht : startJob k x = { x with mae := { x.mae with
      attention := a, stop := p, result := q, status := st, mirrorList := js, primeList := ps, refresh := rf, mirrorClamps := mc
      running := some ⟨w, 0⟩ } })
    (h1 : 1 < kindRank k → a = x.mae.attention) (h2 : 2 < kindRank k → p = x.mae.stop) (h3 : 3 < kindRank k → q = x.mae.result)
    (h5 : 5 < kindRank k → js = x.mae.mirrorList) (h7 : 7 < kindRank k → st = x.mae.status) :
    settleEngine s = startJob k x := by
  obtain ⟨stack, hx, hin⟩ := h.eq
  rw [hx] at h1 h2 h3 h5 h7
  have hring : ∀ cls, ringJobPending cls (startJob k x) = ringJobPending cls s := fun cls => by
    rw [ht, hx]
    refine ringJobPending_congr rfl rfl rfl rfl ?_
    rw [← hin cls]
    show (w.isRingOf cls || _) = _
    rw [hw, Bool.false_or]
  refine h.settle he (j := ⟨w, 0⟩) (by rw [ht]) hk (fun k' => by rw [ht, hx]; rfl) fun k' hlt hp => ?_
  cases k' with
  | command => rwa [show isPending (startJob k x) .command = _ from hring .command] at hp
  | info => rwa [show isPending (startJob k x) .info = _ from hring .info] at hp
  | attention =>
    rw [ht] at hp
    rw [h1 hlt] at hp
    exact hp
  | stop =>
    rw [ht] at hp
    rw [h2 hlt] at hp
    exact hp
  | result =>
    rw [ht] at hp
    rw [h3 hlt] at hp
    exact hp
  | mirror =>
    rw [ht] at hp
    rw [h5 hlt] at hp
    exact hp
  | status =>
    rw [ht] at hp
    rw [h7 hlt] at hp
    exact hp
  | prime =>
    rw [ht] at hp
    have : kindRank k ≤ 8 := by cases k <;> decide
    exact absurd hlt (Nat.not_lt.mpr this)

/-! ### A COMMAND or INFO job starts -/

theorem mem_takeStaged {cls : RingClass} {m y : Staged} : ∀ {q rest : List Staged}, takeStaged cls q = some (m, rest) → y ∈ rest → y ∈ q
  | [], rest, h, _ => by cases h
  | z :: q, rest, h, hy => by
    rw [takeStaged] at h
    split at h
    · cases h
      exact List.mem_cons_of_mem _ hy
    · obtain ⟨⟨m', rest'⟩, hr, heq⟩ := Option.map_eq_some_iff.mp h
      cases heq
      obtain rfl | hy := List.mem_cons.mp hy
      · exact List.mem_cons_self
      · exact List.mem_cons_of_mem _ (mem_takeStaged hr hy)

theorem staleDropped_moves (r : Ring) (s : State) : ∃ staging attention overflows causes requests,
    staleDropped r s = { s with
      mae.staging := staging, mae.attention := attention, mae.ringOverflows := overflows
      au.causes := causes, au.requests := requests } ∧ ∀ m ∈ staging, m ∈ s.mae.staging := by
  unfold staleDropped
  dsimp only
  split
  · exact ⟨s.mae.staging, s.mae.attention, s.mae.ringOverflows, s.au.causes, s.au.requests, rfl, fun _ h => h⟩
  · exact ⟨_, _, _, _, _, rfl, fun _ h => List.mem_of_mem_drop h⟩

/-- A ring job that is pending finds a free slot (R156, R162). -/
theorem hasFree_of_pending {cls : RingClass} {r : Ring} (h : ringJobPending cls s = true) (hr : s.mae.ring = some r) :
    r.hasFree = true := by
  unfold ringJobPending at h
  rw [hr] at h
  simp only [Bool.and_eq_true] at h
  exact h.1.1.1.2

/-- The choice made twice (R158). -/
theorem settleEngine_twice (h : mustChoose (chooseJob s) = true) (h' : mustChoose (chooseJob (chooseJob s)) = false) :
    settleEngine s = chooseJob (chooseJob s) := by
  unfold settleEngine chooseJobs
  simp only [h, if_true]
  unfold chooseJobs
  simp only [h', Bool.false_eq_true, if_false]

/-- The start of a COMMAND or INFO job, and the ATTENTION job that preempts it where the drop of INFO messages has made it
pending (R158, R160, R163). -/
theorem Starts.settle_ring {cls : RingClass} {r : Ring} {m : Staged} {left : List Staged} (h : Starts (ringKind cls) s x)
    (he : engineFree s = true) (hr : s.mae.ring = some r) (hm : takeStaged cls s.mae.staging = some (m, left)) :
    let t : State := { x with
      mae.staging := left
      mae.ring := some { r with v := (r.v + 1) % r.slots }
      mae.running := some ⟨.ring cls r.v (recordWords m), 0⟩ }
    let y := staleDropped { r with v := (r.v + 1) % r.slots } t
    settleEngine s =
      if y.mae.attention = true ∧ .attention ∉ s.mae.waits ∧ x.mae.stack.length < 2 then { y with
        mae.attention := false
        mae.stack := ⟨.ring cls r.v (recordWords m), 0⟩ :: x.mae.stack
        mae.running := some ⟨.attention, 0⟩ }
      else y := by
  intro t y
  obtain ⟨stack, hx, hin⟩ := h.eq
  have hpending : isPending s (ringKind cls) = true := by
    obtain ⟨-, hk, -, -⟩ | ⟨-, -, hk, -, -, -⟩ := h
    exacts [isPending_of_highestPending hk, (of_highestFree hk).1]
  have hstart : startJob (ringKind cls) x = y := by
    have : startJob (ringKind cls) x = startRing cls x := by cases cls <;> rfl
    rw [this, startRing, hx, hr, hm]
    show dropStaleInfo _ = _
    rw [dropStaleInfo_eq (r := { r with v := (r.v + 1) % r.slots }) rfl, ← hx]
    rfl
  have hc := h.chooseJob he
  rw [hstart] at hc
  obtain ⟨staging, attention, overflows, causes, requests, hy, hsub⟩ := staleDropped_moves { r with v := (r.v + 1) % r.slots } t
  have hyrun : y.mae.running = some ⟨.ring cls r.v (recordWords m), 0⟩ := congrArg (fun u => u.mae.running) hy
  have hystack : y.mae.stack = x.mae.stack := congrArg (fun u => u.mae.stack) hy
  have hwaits : ∀ k', y.mae.hasWaiting k' = s.mae.hasWaiting k' := fun k' => by
    rw [show y = _ from hy]
    show x.mae.hasWaiting k' = _
    rw [hx]
    rfl
  have hfree : engineFree y = true := by
    rw [show y = _ from hy, ← he]
    show engineFree x = _
    rw [hx]
    rfl
  have hlow : ∀ k', kindRank k' < kindRank (ringKind cls) → k' ≠ .attention → isPending y k' = true → isPending s k' = true := by
    intro k' hlt hne hp
    have hsame : y.mae.stop = s.mae.stop ∧ y.mae.result = s.mae.result ∧ y.mae.mirrorList = s.mae.mirrorList ∧
        y.mae.unpublished = s.mae.unpublished ∧ y.cu = s.cu := by
      rw [show y = _ from hy]
      show x.mae.stop = _ ∧ x.mae.result = _ ∧ x.mae.mirrorList = _ ∧ x.mae.unpublished = _ ∧ x.cu = _
      rw [hx]
      exact ⟨rfl, rfl, rfl, rfl, rfl⟩
    obtain ⟨hstop, hresult, hmirror, hunpublished, hcu⟩ := hsame
    cases k' with
    | attention => exact absurd rfl hne
    | stop => rwa [isPending, hstop] at hp
    | result => rwa [isPending, hresult] at hp
    | mirror => rwa [isPending, hmirror] at hp
    | command =>
      have hcls : cls = .info := by
        cases cls
        · exact absurd hlt (by decide)
        · rfl
      subst hcls
      have hprogress : ringJobInProgress .command y.mae = ringJobInProgress .command s.mae := by
        rw [← hin .command, ringJobInProgress, hyrun, hystack, hx]
        rfl
      have hring := hasFree_of_pending (cls := .info) hpending hr
      simp only [isPending, ringJobPending, hasUnpublished, hprogress, hunpublished, hcu, Bool.and_eq_true] at hp ⊢
      obtain ⟨⟨⟨⟨hany, -⟩, h2⟩, h3⟩, h4⟩ := hp
      refine ⟨⟨⟨⟨?_, by rw [hr]; exact hring⟩, h2⟩, h3⟩, h4⟩
      obtain ⟨z, hz, hcz⟩ := List.any_eq_true.mp hany
      have hzt : z ∈ staging := by
        rw [show y = _ from hy] at hz
        exact hz
      exact List.any_eq_true.mpr ⟨z, mem_takeStaged hm (hsub z hzt), hcz⟩
    | info | status | prime => cases cls <;> exact absurd hlt (by decide)
  by_cases hA : y.mae.attention = true ∧ .attention ∉ s.mae.waits ∧ x.mae.stack.length < 2
  · obtain ⟨hatt, hnot, hroom⟩ := hA
    have hpre : preempting ⟨.ring cls r.v (recordWords m), 0⟩ y = some .attention := by
      have hf : highestFree y = some .attention :=
        List.find?_cons_of_pos (by
          show (y.mae.attention && !y.mae.hasWaiting .attention) = true
          rw [hatt, hwaits, Engine.hasWaiting, if_neg JobKind.noConfusion, decide_eq_false hnot]
          rfl)
      rw [preempting, if_pos (show y.mae.stack.length < Config.stackMax by rw [hystack]; exact hroom), hf]
      cases cls <;> rfl
    have hnext : Machine.chooseJob y = { y with
        mae.attention := false
        mae.stack := ⟨.ring cls r.v (recordWords m), 0⟩ :: x.mae.stack
        mae.running := some ⟨.attention, 0⟩ } := by
      rw [Machine.chooseJob, if_pos hfree, hyrun]
      show preempt _ y = _
      rw [preempt, hpre, ← hystack]
      rfl
    have hmust : mustChoose y = true := by
      rw [mustChoose, hfree, hyrun]
      simp only [hpre, Option.isSome_some, Bool.and_self]
    have hdone : mustChoose (Machine.chooseJob y) = false := by
      rw [mustChoose, hnext]
      simp only
      rw [preempting_eq_none (.inl fun k' _ => by cases k' <;> decide), Option.isSome_none, Bool.and_false]
    rw [if_pos ⟨hatt, hnot, hroom⟩, ← hnext, ← hc]
    rw [← hc] at hmust hdone
    exact settleEngine_twice hmust hdone
  · have hnone : preempting ⟨.ring cls r.v (recordWords m), 0⟩ y = none := by
      by_cases hroom : x.mae.stack.length < 2
      · refine preempting_eq_none (.inl fun k' hf => ?_)
        obtain ⟨hp, hw⟩ := of_highestFree hf
        have hk : (Work.ring cls r.v (recordWords m)).kind = ringKind cls := rfl
        rw [hk]
        by_contra hlt
        have hlt := Nat.not_le.mp hlt
        by_cases hka : k' = .attention
        · subst hka
          refine hA ⟨hp, ?_, hroom⟩
          rw [hwaits, Engine.hasWaiting, if_neg JobKind.noConfusion] at hw
          exact of_decide_eq_false hw
        · exact absurd (h.le (hlow k' hlt hka hp) ((hwaits k').symm.trans hw)) (Nat.not_le.mpr hlt)
      · exact preempting_eq_none (.inr (by rw [hystack]; omega))
    rw [if_neg hA, ← hc]
    exact settleEngine_of_running (by rw [hc]; exact hyrun) (by rw [hc]; exact hnone)

end Sys2Proof.Machine
end

section
/-! SUPPORT. The job that resumes, the jobs that wait at a full stack, and JOB_START. -/

-- One proof is checked after another: each worker thread of Lean reserves memory of its own.
set_option Elab.async false

namespace Sys2Proof.Machine

variable {s t : State} {j : Job} {k : JobKind} {rest : List Job} {p : Work → Bool}

/-! ### The job on top of the stack resumes (R158) -/

theorem chooseJob_resumes (he : engineFree s = true) (hr : s.mae.running = none) (hs : s.mae.stack = j :: rest)
    (hle : ∀ k, highestPending s = some k → kindRank j.work.kind ≤ kindRank k) : chooseJob s = resumeJob j rest s := by
  rw [chooseJob, if_pos he, hr]
  show chooseNext s = _
  rw [chooseNext, hs]
  cases hk : highestPending s with
  | none => rfl
  | some k => exact if_neg (Nat.not_lt.mpr (hle k hk))

/-- The resumed job runs on where it is the one that was on top of the stack, and no more is pending than before. -/
theorem settleEngine_resumes (he : engineFree s = true) (hr : s.mae.running = none) (hs : s.mae.stack = j :: rest)
    (hle : ∀ k, highestPending s = some k → kindRank j.work.kind ≤ kindRank k) {j' : Job} {rf : Word}
    (hk : j'.work.kind = j.work.kind) (hring : ∀ cls, j'.work.isRingOf cls = j.work.isRingOf cls)
    (ht : resumeJob j rest s = { s with mae := { s.mae with running := some j', stack := rest, refresh := rf } }) :
    settleEngine s = { s with mae := { s.mae with running := some j', stack := rest, refresh := rf } } := by
  have hc : chooseJob s = _ := (chooseJob_resumes he hr hs hle).trans ht
  have hpend : ∀ k, isPending { s with mae := { s.mae with running := some j', stack := rest, refresh := rf } } k = isPending s k := by
    have hprogress : ∀ cls, ringJobPending cls { s with mae := { s.mae with running := some j', stack := rest, refresh := rf } } =
        ringJobPending cls s := fun cls => ringJobPending_congr rfl rfl rfl rfl (by
      show (j'.work.isRingOf cls || rest.any fun j => j.work.isRingOf cls) = _
      rw [ringJobInProgress, hr, hs, hring]
      rfl)
    intro k
    cases k with
    | command => exact hprogress .command
    | info => exact hprogress .info
    | attention | stop | result | mirror | status | prime => rfl
  rw [← hc]
  refine settleEngine_of_running (j := j') (by rw [hc]) ?_
  rw [hc]
  refine preempting_eq_none (.inl fun k hf => ?_)
  obtain ⟨hp, -⟩ := of_highestFree hf
  rw [hpend] at hp
  cases hh : highestPending s with
  | none => exact absurd hp (by rw [isPending_of_none hh]; exact Bool.false_ne_true)
  | some k' =>
    rw [hk]
    exact Nat.le_trans (hle k' hh) (rank_le_of_find hh hp)

/-! ### An abandonment at a full stack (R158, log 38) -/

theorem abandonWork_other (hr : s.mae.running = some j) (hp : p j.work = false) :
    abandonWork p s = { noteWaits s with mae.stack := s.mae.stack.filter fun j => !p j.work } := by
  unfold abandonWork
  simp only [noteWaits_running, noteWaits_stack, hr, Option.any_some, hp, Bool.false_eq_true, if_false]

/-- An abandonment at a full stack that leaves the running job frees a place, and no pending job takes it. -/
theorem settleEngine_abandon (hr : s.mae.running = some j) (hfull : 2 ≤ s.mae.stack.length) (hp : p j.work = false)
    (hring : ∀ w, p w = true → ∀ cls, w.isRingOf cls = false) : (abandonWork p s).mae.running = some j ∧
    (∀ k, isPending (abandonWork p s) k = isPending s k) ∧ settleEngine (abandonWork p s) = abandonWork p s := by
  have ht := abandonWork_other hr hp
  have hrun : (abandonWork p s).mae.running = some j := by
    rw [ht]
    exact (noteWaits_running s).trans hr
  have hpend : ∀ k, isPending (abandonWork p s) k = isPending s k := by
    have hprogress : ∀ cls, ringJobPending cls (abandonWork p s) = ringJobPending cls (noteWaits s) := fun cls => by
      rw [ht]
      refine ringJobPending_congr rfl rfl rfl rfl ?_
      unfold ringJobInProgress
      rw [noteWaits_stack, List.any_filter]
      congr 2
      funext x
      cases hx : p x.work
      · rfl
      · rw [hring _ hx]
        rfl
    intro k
    rw [← isPending_noteWaits s k]
    cases k with
    | command => exact hprogress .command
    | info => exact hprogress .info
    | attention | stop | result | mirror | status | prime =>
      rw [ht]
      rfl
  have hnone : preempting j (abandonWork p s) = none := by
    refine preempting_eq_none (.inl fun k hf => ?_)
    obtain ⟨hk, hw⟩ := of_highestFree hf
    rw [hpend] at hk
    by_contra hlt
    have hwaits := hasWaiting_noteWaits hr hfull hk (Nat.not_le.mp hlt)
    rw [ht] at hw
    exact Bool.false_ne_true (hw.symm.trans hwaits)
  have hc : chooseJob (abandonWork p s) = abandonWork p s := by
    unfold chooseJob
    split
    · rw [hrun]
      show preempt j _ = _
      rw [preempt, hnone]
    · rfl
  refine ⟨hrun, hpend, ?_⟩
  have := settleEngine_of_running (s := abandonWork p s) (j := j) (by rw [hc]; exact hrun) (by rw [hc]; exact hnone)
  rw [this, hc]

theorem isRingOf_of_prime {i : Nat} {w : Work} (h : w.isPrimeOf i = true) (cls : RingClass) : w.isRingOf cls = false := by
  cases w with
  | ring c slot words => cases h
  | attention | stop _ | result _ | mirror _ _ _ | age _ | status _ | prime _ => rfl

theorem isRingOf_of_mirror {i : Nat} {w : Work} (h : w.isMirrorOf i = true) (cls : RingClass) : w.isRingOf cls = false := by
  cases w with
  | ring c slot words => cases h
  | attention | stop _ | result _ | mirror _ _ _ | age _ | status _ | prime _ => rfl

/-- Settles O46. -/
theorem jobChoice : Obligations.JobChoice := by
  intro before s
  refine ⟨rfl, fun h => ?_⟩
  have he := engineFree_of_ready h
  refine ⟨fun j hj hk => settleEngine_of_running hj (preempting_eq_none hk), fun hr hs hn => ?_, fun j hj hk => ?_,
    fun j i hj hfull => ⟨fun hw => ?_, fun hw => ?_⟩, highestFree_eq, fun j rest hr hs hle => ?_, fun k x hx => ?_⟩
  · have hc : chooseJob s = s := by
      rw [chooseJob, if_pos he, hr]
      show chooseNext s = s
      rw [chooseNext, hs, hn]
    have hm : mustChoose s = false := by
      rw [mustChoose, hr, hs, hn]
      simp
    unfold settleEngine chooseJobs
    simp only [hc, hm, Bool.false_eq_true, if_false]
  · have hnone := preempting_eq_none hk
    have hc : chooseJob s = s := by
      rw [chooseJob, if_pos he, hj]
      show preempt j s = s
      rw [preempt, hnone]
    have := settleEngine_of_running (s := s) (j := j) (by rw [hc]; exact hj) (by rw [hc]; exact hnone)
    rw [this, hc]
  · obtain ⟨h1, h2, h3⟩ := settleEngine_abandon (s := { s with mae.primeList := s.mae.primeList.filter fun k => decide (k ≠ i) })
      hj hfull hw fun w => isRingOf_of_prime
    refine ⟨h1, fun k hk => (h2 k).trans ?_, h3⟩
    cases k with
    | prime => exact absurd rfl hk
    | attention | stop | result | command | mirror | info | status => rfl
  · obtain ⟨h1, h2, h3⟩ := settleEngine_abandon (s := { s with
        mae.mirrorList := s.mae.mirrorList.filter fun j => decide (j.index ≠ i)
        mae.mirrorWaits := ((s.mae.mirrorList.take s.mae.mirrorWaits).filter fun j => decide (j.index ≠ i)).length })
      hj hfull hw fun w => isRingOf_of_mirror
    refine ⟨h1, fun k hk => (h2 k).trans ?_, h3⟩
    cases k with
    | mirror => exact absurd rfl hk
    | attention | stop | result | command | info | status | prime => rfl
  · refine ⟨fun hprime hstatus => ?_, fun i e c n hw hentry hb hn => ?_, fun hw => ?_⟩
    · have ht : resumeJob j rest s = { s with mae := { s.mae with running := some j, stack := rest } } := by
        unfold resumeJob
        cases hw : j.work with
        | prime i => exact absurd (by rw [hw]; rfl) hprime
        | status r =>
          cases r
          · rfl
          · exact absurd hw hstatus
        | attention | stop _ | result _ | ring _ _ _ | mirror _ _ _ | age _ => rfl
      exact settleEngine_resumes he hr hs hle rfl (fun _ => rfl) ht
    · have ht : resumeJob j rest s = { s with mae := { s.mae with running := some j, stack := rest } } := by
        unfold resumeJob
        rw [hw]
        have hready := readyWord_prime (s := { s with mae.stack := rest, mae.running := some j }) (i := i) (n := j.done)
          h.porn h.vrst (by rw [← hw]) hentry hb
        exact if_neg (by rw [hready, hn]; exact Bool.false_ne_true)
      exact settleEngine_resumes he hr hs hle rfl (fun _ => rfl) ht
    · refine settleEngine_resumes (j' := ⟨.status false, 0⟩) he hr hs hle (by rw [hw]; rfl) (fun _ => by rw [hw]; rfl) ?_
      unfold resumeJob
      rw [hw]
      rfl
  · have hx : Starts k s x := hx
    obtain ⟨stack, hxe, -⟩ := hx.eq
    refine ⟨?_, ?_, fun r hk hr => ?_, fun cls r m rest hk hr hm => ?_, fun i rest hk hl => ?_,
      fun i offset words rest e m hk hl hentry hm => ?_, fun hk => ?_, fun i rest c e n hk hl hc hentry hn => ?_⟩
    · rintro rfl
      exact hx.settle_other he (w := .attention) rfl (fun _ => rfl) rfl (fun h => absurd h (by decide)) (fun _ => rfl)
        (fun _ => rfl) (fun _ => rfl) (fun _ => rfl)
    · rintro rfl
      have ht : startJob .stop x = { x with mae.stop := false, mae.running := some ⟨.stop (stopWords s.au.stop), 0⟩ } := by
        rw [hxe]
        rfl
      exact (hx.settle_other he (w := .stop (stopWords s.au.stop)) rfl (fun _ => rfl) ht (fun _ => rfl)
        (fun h => absurd h (by decide)) (fun _ => rfl) (fun _ => rfl) (fun _ => rfl)).trans ht
    · subst hk
      have ht : startJob .result x = { x with mae.result := none, mae.running := some ⟨.result r, 0⟩ } := by
        have hxr : x.mae.result = some r := by
          rw [hxe]
          exact hr
        rw [startJob, hxr]
        rfl
      exact (hx.settle_other he (w := .result r) rfl (fun _ => rfl) ht (fun _ => rfl) (fun _ => rfl)
        (fun h => absurd h (by decide)) (fun _ => rfl) (fun _ => rfl)).trans ht
    · subst hk
      exact hx.settle_ring he hr hm
    · subst hk
      have ht : startJob .mirror x = { x with mae.mirrorList := rest, mae.running := some ⟨.age i, 0⟩ } := by
        have hxl : x.mae.mirrorList = .age i :: rest := by
          rw [hxe]
          exact hl
        rw [startJob, startListed, hxl]
        rfl
      exact (hx.settle_other he (w := .age i) rfl (fun _ => rfl) ht (fun _ => rfl) (fun _ => rfl) (fun _ => rfl)
        (fun h => absurd h (by decide)) (fun _ => rfl)).trans ht
    · subst hk
      intro kept hkept
      have ht : startJob .mirror x = { x with
          mae.mirrorList := rest
          mae.running := some ⟨.mirror i offset kept, 0⟩
          mae.mirrorClamps := if kept.length < words.length then min (s.mae.mirrorClamps + 1) 65535 else s.mae.mirrorClamps } := by
        have hxl : x.mae.mirrorList = .data i offset words :: rest := by
          rw [hxe]
          exact hl
        have hkept' : mirrorKept { x with mae.mirrorList := rest } i offset words = kept := by
          have h1 : entryAt { x with mae.mirrorList := rest } i = some e := by
            rw [hxe]
            exact hentry
          have h2 : mirrorAt { x with mae.mirrorList := rest } i = some m := by
            rw [hxe]
            exact hm
          rw [mirrorKept, h1, h2]
        rw [startJob, startListed, hxl]
        show startMirror i offset words _ = _
        rw [startMirror, hkept', if_neg (by simpa using hkept), hxe]
        split <;> rfl
      exact (hx.settle_other he (w := .mirror i offset kept) rfl (fun _ => rfl) ht (fun _ => rfl) (fun _ => rfl) (fun _ => rfl)
        (fun h => absurd h (by decide)) (fun _ => rfl)).trans ht
    · subst hk
      have ht : startJob .status x = { x with
          mae.status := false
          mae.running := some ⟨.status false, 0⟩
          mae.refresh := s.mae.refresh + 1#16 } := by
        rw [hxe]
        rfl
      exact (hx.settle_other he (w := .status false) rfl (fun _ => rfl) ht (fun _ => rfl) (fun _ => rfl) (fun _ => rfl)
        (fun _ => rfl) (fun h => absurd h (by decide))).trans ht
    · subst hk
      have ht : startJob .prime x = { x with mae.primeList := rest, mae.running := some ⟨.prime i, 0⟩ } := by
        have hxl : x.mae.primeList = i :: rest := by
          rw [hxe]
          exact hl
        obtain ⟨e', he', hb⟩ := exists_entry_of_captureAt hc
        obtain rfl : e = e' := Option.some.inj (hentry.symm.trans he')
        have hready := readyWord_prime (s := runJob (.prime i) { x with mae.primeList := rest }) (i := i) (n := 0)
          (by rw [hxe]; exact h.porn) (by rw [hxe]; exact h.vrst) rfl (by rw [hxe]; exact hentry) hb
        rw [startJob, startPrime, hxl]
        exact if_neg (by rw [hready, hn]; exact Bool.false_ne_true)
      exact (hx.settle_other he (w := .prime i) rfl (fun _ => rfl) ht (fun _ => rfl) (fun _ => rfl) (fun _ => rfl)
        (fun _ => rfl) (fun _ => rfl)).trans ht

end Sys2Proof.Machine
end

section
/-! SUPPORT. Slot service: the candidates, the selection, and the burst's bytes. -/

-- One proof is checked after another: each worker thread of Lean reserves memory of its own.
set_option Elab.async false

namespace Sys2Proof.Machine

variable {s t : State} {l : Link} {k : BitVec 6} {c : Candidate} {cs : List Candidate} {frame : BitVec 6} {rs : List Record}
  {p : Packing} {cap : Nat}

/-! ### The candidates in their order (R105) -/

theorem inFlight_iff (r : Record) : r.inFlight = true ↔ r.state ≠ .queued := by
  unfold Record.inFlight
  cases r.state <;> simp

/-- The records with their places. -/
def placed (rs : List Record) : List Candidate := rs.zipIdx.map fun p => (p.2, p.1)

theorem mem_placed : c ∈ placed rs ↔ rs[c.1]? = some c.2 := by
  unfold placed
  rw [List.mem_map]
  constructor
  · rintro ⟨⟨r, i⟩, hp, rfl⟩
    exact List.mem_zipIdx_iff_getElem?.mp hp
  · exact fun h => ⟨(c.2, c.1), List.mem_zipIdx_iff_getElem?.mpr h, rfl⟩

theorem placed_sorted (rs : List Record) : (placed rs).Pairwise fun c d => c.1 < d.1 := by
  unfold placed
  rw [List.pairwise_map]
  have h : (rs.zipIdx.map Prod.snd).Pairwise (· < ·) := by
    rw [List.zipIdx_map_snd]
    exact List.pairwise_lt_range'
  exact List.pairwise_map.mp h

theorem mem_insertByAge {d : Candidate} : ∀ {cs : List Candidate}, d ∈ insertByAge frame c cs ↔ d = c ∨ d ∈ cs
  | [] => by simp [insertByAge]
  | x :: cs => by
    unfold insertByAge
    split
    · exact List.mem_cons
    · rw [List.mem_cons, mem_insertByAge, List.mem_cons]
      exact or_left_comm

theorem mem_sortByAge {d : Candidate} : ∀ {cs : List Candidate}, d ∈ sortByAge frame cs ↔ d ∈ cs
  | [] => Iff.rfl
  | x :: cs => by
    rw [sortByAge, mem_insertByAge, mem_sortByAge, List.mem_cons]

/-- Older first, and of equal age the earlier in the list. -/
def Older (frame : BitVec 6) (c d : Candidate) : Prop :=
  recordAge frame d.2 < recordAge frame c.2 ∨ (recordAge frame d.2 = recordAge frame c.2 ∧ c.1 < d.1)

theorem sorted_insertByAge : ∀ {cs : List Candidate}, cs.Pairwise (Older frame) → (∀ d ∈ cs, c.1 < d.1) →
    (insertByAge frame c cs).Pairwise (Older frame)
  | [], _, _ => by simp [insertByAge]
  | d :: cs, hs, hc => by
    obtain ⟨hd, hcs⟩ := List.pairwise_cons.mp hs
    have hlt : ∀ x ∈ cs, c.1 < x.1 := fun x hx => hc x (List.mem_cons_of_mem d hx)
    unfold insertByAge
    split
    · next hle =>
      have hfirst : Older frame c d := (Nat.lt_or_eq_of_le hle).imp id fun he => ⟨he, hc d List.mem_cons_self⟩
      refine List.pairwise_cons.mpr ⟨fun x hx => ?_, hs⟩
      obtain rfl | hx := List.mem_cons.mp hx
      · exact hfirst
      · obtain h | ⟨h, -⟩ := hd x hx
        · exact .inl (Nat.lt_of_lt_of_le h hle)
        · exact (Nat.lt_or_eq_of_le (h ▸ hle)).imp id fun he => ⟨he, hlt x hx⟩
    · next hnle =>
      refine List.pairwise_cons.mpr ⟨fun x hx => ?_, sorted_insertByAge hcs hlt⟩
      obtain rfl | hx := mem_insertByAge.mp hx
      · exact .inl (Nat.not_le.mp hnle)
      · exact hd x hx

theorem sorted_sortByAge : ∀ {cs : List Candidate}, cs.Pairwise (fun c d => c.1 < d.1) → (sortByAge frame cs).Pairwise (Older frame)
  | [], _ => List.Pairwise.nil
  | c :: cs, h => by
    obtain ⟨hc, hcs⟩ := List.pairwise_cons.mp h
    exact sorted_insertByAge (sorted_sortByAge hcs) fun d hd => hc d (mem_sortByAge.mp hd)

/-- The eligible records of a class with their places, in list order. -/
def ofClass (s : State) (cls : RecordClass) : List Candidate :=
  ((placed s.uq.records).filter fun c => eligible s.uq.records c.2).filter fun c => decide (c.2.cls = cls)

theorem candidates_eq (s : State) : candidates s = sortByAge s.ft.frame (ofClass s .urgent) ++ ofClass s .routine ++ ofClass s .bulk := rfl

theorem mem_ofClass {cls : RecordClass} : c ∈ ofClass s cls ↔
    s.uq.records[c.1]? = some c.2 ∧ eligible s.uq.records c.2 = true ∧ c.2.cls = cls := by
  rw [ofClass, List.mem_filter, List.mem_filter, mem_placed, decide_eq_true_iff, and_assoc]

theorem ofClass_sorted (s : State) (cls : RecordClass) : (ofClass s cls).Pairwise fun c d => c.1 < d.1 :=
  ((placed_sorted _).filter _).filter _

theorem mem_candidates : c ∈ candidates s ↔ s.uq.records[c.1]? = some c.2 ∧ eligible s.uq.records c.2 = true := by
  rw [candidates_eq, List.mem_append, List.mem_append, mem_sortByAge, mem_ofClass, mem_ofClass, mem_ofClass]
  cases c.2.cls <;> simp

theorem eligible_record_iff (rs : List Record) (r : Record) : Machine.eligible rs r = true ↔
    r.state = .queued ∧ (r.kind = .window → ¬∃ x ∈ rs, x.window = r.window ∧ x.state ≠ .queued) := by
  rw [Machine.eligible, Bool.and_eq_true, isQueued_iff]
  refine and_congr_right fun _ => ?_
  cases r.kind <;> simp [inFlight_iff]

/-- The order of the candidates (R105). -/
theorem candidates_sorted (s : State) : (candidates s).Pairwise fun c d =>
    (c.2.cls = .urgent ∧ d.2.cls ≠ .urgent) ∨ (c.2.cls = .routine ∧ d.2.cls = .bulk) ∨
    (c.2.cls = .urgent ∧ d.2.cls = .urgent ∧ Older s.ft.frame c d) ∨ (c.2.cls = d.2.cls ∧ c.2.cls ≠ .urgent ∧ c.1 < d.1) := by
  have hcls : ∀ {cls c}, c ∈ ofClass s cls → c.2.cls = cls := fun h => (mem_ofClass.mp h).2.2
  have hsame : ∀ cls, cls ≠ .urgent → (ofClass s cls).Pairwise fun c d =>
      (c.2.cls = .urgent ∧ d.2.cls ≠ .urgent) ∨ (c.2.cls = .routine ∧ d.2.cls = .bulk) ∨
      (c.2.cls = .urgent ∧ d.2.cls = .urgent ∧ Older s.ft.frame c d) ∨ (c.2.cls = d.2.cls ∧ c.2.cls ≠ .urgent ∧ c.1 < d.1) :=
    fun cls hne => (ofClass_sorted s cls).imp_of_mem fun hc hd hlt =>
      .inr (.inr (.inr ⟨(hcls hc).trans (hcls hd).symm, by rw [hcls hc]; exact hne, hlt⟩))
  rw [candidates_eq, List.pairwise_append, List.pairwise_append]
  refine ⟨⟨?_, hsame .routine nofun, fun c hc d hd => ?_⟩, hsame .bulk nofun, fun c hc d hd => ?_⟩
  · refine (sorted_sortByAge (ofClass_sorted s .urgent)).imp_of_mem fun hc hd h => ?_
    exact .inr (.inr (.inl ⟨hcls (mem_sortByAge.mp hc), hcls (mem_sortByAge.mp hd), h⟩))
  · exact .inl ⟨hcls (mem_sortByAge.mp hc), by rw [hcls hd]; exact RecordClass.noConfusion⟩
  · obtain hc | hc := List.mem_append.mp hc
    · exact .inl ⟨hcls (mem_sortByAge.mp hc), by rw [hcls hd]; exact RecordClass.noConfusion⟩
    · exact .inr (.inl ⟨hcls hc, hcls hd⟩)

end Sys2Proof.Machine
end

section
/-! SUPPORT. The burst of a slot, and SLOT_START. -/

-- One proof is checked after another: each worker thread of Lean reserves memory of its own.
set_option Elab.async false

namespace Sys2Proof.Machine

variable {s t : State} {l : Link} {k : BitVec 6} {c : Candidate} {cs : List Candidate} {rs : List Record} {p : Packing} {cap : Nat}

/-! ### The selection (R105 to R107) -/

/-- The burst bytes of the record at a place. -/
def costAt (s : State) (rs : List Record) (i : Nat) : Nat := (rs[i]?.map (cost s)).getD 0

/-- What is packed is the burst's header and the chosen records, and it fits where a record has been chosen. -/
def Packing.Sound (s : State) (rs : List Record) (cap : Nat) (p : Packing) : Prop :=
  p.packed = 4 + (p.chosen.map (costAt s rs)).sum ∧ (p.chosen ≠ [] → p.packed ≤ cap)

theorem Packing.Sound.packOne (h : p.Sound s rs cap) (hc : rs[c.1]? = some c.2) : (packOne s cap p c).Sound s rs cap := by
  unfold Machine.packOne
  dsimp only
  split
  · split
    exacts [⟨h.1, h.2⟩, h]
  · next hfit =>
    split
    · refine ⟨?_, fun _ => Nat.not_lt.mp hfit⟩
      have hcost : costAt s rs c.1 = cost s c.2 := by rw [costAt, hc, Option.map_some, Option.getD_some]
      rw [List.map_append, List.sum_append, List.map_singleton, List.sum_singleton, hcost, ← Nat.add_assoc, ← h.1]
    · exact h

theorem sound_selectRecords (h : ∀ c ∈ cs, s.uq.records[c.1]? = some c.2) :
    (selectRecords s cs).Sound s s.uq.records (capacity s.ft) := by
  have key : ∀ (cs : List Candidate) (p : Packing), p.Sound s s.uq.records (capacity s.ft) →
      (∀ c ∈ cs, s.uq.records[c.1]? = some c.2) → (cs.foldl (packOne s (capacity s.ft)) p).Sound s s.uq.records (capacity s.ft) := by
    intro cs
    induction cs with
    | nil => exact fun p hp _ => hp
    | cons c cs ih =>
      exact fun p hp hc => ih _ (hp.packOne (hc c List.mem_cons_self)) fun d hd => hc d (List.mem_cons_of_mem c hd)
  exact key cs _ ⟨rfl, fun h => absurd rfl h⟩ h

/-- The credit test of one candidate (R106). -/
theorem creditTest_iff (ab : Airtime) (cls : RecordClass) (n : Nat) : creditTest ab cls n = true ↔
    ab.allowance = 0 ∨ cls = .urgent ∨ (cls = .routine ∧ (n : Int) ≤ ab.credit) ∨
      (cls = .bulk ∧ (ab.allowance : Int) ≤ ab.credit - n) := by
  unfold creditTest
  by_cases h : ab.allowance = 0
  · simp [h]
  · cases cls <;> simp [h]

/-! ### The burst's bytes (R108, Table 11-7) -/

theorem sendPayload_noteOversize (places : List Nat) (s : State) (r : Record) :
    sendPayload (noteOversize places s) r = sendPayload s r := by
  unfold noteOversize
  split
  · rfl
  · rw [raiseCause_eq]
    rfl

/-- The records as the chosen ones go ON_AIR. -/
def airedRecords (s : State) (chosen : List Nat) (rs : List Record) : List Record :=
  rs.mapIdx fun i r => if i ∈ chosen then goOnAir s r else r

theorem length_recordBytes (r : Record) : (recordBytes r).length = 6 + r.payload.length := by
  rw [recordBytes, List.length_append]
  rfl

theorem length_flatMap_filterMap (g : Nat → Option Record) (is : List Nat) :
    ((is.filterMap g).flatMap recordBytes).length = (is.map fun i => ((g i).map fun r => (recordBytes r).length).getD 0).sum := by
  induction is with
  | nil => rfl
  | cons i is ih =>
    cases h : g i with
    | none => simpa [h] using ih
    | some r => simp [h, ih]

/-- The bytes of the chosen records are as many as the selection has packed. -/
theorem length_airedBytes {rs' : List Record} (chosen : List Nat)
    (h : ∀ i : Nat, rs'[i]?.map (sendPayload s) = rs[i]?.map (sendPayload s)) :
    ((chosen.filterMap fun i : Nat => (airedRecords s chosen rs')[i]?).flatMap recordBytes).length = (chosen.map (costAt s rs)).sum := by
  rw [length_flatMap_filterMap]
  congr 1
  refine List.map_congr_left fun i hi => ?_
  have hg : (airedRecords s chosen rs')[i]? = rs'[i]?.map (goOnAir s) := by
    rw [airedRecords, List.getElem?_mapIdx]
    simp only [hi, if_true]
  have hlen : ∀ r, (recordBytes (goOnAir s r)).length = 6 + (sendPayload s r).length := fun r => length_recordBytes _
  rw [hg, costAt, Option.map_map]
  have hl : (rs'[i]?.map ((fun r => (recordBytes r).length) ∘ goOnAir s)) = (rs'[i]?.map (sendPayload s)).map fun b => 6 + b.length := by
    rw [Option.map_map]
    exact congrArg (Option.map · _) (funext hlen)
  have hr : rs[i]?.map (cost s) = (rs[i]?.map (sendPayload s)).map fun b => 6 + b.length := by
    rw [Option.map_map]
    congr 1
  rw [hl, hr, h i]

/-- The records once the oversize ones are marked. -/
theorem records_noteOversize (places : List Nat) (s : State) : (noteOversize places s).uq.records =
    s.uq.records.mapIdx fun i r => if i ∈ places then { r with oversize := true } else r := by
  unfold noteOversize
  split
  · next h =>
    rw [List.isEmpty_iff.mp h]
    refine List.ext_getElem? fun i => ?_
    rw [List.getElem?_mapIdx]
    simp
  · rw [raiseCause_eq]
    rfl

/-- The oversize mark is no part of what is sent. -/
theorem payload_noteOversize (places : List Nat) (s : State) (i : Nat) :
    (noteOversize places s).uq.records[i]?.map (sendPayload s) = s.uq.records[i]?.map (sendPayload s) := by
  rw [records_noteOversize, List.getElem?_mapIdx, Option.map_map]
  congr 1
  funext r
  dsimp only [Function.comp]
  split <;> rfl

theorem noteOversize_keeps (places : List Nat) (s : State) : ∃ uq ssu mae au, noteOversize places s =
    { s with uq := uq, ssu := ssu, mae := mae, au := au } := by
  unfold noteOversize
  split
  · exact ⟨_, _, _, _, rfl⟩
  · rw [raiseCause_eq]
    exact ⟨_, _, _, _, rfl⟩

theorem mapLink_of (h : linkOf t l = linkOf s l) (f : LinkState → LinkState) : mapLink l f t = putLink l (f (linkOf s l)) t := by
  rw [mapLink, h]

/-- The preparation of a burst from candidates that stand in the queue (R105 to R108). -/
theorem prepare_spec (h : ∀ c ∈ cs, s.uq.records[c.1]? = some c.2) :
    let p := selectRecords s cs
    let marked := noteOversize p.oversize s
    let aired := airedRecords s p.chosen marked.uq.records
    let bytes := burstHeader s k p.chosen.length ++ (p.chosen.filterMap fun i => aired[i]?).flatMap recordBytes
    let start := tickAdd s.ft.start (k.toNat * s.ft.slotLength)
    (p.chosen = [] → prepare l k cs s = marked) ∧
    (p.chosen ≠ [] → bytes.length = p.packed ∧ p.packed ≤ capacity s.ft ∧ prepare l k cs s =
      putLink l { linkOf s l with txd := (linkOf s l).txd ++ [0x02#8 :: BitVec.ofNat 8 p.packed :: bytes] }
        { marked with
          uq.records := aired
          ssu.burst := some
            { phase := .prepared, link := l, slotStart := start, keyTick := tickAdd start s.ft.timing.lead
              expiryTick := tickAdd start (s.ft.slotLength - s.ft.timing.keyGuard), length := p.packed } }) := by
  intro p marked aired bytes start
  obtain ⟨hpacked, hcap⟩ := sound_selectRecords h
  refine ⟨fun hn => if_pos (List.isEmpty_iff.mpr hn), fun hn => ?_⟩
  have hlen : bytes.length = p.packed := by
    show (burstHeader s k p.chosen.length ++ _).length = _
    rw [List.length_append, length_airedBytes p.chosen (payload_noteOversize p.oversize s)]
    exact hpacked.symm
  refine ⟨hlen, hcap hn, ?_⟩
  obtain ⟨uq, ssu, mae, au, hm⟩ := noteOversize_keeps p.oversize s
  have hm : marked = _ := hm
  have haired : (marked.uq.records.mapIdx fun i r => if i ∈ p.chosen then goOnAir marked r else r) = aired := by
    have hair : ∀ r, goOnAir marked r = goOnAir s r := fun r => by
      unfold goOnAir
      rw [show sendPayload marked r = sendPayload s r from sendPayload_noteOversize _ _ _]
    simp only [hair]
    rfl
  have hne : ¬p.chosen.isEmpty = true := mt List.isEmpty_iff.mp hn
  have hheader : burstHeader marked k p.chosen.length = burstHeader s k p.chosen.length := by rw [hm]; rfl
  have hft : marked.ft = s.ft := by rw [hm]
  have hlink : linkOf marked l = linkOf s l := linkOf_congr (by rw [hm]) l
  show sendBurst l k p marked = _
  rw [sendBurst, if_neg hne]
  simp only [haired, hheader, hft]
  have hsend : sendMessage bytes = 0x02#8 :: BitVec.ofNat 8 p.packed :: bytes := by
    rw [← hlen]
    rfl
  refine (mapLink_of (s := s) ?_ _).trans ?_
  · exact (linkOf_congr rfl l).trans hlink
  · rw [hsend]

/-! ### SLOT_START (R104, R109) -/

/-- The slot's burst may be sent on link `l`. -/
theorem usableLink_iff (hk : k.toNat < s.ft.slots) : usableLink s k.toNat = some l ↔ primaryLink s = some l ∧
    (linkOf s l).condition = .ready ∧ (s.ft.lock = .locked ∨ (s.ft.lock = .holdover ∧ s.ft.miss ≤ 4)) ∧ 2 ≤ k.toNat := by
  have hperm : permitted s.ft = true ↔ s.ft.lock = .locked ∨ (s.ft.lock = .holdover ∧ s.ft.miss ≤ 4) := by
    unfold permitted
    cases s.ft.lock <;> simp
  unfold usableLink
  cases hp : primaryLink s with
  | none => simp
  | some l' =>
    dsimp only
    rw [Option.ite_none_right_eq_some]
    simp only [Bool.and_eq_true, decide_eq_true_iff, hperm, Option.some.injEq, hk, and_true]
    constructor
    · rintro ⟨⟨⟨h1, h2⟩, h3⟩, rfl⟩
      exact ⟨rfl, h2, h1, h3⟩
    · rintro ⟨rfl, h2, h1, h3⟩
      exact ⟨⟨⟨h1, h2⟩, h3⟩, rfl⟩

theorem slotDue_of {fn : Tick} {n : Nat} (hl : s.ft.lock ≠ .search) (hfn : s.ft.next = some fn)
    (hb : tickBefore (slotTick s n) fn = true) (hn : n < s.ft.slots) (hnext : s.ft.nextSlot ≤ n) : slotDue s n = some (slotTick s n) := by
  rw [slotDue, hfn]
  exact if_pos ⟨hl, hn, hnext, hb⟩

theorem exec_slotStart {fn : Tick} {before : State} (hs : s = reachEvent (.slotStart k) before) (hl : s.ft.lock ≠ .search)
    (hfn : s.ft.next = some fn) (hb : tickBefore (slotTick s k.toNat) fn = true) (hd : tickDiff (slotTick s k.toNat) s.ft.tick ≤ 0)
    (hk : k.toNat < s.ft.slots) (hnext : s.ft.nextSlot ≤ k.toNat) : exec (.slotStart k) before =
      .next (serveSlot k (tickBefore (slotTick s k.toNat) s.ft.tick) { s with ft.nextSlot := k.toNat + 1 }) := by
  have hdue := slotDue_of hl hfn hb hk hnext
  have hrun : slotStartAt k s = serveSlot k (tickBefore (slotTick s k.toNat) s.ft.tick) { s with ft.nextSlot := k.toNat + 1 } := by
    rw [slotStartAt, hdue]
  rw [← hrun]
  subst hs
  exact congrArg _ (takeEvent_due (e := .slotStart k) hdue hd)

/-- Settles O52. -/
theorem slotServed : Obligations.SlotServed := by
  refine ⟨?_, fun s => ⟨fun c => mem_candidates.trans (and_congr_right fun _ => eligible_record_iff _ _), candidates_sorted s⟩⟩
  intro k fn before s f start fixed cap u usable idle pack served hl hfn hb hd hk hnext
  have hx : exec (.slotStart k) before = .next (serveSlot k (tickBefore start f.tick) u) :=
    exec_slotStart (s := s) rfl hl hfn hb hd hk hnext
  have hcap : capacity u.ft = cap := by
    show min 255 ((f.slotLength - fixed) / f.timing.byteTime) = if f.slotLength ≤ fixed then 0 else min 255 ((f.slotLength - fixed) / f.timing.byteTime)
    split
    · next h => rw [Nat.sub_eq_zero_of_le h, Nat.zero_div, Nat.min_zero]
    · rfl
  have hpack : pack = packOne u (capacity u.ft) := by
    funext p c
    show _ = packOne u (capacity u.ft) p c
    rw [hcap]
    unfold packOne
    simp only [creditTest_iff]
    rfl
  have husable : ∀ l, usableLink u k.toNat = some l ↔ usable l := fun l => usableLink_iff (s := u) hk
  have hidle : (tickBefore start f.tick || s.ssu.burst.isSome) = true ↔ idle := by
    rw [Bool.or_eq_true, Option.isSome_iff_ne_none]
    exact or_congr decide_eq_true_iff Iff.rfl
  have hserved : ∀ l cs, (∀ c ∈ cs, s.uq.records[c.1]? = some c.2) → served l cs (prepare l k cs u) := by
    intro l cs hcs
    dsimp -zeta only [served]
    intro p marked aired head body burst
    have hp : p = selectRecords u cs := by
      show cs.foldl pack ⟨4, [], []⟩ = _
      rw [hpack]
      rfl
    have hspec := prepare_spec (s := u) (l := l) (k := k) hcs
    rw [← hp] at hspec
    have hmarked : noteOversize p.oversize u = marked := by
      show noteOversize p.oversize u = if p.oversize = [] then u else _
      unfold noteOversize
      by_cases ho : p.oversize = []
      · rw [if_pos ho, if_pos (List.isEmpty_iff.mpr ho)]
      · rw [if_neg ho, if_neg (mt List.isEmpty_iff.mp ho), raiseCause_eq]
        rfl
    obtain ⟨hempty, hchosen⟩ := hspec
    rw [hmarked] at hempty hchosen
    rw [hcap] at hchosen
    exact ⟨hempty, hchosen⟩
  have hnone : (∀ l, ¬usable l) → usableLink u k.toNat = none := fun hn => Option.eq_none_iff_forall_ne_some.mpr fun l hl =>
    hn l ((husable l).mp hl)
  have hgranted : covers s.ssu.grants k.toNat = true → ∀ l, usable l → serveSlot k (tickBefore start f.tick) u =
      if (tickBefore start f.tick || s.ssu.burst.isSome) = true then u else prepare l k (candidates u) u := fun hg l hu => by
    have hgu : covers u.ssu.grants k.toNat = true := hg
    rw [serveSlot, if_pos hgu, (husable l).mpr hu]
  have hturns : (true && u.ssu.grants.isEmpty && contentionTurn u) = true ↔
      s.ssu.grants = [] ∧ f.frame.toNat % 4 = s.carid.toNat % 4 := by
    rw [Bool.true_and, Bool.and_eq_true]
    exact and_congr List.isEmpty_iff decide_eq_true_iff
  have hcontended : covers s.ssu.grants k.toNat = false → covers s.ssu.contention k.toNat = true → s.ssu.grants = [] →
      f.frame.toNat % 4 = s.carid.toNat % 4 → ∀ l, usable l → serveSlot k (tickBefore start f.tick) u =
        if (tickBefore start f.tick || s.ssu.burst.isSome) = true then u else prepare l k (queuedJoins u) u := fun hg hc h1 h2 l hu => by
    have hgu : covers u.ssu.grants k.toNat = false := hg
    have hcu : covers u.ssu.contention k.toNat = true := hc
    have hb : u.ssu.burst = s.ssu.burst := rfl
    simp only [serveSlot, hgu, hcu, hb, Bool.false_eq_true, if_false, if_pos (hturns.mpr ⟨h1, h2⟩), (husable l).mpr hu]
  have hout : covers s.ssu.grants k.toNat = false → covers s.ssu.contention k.toNat = true →
      ¬(s.ssu.grants = [] ∧ f.frame.toNat % 4 = s.carid.toNat % 4) ∨ (∀ l, ¬usable l) → serveSlot k (tickBefore start f.tick) u = u := by
    intro hg hc hn
    have hgu : covers u.ssu.grants k.toNat = false := hg
    have hcu : covers u.ssu.contention k.toNat = true := hc
    simp only [serveSlot, hgu, hcu, Bool.false_eq_true, if_false]
    obtain hn | hn := hn
    · rw [if_neg (mt hturns.mp hn)]
    · rw [hnone hn, ite_self]
  rw [hx]
  refine ⟨fun hg hc => ?_, fun hg => ⟨fun hn => ?_, fun l hu => ⟨fun hi => ?_, fun hi => ?_⟩⟩, fun hg hc => ⟨fun hn => ?_,
    fun l hgrants hturn hu hi => ?_⟩⟩
  · have hgu : covers u.ssu.grants k.toNat = false := hg
    have hcu : covers u.ssu.contention k.toNat = false := hc
    rw [serveSlot, hgu, hcu]
    rfl
  · have hgu : covers u.ssu.grants k.toNat = true := hg
    rw [serveSlot, if_pos hgu, hnone hn]
    rfl
  · rw [hgranted hg l hu, if_pos (hidle.mpr hi)]
  · refine ⟨prepare l k (candidates s) u, ?_, hserved l _ fun c hc => (mem_candidates.mp hc).1⟩
    rw [hgranted hg l hu]
    exact congrArg _ (if_neg (mt hidle.mp hi))
  · obtain hn | hn | hn | hi := hn
    · rw [hout hg hc (.inl fun h => hn h.1)]
    · rw [hout hg hc (.inl fun h => hn h.2)]
    · rw [hout hg hc (.inr hn)]
    · by_cases ht : s.ssu.grants = [] ∧ f.frame.toNat % 4 = s.carid.toNat % 4
      · obtain ⟨h1, h2⟩ := ht
        by_cases hu : ∃ l, usable l
        · obtain ⟨l, hu⟩ := hu
          rw [hcontended hg hc h1 h2 l hu, if_pos (hidle.mpr hi)]
        · rw [hout hg hc (.inr (not_exists.mp hu))]
      · rw [hout hg hc (.inl ht)]
  · refine ⟨prepare l k (queuedJoins s) u, ?_, hserved l _ fun c hc => (mem_candidates.mp (List.mem_of_mem_filter hc)).1⟩
    rw [hcontended hg hc hgrants hturn l hu]
    exact congrArg _ (if_neg (mt hidle.mp hi))

end Sys2Proof.Machine
end

section
/-! SUPPORT. The PERIOD triggers and the mirror ages of a frame start. -/

-- One proof is checked after another: each worker thread of Lean reserves memory of its own.
set_option Elab.async false

namespace Sys2Proof.Machine

variable {s t : State} {i m n : Nat} {e : Entry} {c : Capture} {vrst : Bool} {flags : BitVec 8}

/-! ### A PERIOD entry at a frame start (R34, R48) -/

/-- The count is reached, and the entry is not a changed-only one without a change. -/
def Capture.fires (vrst : Bool) (c : Capture) : Bool :=
  match c.mode with
  | .period n => decide (n ≤ c.periodCount + 1) && !(decide (c.state = .active) && !vrst && c.changedOnly && !c.dirty)
  | .last | .word _ | .after _ | .rise _ => false

/-- A trigger that fires is pending (R32, R35). -/
def Capture.waits (vrst : Bool) (c : Capture) : Bool := decide (c.state = .loading) || vrst

/-- The gate is open (R50). -/
def Capture.opened (flags : BitVec 8) (c : Capture) : Bool := c.gate.all fun g => conditionFlag flags g.flag == g.sense

def Capture.snaps (vrst : Bool) (flags : BitVec 8) (c : Capture) : Bool := c.fires vrst && !c.waits vrst && c.opened flags

def Capture.shuts (vrst : Bool) (flags : BitVec 8) (c : Capture) : Bool := c.fires vrst && !c.waits vrst && !c.opened flags

/-- The entry once the frame start is counted. -/
def Capture.ticked (vrst : Bool) (flags : BitVec 8) (c : Capture) : Capture :=
  match c.mode with
  | .period n => { c with
      periodCount := if c.periodCount + 1 < n then c.periodCount + 1 else 0
      triggerPending := c.triggerPending || (c.fires vrst && c.waits vrst)
      seq := if c.snaps vrst flags then c.seq + 1#8 else c.seq
      dirty := c.dirty && !c.snaps vrst flags }
  | .last | .word _ | .after _ | .rise _ => c

def Entry.ticked (vrst : Bool) (flags : BitVec 8) (e : Entry) : Entry :=
  match e.body with
  | .capture c => { e with body := .capture (c.ticked vrst flags) }
  | .mirror _ => e

theorem opened_eq (flags : BitVec 8) (c : Capture) : gateOpen flags c.gate = c.opened flags := by
  unfold gateOpen Capture.opened
  cases c.gate <;> rfl

theorem waits_iff (vrst : Bool) (c : Capture) : c.waits vrst = true ↔ c.state = .loading ∨ vrst = true := by
  rw [Capture.waits, Bool.or_eq_true, decide_eq_true_iff]

/-- The record of the window's snapshot is offered (R52). -/
def offeredAt (s : State) (q : UplinkQueue) (i : Nat) : UplinkQueue :=
  match entryAt s i, captureAt s i with
  | some e, some c => (offerTo q (windowRecord i e.tag s.ftu.flags s.ft.frame c)).1
  | _, _ => q

def snapsAt (s : State) (i : Nat) : Bool := (captureAt s i).any (Capture.snaps s.vrst s.ftu.flags)

def shutsAt (s : State) (i : Nat) : Bool := (captureAt s i).any (Capture.shuts s.vrst s.ftu.flags)

/-- The places of a table with the entry at `i` changed by `f`. -/
def ChangedAt (i : Nat) (f : Entry → Entry) (wt wt' : List (Option Entry)) : Prop :=
  ∀ j, wt'.getD j none = if j = i then (wt.getD i none).map f else wt.getD j none

theorem changedAt_same {f : Entry → Entry} {wt : List (Option Entry)} (h : (wt.getD i none).map f = wt.getD i none) : ChangedAt i f wt wt :=
  fun j => by
    split
    · next hj => rw [hj, h]
    · rfl

theorem changedAt_set {f : Entry → Entry} (h : entryAt s i = some e) : ChangedAt i f s.wt (s.wt.set i (some (f e))) := fun j => by
  split
  · next hj =>
    subst hj
    have h' : s.wt.getD j none = some e := h
    rw [h']
    exact entryAt_putEntry_self _ (lt_length_of_entryAt h)
  · next hj => exact entryAt_putEntry_ne (t := s) _ (Ne.symm hj)

/-- What the frame start makes of one entry. -/
def PeriodStep (i : Nat) (s t : State) : Prop := ∃ wt attention causes requests, t = { s with
    wt := wt
    ftu.gatedTriggers := if shutsAt s i then min (s.ftu.gatedTriggers + 1) 65535 else s.ftu.gatedTriggers
    uq := if snapsAt s i then offeredAt s s.uq i else s.uq
    mae.attention := attention, au.causes := causes, au.requests := requests } ∧
  ChangedAt i (Entry.ticked s.vrst s.ftu.flags) s.wt wt ∧
  (causes = s.au.causes ∨ causes = s.au.causes ||| causeBit .queueDrop) ∧
  (requests = s.au.requests ∨ requests = s.au.requests ||| requestBit .fault)

/-- An entry that neither offers a record nor counts a closed gate. -/
theorem PeriodStep.still {wt : List (Option Entry)} (h1 : snapsAt s i = false) (h2 : shutsAt s i = false)
    (hw : ChangedAt i (Entry.ticked s.vrst s.ftu.flags) s.wt wt) : PeriodStep i s { s with wt := wt } := by
  refine ⟨wt, s.mae.attention, s.au.causes, s.au.requests, ?_, hw, .inl rfl, .inl rfl⟩
  rw [h1, h2]
  rfl

theorem periodTick_period (hc : captureAt s i = some c) (hm : c.mode = .period n) : periodTick s i =
    if c.periodCount + 1 < n then mapCapture i (fun c => { c with periodCount := c.periodCount + 1 }) s
    else if c.state = .active ∧ s.vrst = false ∧ c.changedOnly ∧ c.dirty = false then mapCapture i (fun c => { c with periodCount := 0 }) s
    else fireTrigger i (mapCapture i (fun c => { c with periodCount := 0 }) s) := by
  simp only [periodTick, hc, hm]

theorem fires_period (hm : c.mode = .period n) : c.fires vrst = true ↔
    ¬c.periodCount + 1 < n ∧ ¬(c.state = .active ∧ vrst = false ∧ c.changedOnly = true ∧ c.dirty = false) := by
  simp only [Capture.fires, hm, Bool.and_eq_true, decide_eq_true_iff, Nat.not_lt, Bool.not_eq_true', Bool.and_eq_false_iff,
    decide_eq_false_iff_not, not_and_or, Bool.not_eq_false', Bool.not_eq_true, Bool.not_eq_false, or_assoc]

/-- An entry that does not fire only counts. -/
theorem ticked_still (hm : c.mode = .period n) (h : c.fires vrst = false) : c.ticked vrst flags =
    { c with periodCount := if c.periodCount + 1 < n then c.periodCount + 1 else 0 } := by
  simp only [Capture.ticked, hm, Capture.snaps, h, Bool.false_and, Bool.or_false, Bool.false_eq_true, if_false, Bool.not_false, Bool.and_true]

theorem ticked_pending (hm : c.mode = .period n) (h : c.fires vrst = true) (hw : c.waits vrst = true) : c.ticked vrst flags =
    { c with periodCount := 0, triggerPending := true } := by
  simp only [Capture.ticked, hm, Capture.snaps, h, hw, Bool.not_true, Bool.and_false, Bool.false_and, Bool.and_self, Bool.or_true,
    Bool.false_eq_true, if_false, Bool.not_false, Bool.and_true, if_neg ((fires_period hm).mp h).1]

theorem ticked_shut (hm : c.mode = .period n) (h : c.fires vrst = true) (hw : c.waits vrst = false) (ho : c.opened flags = false) :
    c.ticked vrst flags = { c with periodCount := 0 } := by
  simp only [Capture.ticked, hm, Capture.snaps, h, hw, ho, Bool.not_false, Bool.and_false, Bool.and_true, Bool.or_false,
    Bool.false_eq_true, if_false, if_neg ((fires_period hm).mp h).1]

theorem ticked_snapped (hm : c.mode = .period n) (h : c.fires vrst = true) (hw : c.waits vrst = false) (ho : c.opened flags = true) :
    c.ticked vrst flags = { c with periodCount := 0, seq := c.seq + 1#8, dirty := false } := by
  simp only [Capture.ticked, hm, Capture.snaps, h, hw, ho, Bool.not_false, Bool.and_self, Bool.and_false, Bool.or_false, Bool.not_true,
    if_true, if_neg ((fires_period hm).mp h).1]

theorem periodTick_step (s : State) (i : Nat) : PeriodStep i s (periodTick s i) := by
  cases hc : captureAt s i with
  | none =>
    have ht : periodTick s i = s := by simp only [periodTick, hc]
    have hw : ChangedAt i (Entry.ticked s.vrst s.ftu.flags) s.wt s.wt := changedAt_same (by
      cases he : s.wt.getD i none with
      | none => rfl
      | some e =>
        cases hb : e.body with
        | capture c => rw [captureAt_eq_some (s := s) he hb] at hc; cases hc
        | mirror m => simp only [Option.map_some, Entry.ticked, hb])
    rw [ht]
    exact PeriodStep.still (s := s) (by rw [snapsAt, hc]; rfl) (by rw [shutsAt, hc]; rfl) hw
  | some c =>
    obtain ⟨e, he, hb⟩ := exists_entry_of_captureAt hc
    have hentry : Entry.ticked s.vrst s.ftu.flags e = { e with body := .capture (c.ticked s.vrst s.ftu.flags) } := by
      simp only [Entry.ticked, hb]
    have hset := changedAt_set (f := Entry.ticked s.vrst s.ftu.flags) he
    rw [hentry] at hset
    have hsnap : snapsAt s i = c.snaps s.vrst s.ftu.flags := by rw [snapsAt, hc]; rfl
    have hshut : shutsAt s i = c.shuts s.vrst s.ftu.flags := by rw [shutsAt, hc]; rfl
    have hsame : c.fires s.vrst = false → c.ticked s.vrst s.ftu.flags = c →
        PeriodStep i s s := fun hf hk => by
      have h := PeriodStep.still (s := s) (wt := s.wt) (i := i) (by rw [hsnap, Capture.snaps, hf]; rfl) (by rw [hshut, Capture.shuts, hf]; rfl)
        (changedAt_same (by
          have he' : s.wt.getD i none = some e := he
          rw [he', Option.map_some, hentry, hk, ← hb]))
      exact h
    cases hm : c.mode with
    | last | word _ | after _ | rise _ =>
      have ht : periodTick s i = s := by simp only [periodTick, hc, hm]
      rw [ht]
      exact hsame (by simp only [Capture.fires, hm]) (by simp only [Capture.ticked, hm])
    | period n =>
      rw [periodTick_period hc hm, mapCapture_eq he hb, mapCapture_eq he hb]
      by_cases hlt : c.periodCount + 1 < n
      · have hf : c.fires s.vrst = false := Bool.eq_false_iff.mpr fun h => ((fires_period hm).mp h).1 hlt
        rw [ticked_still hm hf, if_pos hlt] at hset
        rw [if_pos hlt]
        exact .still (by rw [hsnap, Capture.snaps, hf]; rfl) (by rw [hshut, Capture.shuts, hf]; rfl) hset
      rw [if_neg hlt]
      by_cases hskip : c.state = .active ∧ s.vrst = false ∧ c.changedOnly = true ∧ c.dirty = false
      · have hf : c.fires s.vrst = false := Bool.eq_false_iff.mpr fun h => ((fires_period hm).mp h).2 hskip
        rw [ticked_still hm hf, if_neg hlt] at hset
        rw [if_pos hskip]
        exact .still (by rw [hsnap, Capture.snaps, hf]; rfl) (by rw [hshut, Capture.shuts, hf]; rfl) hset
      rw [if_neg hskip]
      have hf : c.fires s.vrst = true := (fires_period hm).mpr ⟨hlt, hskip⟩
      obtain ⟨x, hx⟩ : ∃ x : State, x = { s with wt := s.wt.set i (some { e with body := .capture { c with periodCount := 0 } }) } := ⟨_, rfl⟩
      rw [← hx]
      have hxe : entryAt x i = some { e with body := .capture { c with periodCount := 0 } } := by
        rw [hx]
        exact entryAt_putEntry_self (t := s) _ (lt_length_of_entryAt he)
      have hxc : captureAt x i = some { c with periodCount := 0 } := captureAt_eq_some hxe rfl
      have hxv : x.vrst = s.vrst := by rw [hx]
      cases hw : c.waits s.vrst with
      | true =>
        rw [fireTrigger_pending hxc (by rw [hxv]; exact (waits_iff _ _).mp hw), mapCapture_eq hxe rfl, hx]
        rw [ticked_pending hm hf hw] at hset
        dsimp only
        rw [List.set_set]
        exact .still (by rw [hsnap, Capture.snaps, hw, hf]; rfl) (by rw [hshut, Capture.shuts, hw, hf]; rfl) hset
      | false =>
        have hnot := mt (waits_iff s.vrst c).mpr (Bool.eq_false_iff.mp hw)
        obtain ⟨hload, hv⟩ := not_or.mp hnot
        have ha : c.state = .active := by
          cases hs : c.state
          all_goals simp_all
        rw [fireTrigger_active hxc ha (by rw [hxv]; exact Bool.eq_false_iff.mpr hv), gatedSnapshot]
        have hgate : gateOpen x.ftu.flags c.gate = c.opened s.ftu.flags := by
          rw [hx]
          exact opened_eq _ _
        cases ho : c.opened s.ftu.flags with
        | true =>
          rw [if_pos (by exact hgate.trans ho), snapshot_eq hxe rfl, hx]
          rw [ticked_snapped hm hf hw ho] at hset
          dsimp only
          rw [List.set_set]
          have hoffer : offeredAt s s.uq i = (offerTo s.uq (windowRecord i e.tag s.ftu.flags s.ft.frame { c with periodCount := 0 })).1 := by
            simp only [offeredAt, he, hc]
            rfl
          obtain ⟨attention, causes, requests, hmoves, hcauses, hrequests⟩ :=
            offer_moves (windowRecord i e.tag s.ftu.flags s.ft.frame { c with periodCount := 0 })
              { s with wt := s.wt.set i (some { e with body := .capture { c with periodCount := 0, seq := c.seq + 1#8, dirty := false } }) }
          refine ⟨_, attention, causes, requests, hmoves.trans ?_, hset, hcauses, hrequests⟩
          rw [hsnap, hshut, Capture.snaps, Capture.shuts, hw, hf, ho, hoffer]
          rfl
        | false =>
          rw [if_neg (by rw [show gateOpen x.ftu.flags _ = _ from hgate, ho]; exact Bool.false_ne_true), hx]
          rw [ticked_shut hm hf hw ho] at hset
          refine ⟨_, s.mae.attention, s.au.causes, s.au.requests, ?_, hset, .inl rfl, .inl rfl⟩
          rw [hsnap, hshut, Capture.snaps, Capture.shuts, hw, hf, ho]
          rfl

/-- The places of a table with the entries below `m` changed by `f`. -/
def ChangedBelow (m : Nat) (f : Entry → Entry) (wt wt' : List (Option Entry)) : Prop :=
  ∀ j, wt'.getD j none = if j < m then (wt.getD j none).map f else wt.getD j none

theorem ChangedBelow.succ {f : Entry → Entry} {wt wt' wt'' : List (Option Entry)} (h : ChangedBelow m f wt wt')
    (h' : ChangedAt m f wt' wt'') : ChangedBelow (m + 1) f wt wt'' := fun j => by
  rw [h' j]
  by_cases hj : j = m
  · rw [if_pos hj, if_pos (by omega), h m, if_neg (Nat.lt_irrefl m), hj]
  · rw [if_neg hj, h j]
    by_cases hlt : j < m
    · rw [if_pos hlt, if_pos (by omega)]
    · rw [if_neg hlt, if_neg (by omega)]

/-- The places at and above `m` of a table changed below `m`. -/
theorem ChangedBelow.at {f : Entry → Entry} (h : ChangedBelow m f s.wt t.wt) : entryAt t m = entryAt s m :=
  (h m).trans (if_neg (Nat.lt_irrefl m))

theorem captureAt_congr (h : entryAt t i = entryAt s i) : captureAt t i = captureAt s i := by
  unfold captureAt
  rw [h]

theorem mirrorAt_congr (h : entryAt t i = entryAt s i) : mirrorAt t i = mirrorAt s i := by
  unfold mirrorAt
  rw [h]

/-- What the frame start makes of the entries below `m`. -/
def PeriodsRun (m : Nat) (s t : State) : Prop := ∃ wt attention causes requests, t = { s with
    wt := wt
    ftu.gatedTriggers := if ((List.range m).filter (shutsAt s)).length = 0 then s.ftu.gatedTriggers
      else min (s.ftu.gatedTriggers + ((List.range m).filter (shutsAt s)).length) 65535
    uq := ((List.range m).filter (snapsAt s)).foldl (offeredAt s) s.uq
    mae.attention := attention, au.causes := causes, au.requests := requests } ∧
  ChangedBelow m (Entry.ticked s.vrst s.ftu.flags) s.wt wt ∧
  (causes = s.au.causes ∨ causes = s.au.causes ||| causeBit .queueDrop) ∧
  (requests = s.au.requests ∨ requests = s.au.requests ||| requestBit .fault)

theorem or_self_or {w : Nat} {x y z b : BitVec w} (h : y = x ∨ y = x ||| b) (h' : z = y ∨ z = y ||| b) : z = x ∨ z = x ||| b := by
  obtain rfl | rfl := h
  · exact h'
  · obtain rfl | rfl := h'
    · exact .inr rfl
    · exact .inr (by rw [BitVec.or_assoc, BitVec.or_self])

theorem range_filter_length (p : Nat → Bool) (m : Nat) :
    ((List.range (m + 1)).filter p).length = ((List.range m).filter p).length + if p m then 1 else 0 := by
  rw [List.range_succ, List.filter_append, List.length_append]
  cases hp : p m <;> simp [hp]

theorem range_filter_foldl {β : Type} (p : Nat → Bool) (g : β → Nat → β) (b : β) (m : Nat) :
    ((List.range (m + 1)).filter p).foldl g b =
      if p m then g (((List.range m).filter p).foldl g b) m else ((List.range m).filter p).foldl g b := by
  rw [List.range_succ, List.filter_append, List.foldl_append]
  cases hp : p m <;> simp [hp]

/-- A count that stops at its limit, after one more event. -/
theorem gated_twice (k g : Nat) (b : Bool) :
    (if k + (if b then 1 else 0) = 0 then g else min (g + (k + if b then 1 else 0)) 65535) =
      if b then min ((if k = 0 then g else min (g + k) 65535) + 1) 65535 else if k = 0 then g else min (g + k) 65535 := by
  cases b
  · simp only [Bool.false_eq_true, if_false, Nat.add_zero]
  · simp only [if_true]
    rw [if_neg (Nat.succ_ne_zero k)]
    split <;> omega

theorem periods_run (s : State) : ∀ m, PeriodsRun m s ((List.range m).foldl periodTick s)
  | 0 => ⟨s.wt, s.mae.attention, s.au.causes, s.au.requests, rfl, fun _ => rfl, .inl rfl, .inl rfl⟩
  | m + 1 => by
    obtain ⟨wt, attention, causes, requests, ht, hw, hc, hr⟩ := periods_run s m
    rw [List.range_succ, List.foldl_append, List.foldl_cons, List.foldl_nil]
    obtain ⟨t, hte⟩ : ∃ t, t = (List.range m).foldl periodTick s := ⟨_, rfl⟩
    rw [← hte] at ht ⊢
    obtain ⟨wt', attention', causes', requests', hstep, hw', hc', hr'⟩ := periodTick_step t m
    have htw : t.wt = wt := by rw [ht]
    have hat : entryAt t m = entryAt s m := ChangedBelow.at (by rw [htw]; exact hw)
    have hcap := captureAt_congr hat
    have hsnap : snapsAt t m = snapsAt s m := by
      rw [snapsAt, hcap, ht]
      rfl
    have hshut : shutsAt t m = shutsAt s m := by
      rw [shutsAt, hcap, ht]
      rfl
    have hoffer : ∀ q, offeredAt t q m = offeredAt s q m := fun q => by
      rw [offeredAt, offeredAt, hat, hcap, ht]
    rw [hsnap, hshut, hoffer] at hstep
    have hflags : Entry.ticked t.vrst t.ftu.flags = Entry.ticked s.vrst s.ftu.flags := by rw [ht]
    rw [hflags, htw] at hw'
    have hcauses : t.au.causes = causes := by rw [ht]
    have hrequests : t.au.requests = requests := by rw [ht]
    rw [hcauses] at hc'
    rw [hrequests] at hr'
    refine ⟨wt', attention', causes', requests', ?_, hw.succ hw', or_self_or hc hc', or_self_or hr hr'⟩
    rw [hstep, ht]
    dsimp only
    rw [range_filter_length, gated_twice, range_filter_foldl]

end Sys2Proof.Machine
end

section
/-! SUPPORT. The mirror ages of a frame start, and what a frame start leaves before the crossover decision. -/

-- One proof is checked after another: each worker thread of Lean reserves memory of its own.
set_option Elab.async false

namespace Sys2Proof.Machine

variable {s t w : State} {i m : Nat} {e : Entry} {x : Mirror} {c : Capture}

/-! ### The ages (R165, R166) -/

def Mirror.stale (m : Mirror) : Bool :=
  decide (m.staleLimit ≠ 0) && decide (m.staleLimit ≤ min 255 (m.age + 1)) && !m.staleReported

def Mirror.aged (m : Mirror) : Mirror := { m with age := min 255 (m.age + 1), staleReported := m.staleReported || m.stale }

def Entry.aged (e : Entry) : Entry :=
  match e.body with
  | .mirror m => { e with body := .mirror m.aged }
  | .capture _ => e

def staleAt (s : State) (i : Nat) : Bool := (mirrorAt s i).any Mirror.stale

/-- The MIRROR list with the age job of window `i`. -/
def agedList (s : State) (js : List MirrorJob) (i : Nat) : List MirrorJob :=
  if (mirrorAt s i).any Mirror.ageWord && !decide (.age i ∈ js) && decide (js.length < 8) then js ++ [.age i] else js

theorem listAge_list (i : Nat) (s : State) : listAge i s = { s with
    mae.mirrorList := if !decide (.age i ∈ s.mae.mirrorList) && decide (s.mae.mirrorList.length < 8) then s.mae.mirrorList ++ [.age i]
      else s.mae.mirrorList } := by
  have hany : s.mae.mirrorList.any (fun j => decide (j = .age i)) = decide (.age i ∈ s.mae.mirrorList) := by
    rw [Bool.eq_iff_iff, List.any_eq_true, decide_eq_true_iff]
    exact ⟨fun ⟨j, hj, h⟩ => of_decide_eq_true h ▸ hj, fun h => ⟨_, h, decide_eq_true rfl⟩⟩
  unfold listAge
  rw [hany]
  by_cases hm : .age i ∈ s.mae.mirrorList
  · rw [if_pos (decide_eq_true hm), decide_eq_true hm]
    rfl
  · rw [if_neg (by rw [decide_eq_false hm]; exact Bool.false_ne_true), decide_eq_false hm, Bool.not_false, Bool.true_and]
    by_cases hl : s.mae.mirrorList.length < 8
    · rw [if_pos (show s.mae.mirrorList.length < Config.mirrorListMax from hl), if_pos (decide_eq_true hl)]
    · rw [if_neg (show ¬s.mae.mirrorList.length < Config.mirrorListMax from hl), if_neg (by simpa using hl)]

/-- A cause that is raised or not, with FAULT. -/
def staleCause (b : Bool) : BitVec 8 := if b then causeBit .mirrorStale else 0#8

/-- What the frame start makes of one entry's age. -/
def AgeStep (i : Nat) (s t : State) : Prop := ∃ wt attention requests, t = { s with
    wt := wt, mae.mirrorList := agedList s s.mae.mirrorList i, mae.attention := attention
    au.causes := s.au.causes ||| staleCause (staleAt s i), au.requests := requests } ∧
  ChangedAt i Entry.aged s.wt wt ∧ (requests = s.au.requests ∨ requests = s.au.requests ||| requestBit .fault) ∧
  (staleAt s i = true → requests = s.au.requests ||| requestBit .fault)

theorem ageTick_step (s : State) (i : Nat) : AgeStep i s (ageTick s i) := by
  cases hx : mirrorAt s i with
  | none =>
    have ht : ageTick s i = s := by simp only [ageTick, hx]
    have hstale : staleAt s i = false := by rw [staleAt, hx]; rfl
    have hlist : agedList s s.mae.mirrorList i = s.mae.mirrorList := by simp [agedList, hx]
    have hw : ChangedAt i Entry.aged s.wt s.wt := changedAt_same (by
      cases he : s.wt.getD i none with
      | none => rfl
      | some e =>
        cases hb : e.body with
        | mirror m => rw [mirrorAt_eq_some (s := s) he hb] at hx; cases hx
        | capture c => simp only [Option.map_some, Entry.aged, hb])
    refine ⟨s.wt, s.mae.attention, s.au.requests, ?_, hw, .inl rfl, fun h => by rw [hstale] at h; cases h⟩
    rw [ht, hstale, hlist, staleCause, if_neg Bool.false_ne_true, BitVec.or_zero]
  | some x =>
    obtain ⟨e, he, hb⟩ := exists_entry_of_mirrorAt hx
    have hentry : Entry.aged e = { e with body := .mirror x.aged } := by simp only [Entry.aged, hb]
    have hset := changedAt_set (f := Entry.aged) he
    rw [hentry] at hset
    have hstale : staleAt s i = x.stale := by rw [staleAt, hx]; rfl
    obtain ⟨y, hy⟩ : ∃ y : State, y = { s with wt := s.wt.set i (some { e with body := .mirror x.aged }) } := ⟨_, rfl⟩
    have hmap : mapMirror i (fun m => { m with age := min 255 (x.age + 1), staleReported := m.staleReported || x.stale }) s = y := by
      rw [mapMirror_eq _ he hb, hy]
      rfl
    have ht : ageTick s i = if x.stale then raiseCause .mirrorStale (if x.ageWord then listAge i y else y)
        else if x.ageWord then listAge i y else y := by
      rw [← hmap]
      simp only [ageTick, hx]
      rfl
    have hlisted : (if x.ageWord then listAge i y else y) = { y with mae.mirrorList := agedList s s.mae.mirrorList i } := by
      have hl : y.mae.mirrorList = s.mae.mirrorList := by rw [hy]
      simp only [agedList, hx, Option.any_some, listAge_list, hl]
      cases x.ageWord
      · simp [← hl]
      · simp
    rw [ht, hlisted]
    cases hst : x.stale with
    | false =>
      refine ⟨_, s.mae.attention, s.au.requests, ?_, hset, .inl rfl, fun h => by rw [hstale, hst] at h; cases h⟩
      rw [if_neg Bool.false_ne_true, hstale, hst, hy, staleCause, if_neg Bool.false_ne_true, BitVec.or_zero]
    | true =>
      rw [if_pos rfl, raiseCause_eq, hy]
      obtain ⟨attention, hcause⟩ : ∃ attention, ∀ z : State, z.mae.attention = s.mae.attention → z.au = s.au →
          withCause .mirrorStale z = { z with
            mae.attention := attention, au.causes := z.au.causes ||| causeBit .mirrorStale
            au.requests := z.au.requests ||| requestBit .fault } := ⟨_, fun z hz ha => by rw [withCause, hz, ha]⟩
      refine ⟨_, attention, s.au.requests ||| requestBit .fault, ?_, hset, .inr rfl, fun _ => rfl⟩
      rw [hstale, hst]
      exact hcause _ rfl rfl

/-- What the frame start makes of the ages below `m`. -/
def AgesRun (m : Nat) (s t : State) : Prop := ∃ wt attention requests, t = { s with
    wt := wt, mae.mirrorList := (List.range m).foldl (agedList s) s.mae.mirrorList, mae.attention := attention
    au.causes := s.au.causes ||| staleCause ((List.range m).any (staleAt s)), au.requests := requests } ∧
  ChangedBelow m Entry.aged s.wt wt ∧ (requests = s.au.requests ∨ requests = s.au.requests ||| requestBit .fault) ∧
  ((List.range m).any (staleAt s) = true → requests = s.au.requests ||| requestBit .fault)

theorem staleCause_or (a b : Bool) : staleCause a ||| staleCause b = staleCause (a || b) := by
  cases a <;> cases b <;> decide

theorem ages_run (s : State) : ∀ m, AgesRun m s ((List.range m).foldl ageTick s)
  | 0 => ⟨s.wt, s.mae.attention, s.au.requests, by simp [staleCause], fun _ => rfl, .inl rfl, fun h => by cases h⟩
  | m + 1 => by
    obtain ⟨wt, attention, requests, ht, hw, hr, hs⟩ := ages_run s m
    obtain ⟨t, hte⟩ : ∃ t, t = (List.range m).foldl ageTick s := ⟨_, rfl⟩
    have hlast : (List.range (m + 1)).foldl ageTick s = ageTick t m := by
      rw [List.range_succ, List.foldl_append, hte]
      rfl
    rw [← hte] at ht
    obtain ⟨wt', attention', requests', hstep, hw', hr', hs'⟩ := ageTick_step t m
    have htw : t.wt = wt := by rw [ht]
    have hat : mirrorAt t m = mirrorAt s m := mirrorAt_congr (ChangedBelow.at (by rw [htw]; exact hw))
    have hstale : staleAt t m = staleAt s m := by rw [staleAt, hat]; rfl
    have hlist : ∀ js, agedList t js m = agedList s js m := fun js => by rw [agedList, hat]; rfl
    have hany : (List.range (m + 1)).any (staleAt s) = ((List.range m).any (staleAt s) || staleAt s m) := by
      rw [List.range_succ, List.any_append, List.any_cons, List.any_nil, Bool.or_false]
    have hfold : (List.range (m + 1)).foldl (agedList s) s.mae.mirrorList =
        agedList s ((List.range m).foldl (agedList s) s.mae.mirrorList) m := by
      rw [List.range_succ, List.foldl_append]
      rfl
    have hrequests : t.au.requests = requests := by rw [ht]
    rw [hlist, hstale] at hstep
    rw [htw] at hw'
    rw [hrequests] at hr' hs'
    rw [hstale] at hs'
    rw [hlast]
    have hor := or_self_or hr hr'
    refine ⟨wt', attention', requests', ?_, hw.succ hw', hor, fun h => ?_⟩
    · rw [hstep, ht, hany, hfold, ← staleCause_or, ← BitVec.or_assoc]
    · rw [hany, Bool.or_eq_true] at h
      obtain h | h := h
      · obtain rfl := hs h
        obtain rfl | rfl := hr'
        · rfl
        · rw [BitVec.or_assoc, BitVec.or_self]
      · obtain rfl := hs' h
        obtain rfl | rfl := hr
        · rfl
        · rw [BitVec.or_assoc, BitVec.or_self]

end Sys2Proof.Machine
end

section
/-! SUPPORT. What a frame start leaves before the crossover decision. -/

-- One proof is checked after another: each worker thread of Lean reserves memory of its own.
set_option Elab.async false

namespace Sys2Proof.Machine

variable {s t w : State} {i m : Nat} {e : Entry} {x : Mirror} {c : Capture} {fn : Tick}

theorem captureAt_ticked (he : entryAt w i = (entryAt s i).map fun e => (e.ticked s.vrst s.ftu.flags).aged) :
    captureAt w i = (captureAt s i).map (Capture.ticked s.vrst s.ftu.flags) := by
  unfold captureAt
  rw [he]
  cases entryAt s i with
  | none => rfl
  | some e =>
    obtain ⟨origin, base, length, tag, body⟩ := e
    cases body <;> rfl

theorem mirrorAt_ticked (he : entryAt w i = (entryAt s i).map fun e => (e.ticked s.vrst s.ftu.flags).aged) :
    mirrorAt w i = (mirrorAt s i).map Mirror.aged := by
  unfold mirrorAt
  rw [he]
  cases entryAt s i with
  | none => rfl
  | some e =>
    obtain ⟨origin, base, length, tag, body⟩ := e
    cases body <;> rfl

theorem mirrorAt_of_ticked (he : entryAt w i = (entryAt s i).map (Entry.ticked s.vrst s.ftu.flags)) : mirrorAt w i = mirrorAt s i := by
  unfold mirrorAt
  rw [he]
  cases entryAt s i with
  | none => rfl
  | some e =>
    obtain ⟨origin, base, length, tag, body⟩ := e
    cases body <;> rfl

/-- The records of the PERIOD snapshots of the frame numbered `frame` join the queue. -/
def offeredIn (frame : BitVec 6) (s : State) (q : UplinkQueue) (i : Nat) : UplinkQueue :=
  match entryAt s i, captureAt s i with
  | some e, some c => (offerTo q (windowRecord i e.tag s.ftu.flags frame c)).1
  | _, _ => q

/-- The slots at or above `slots` that the grants cover (R104). -/
def beyondSlots (slots : Nat) (gs : List Grant) : Nat := ((coveredSlots gs).filter fun k => decide (slots ≤ k)).length

/-- The count of closed gates after the PERIOD triggers. -/
def gatedCount (s : State) : Nat :=
  if ((List.range 16).filter (shutsAt s)).length = 0 then s.ftu.gatedTriggers
  else min (s.ftu.gatedTriggers + ((List.range 16).filter (shutsAt s)).length) 65535

/-- What a frame start at `fn` leaves for the crossover decision (R81, R34, R115, R166, R104). -/
structure FrameBegun (fn : Tick) (s w : State) : Prop where
  eq : w = { s with ft := beginFrame fn s.ft, ab := creditFrame s.ab, wt := w.wt, ftu := w.ftu, uq := w.uq, ssu := w.ssu, mae := w.mae, au := w.au }
  windows : ChangedBelow 16 (fun e => (e.ticked s.vrst s.ftu.flags).aged) s.wt w.wt
  ftu : w.ftu = { s.ftu with gatedTriggers := gatedCount s }
  uq : w.uq = ((List.range 16).filter (snapsAt s)).foldl (offeredIn (beginFrame fn s.ft).frame s) s.uq
  ssu : w.ssu = { s.ssu with unusedGrants := counterAdd s.ssu.unusedGrants (beyondSlots (beginFrame fn s.ft).slots s.ssu.grants) }
  mirrorList : w.mae.mirrorList = (List.range 16).foldl (agedList s) s.mae.mirrorList
  status : w.mae.status = true ∨ ∃ j ∈ w.mae.stack, j.work = .status true
  result : w.mae.result = s.mae.result
  publication : w.mae.publication = s.mae.publication
  causes : w.au.causes = s.au.causes ||| staleCause ((List.range 16).any (staleAt s)) ∨
    w.au.causes = s.au.causes ||| causeBit .queueDrop ||| staleCause ((List.range 16).any (staleAt s))
  requests : w.au.requests = s.au.requests ∨ w.au.requests = s.au.requests ||| requestBit .fault
  reported : (List.range 16).any (staleAt s) = true → w.au.requests = s.au.requests ||| requestBit .fault

theorem frameStartAt_begun (fn : Tick) (s : State) : ∃ w, FrameBegun fn s w ∧ frameStartAt fn s = decideCrossover w := by
  obtain ⟨x, hx⟩ : ∃ x : State, x = { s with ft := beginFrame fn s.ft } := ⟨_, rfl⟩
  obtain ⟨wt, attention, causes, requests, hp, hw, hc, hr⟩ := periods_run x 16
  obtain ⟨y, hy⟩ : ∃ y : State, y = { (List.range 16).foldl periodTick x with ab := creditFrame ((List.range 16).foldl periodTick x).ab } :=
    ⟨_, rfl⟩
  obtain ⟨wt', attention', requests', ha, hw', hr', hs'⟩ := ages_run y 16
  refine ⟨countBeyond (requestStatus ((List.range 16).foldl ageTick y)), ?_, by rw [hy, hx]; rfl⟩
  rw [ha, requestStatus_eq]
  rw [hp] at hy
  dsimp only at hy
  have hentry : ∀ i, entryAt y i = if i < 16 then (entryAt s i).map (Entry.ticked s.vrst s.ftu.flags) else entryAt s i := fun i => by
    have h := hw i
    rw [hx] at h
    rw [hy]
    exact h
  have hmirror : ∀ i, mirrorAt y i = mirrorAt s i := fun i => by
    have h := hentry i
    split at h
    exacts [mirrorAt_of_ticked h, mirrorAt_congr h]
  have hstale : staleAt y = staleAt s := funext fun i => by rw [staleAt, staleAt, hmirror]
  have haged : agedList y = agedList s := funext fun js => funext fun i => by rw [agedList, agedList, hmirror]
  have hwindows : ChangedBelow 16 (fun e => (e.ticked s.vrst s.ftu.flags).aged) s.wt wt' := fun j => by
    rw [hw' j]
    have h : y.wt.getD j none = _ := hentry j
    rw [h]
    split
    · rw [Option.map_map]
      rfl
    · rfl
  have hcauses : y.au.causes = causes := by rw [hy]
  have hrequests : y.au.requests = requests := by rw [hy]
  have hxc : x.au.causes = s.au.causes := by rw [hx]
  have hxr : x.au.requests = s.au.requests := by rw [hx]
  rw [hrequests] at hr' hs'
  rw [hxr] at hr
  rw [hxc] at hc
  rw [hstale, haged, hcauses]
  rw [hstale] at hs'
  have hstatus := status_requestStatus { y with
    wt := wt', mae.mirrorList := (List.range 16).foldl (agedList s) y.mae.mirrorList, mae.attention := attention'
    au.causes := causes ||| staleCause ((List.range 16).any (staleAt s)), au.requests := requests' }
  rw [requestStatus_eq] at hstatus
  have hor := or_self_or hr hr'
  constructor
  case status => exact hstatus
  case windows => exact hwindows
  case requests => exact hor
  case reported =>
    intro h
    have h := hs' h
    obtain rfl | rfl := hr
    · exact h
    · refine Eq.trans h ?_
      rw [BitVec.or_assoc, BitVec.or_self]
  case causes =>
    obtain rfl | rfl := hc
    exacts [.inl rfl, .inr rfl]
  all_goals
    rw [hy, hx]
    rfl

end Sys2Proof.Machine
end

section
/-! SUPPORT. The dwell's count at a frame start (R127), and a frame start with no crossover. -/

-- One proof is checked after another: each worker thread of Lean reserves memory of its own.
set_option Elab.async false

namespace Sys2Proof.Machine

variable {s t u w : State} {l : Link} {d : Dwell} {n x own : Neighbour} {z zone : Byte} {pre post ns : List Neighbour}

/-- The search goes through the entries after the dwelt one, those before it, and last that entry. -/
theorem nextAfter_eq (ho : own.zone = z) (hn : ∀ y ∈ pre ++ post, y.zone ≠ z) : nextAfter zone z (pre ++ own :: post) =
    ((post ++ pre).find? (Neighbour.eligible zone)).or (if own.zone ≠ zone then some own else none) := by
  have hpre : ∀ y ∈ pre, decide (y.zone ≠ z) = true := fun y hy => decide_eq_true (hn y (List.mem_append_left _ hy))
  have hfalse : decide (own.zone ≠ z) = false := decide_eq_false (not_not.mpr ho)
  have hdrop : ((pre ++ own :: post).dropWhile fun n => decide (n.zone ≠ z)) = own :: post := by
    rw [List.dropWhile_append_of_pos hpre, List.dropWhile_cons_of_neg (by rw [hfalse]; exact Bool.false_ne_true)]
  have htake : ((pre ++ own :: post).takeWhile fun n => decide (n.zone ≠ z)) = pre := by
    rw [List.takeWhile_append_of_pos hpre, List.takeWhile_cons_of_neg (by rw [hfalse]; exact Bool.false_ne_true), List.append_nil]
  have hnone : ∀ ys : List Neighbour, (∀ y ∈ ys, y.zone ≠ z) → ys.filter (fun n => decide (n.zone = z)) = [] := fun ys h =>
    List.filter_eq_nil_iff.mpr fun y hy => by rw [decide_eq_true_iff]; exact h y hy
  have hfilter : (pre ++ own :: post).filter (fun n => decide (n.zone = z)) = [own] := by
    rw [List.filter_append, List.filter_cons_of_pos (p := fun n : Neighbour => decide (n.zone = z)) (decide_eq_true ho), hnone pre fun y hy => hn y (List.mem_append_left _ hy),
      hnone post fun y hy => hn y (List.mem_append_right _ hy)]
    rfl
  rw [nextAfter, hdrop, htake, hfilter, ← List.append_assoc, List.find?_append]
  congr 1
  rw [List.find?_singleton, eligible_eq]
  simp only [decide_eq_true_eq]

theorem advanceDwell_idle (h : s.xu.dwell = none) : advanceDwell s = s := by
  rw [advanceDwell, h]

theorem advanceDwell_eq (hl : dwellingLink s = some l) (hd : s.xu.dwell = some d) : advanceDwell s =
    if d.frames + 1 < Config.dwellFrames then { s with xu.dwell := some { d with frames := d.frames + 1 } }
    else (nextAfter s.ft.zone d.zone s.xu.neighbours).elim s fun n =>
      if n.zone = d.zone then { s with xu.dwell := some { d with frames := 0 } } else startDwell l n s := by
  simp only [advanceDwell, hd, hl]
  split
  · rfl
  · cases nextAfter s.ft.zone d.zone s.xu.neighbours <;> rfl

theorem dwellMoved_dwell (s : State) (d : Option Dwell) : DwellMoved s { s with xu.dwell := d } :=
  ⟨⟨_, rfl⟩, fun k => by rw [show linkOf { s with xu.dwell := d } k = linkOf s k by cases k <;> rfl]; exact .refl _, rfl, rfl, rfl, rfl⟩

theorem advanceDwell_moved (s : State) : DwellMoved s (advanceDwell s) := by
  cases hd : s.xu.dwell with
  | none =>
    rw [advanceDwell_idle hd]
    exact .refl s
  | some d =>
    cases hl : dwellingLink s with
    | none =>
      have h : advanceDwell s = s := by simp only [advanceDwell, hd, hl]
      rw [h]
      exact .refl s
    | some l =>
      rw [advanceDwell_eq hl hd]
      split
      · exact dwellMoved_dwell s _
      · cases nextAfter s.ft.zone d.zone s.xu.neighbours with
        | none => exact .refl s
        | some n =>
          dsimp only [Option.elim]
          split
          · exact dwellMoved_dwell s _
          · exact startDwell_moved (by rw [dwellingLink_role hl]; exact Role.noConfusion) n

/-- A state that holds the dwell, the links and the burst of `s`, with no forced request. -/
structure Unforced (s u : State) : Prop where
  xu : u.xu = { s.xu with forcedCommand := false, forcedProvision := none }
  zone : u.ft.zone = s.ft.zone
  tick : u.ft.tick = s.ft.tick
  burst : u.ssu.burst = s.ssu.burst

theorem Unforced.link (h : Unforced s u) (k : Link) : linkOf u k = linkOf s k := by
  cases k <;> simp only [linkOf, h.xu]

theorem Unforced.burstOn (h : Unforced s u) (k : Link) : burstOn u k = burstOn s k := by
  simp only [Machine.burstOn, h.burst]

theorem advanceDwell_counted (h : Unforced s u) (hl : dwellingLink u = some l) (hd : s.xu.dwell = some d) :
    DwellCounted l d s (advanceDwell u) := by
  have hud : u.xu.dwell = some d := by rw [h.xu]; exact hd
  have hns : u.xu.neighbours = s.xu.neighbours := by rw [h.xu]
  rw [advanceDwell_eq hl hud]
  refine ⟨fun hlt => ?_, fun pre own post hge hsplit ho hn => ?_⟩
  · rw [if_pos (show d.frames + 1 < Config.dwellFrames from hlt), ← h.xu]
  rw [if_neg (show ¬d.frames + 1 < Config.dwellFrames from Nat.not_lt.mpr hge), hns, hsplit, nextAfter_eq ho hn, h.zone, eligible_eq]
  refine ⟨fun hnone hown => ?_, fun x hx => ?_⟩
  · rw [hnone, Option.none_or, if_pos hown, Option.elim, if_pos ho, ← hsplit, ← hns]
    dsimp only
    rw [h.xu]
  · have hxz : x.zone ≠ d.zone := hn x (List.mem_append.mpr ((List.mem_append.mp (List.mem_of_find?_eq_some hx)).symm))
    rw [hx, Option.some_or, Option.elim, if_neg hxz]
    have hstart := startDwell_started (s := u) (l := l) (by rw [dwellingLink_role hl]; exact Role.noConfusion) (dwellingLink_usable hl) x
    rw [DwellStarted, h.link, h.link, h.tick, h.burstOn, hns] at hstart
    exact hstart

end Sys2Proof.Machine
end

section
/-! SUPPORT. The answer to the forced requests (R131, R152), and the frame start at which no link crosses over. -/

-- One proof is checked after another: each worker thread of Lean reserves memory of its own.
set_option Elab.async false

namespace Sys2Proof.Machine

variable {s t u w : State} {l : Link} {d : Dwell} {n : Neighbour} {r : ResultCode}

/-- The reply of a forced provisioning operation joins the queue. -/
def repliedQueue (r : ResultCode) (s : State) : UplinkQueue :=
  s.xu.forcedProvision.elim s.uq fun seq => (offerTo s.uq (internalRecord .provisionReply 0xF2#8 seq .routine s.ft.frame [resultByte r])).1

/-- The forced requests of `s` are answered with `r`. -/
structure ForcedAnswered (r : ResultCode) (s t : State) : Prop where
  eq : ∃ attention result causes requests cu, t = { s with
    xu.forcedCommand := false, xu.forcedProvision := none, uq := repliedQueue r s
    mae.attention := attention, mae.result := result, au.causes := causes, au.requests := requests, cu := cu }
  causes : t.au.causes = s.au.causes ∨ t.au.causes = s.au.causes ||| causeBit .queueDrop
  requests : t.au.requests = s.au.requests ∨ t.au.requests = s.au.requests ||| requestBit .fault
  kept : s.xu.forcedCommand = false → t.cu = s.cu ∧ t.mae.result = s.mae.result
  replied : ∀ code tag, s.xu.forcedCommand = true → s.cu.state = .waiting code tag .crossover →
    t.cu = { s.cu with state := .executing code tag } ∧ t.mae.result = some ⟨s.mae.publication, resultWords r code tag []⟩

theorem forcedReplied_false (r : ResultCode) (h : s.xu.forcedCommand = false) : forcedReplied r s = s := by
  rw [forcedReplied, h]
  rfl

theorem forcedReplied_true (r : ResultCode) (h : s.xu.forcedCommand = true) :
    forcedReplied r s = replyCommand r [] { s with xu.forcedCommand := false } := by
  rw [forcedReplied, h]
  rfl

theorem forcedReplied_shape (r : ResultCode) (s : State) : ∃ result cu, forcedReplied r s =
    { s with xu.forcedCommand := false, mae.result := result, cu := cu } ∧
    (s.xu.forcedCommand = false → cu = s.cu ∧ result = s.mae.result) ∧
    (∀ code tag, s.xu.forcedCommand = true → s.cu.state = .waiting code tag .crossover →
      cu = { s.cu with state := .executing code tag } ∧ result = some ⟨s.mae.publication, resultWords r code tag []⟩) := by
  cases hc : s.xu.forcedCommand with
  | false =>
    rw [forcedReplied_false r hc]
    exact ⟨s.mae.result, s.cu, by rw [← hc], fun _ => ⟨rfl, rfl⟩, fun _ _ h => Bool.noConfusion h⟩
  | true =>
    rw [forcedReplied_true r hc]
    refine ⟨_, _, rfl, fun h => Bool.noConfusion h, fun code tag _ hw => ?_⟩
    simp only [hw, and_self]

theorem answerForced_answered (r : ResultCode) (s : State) : ForcedAnswered r s (answerForced r s) := by
  obtain ⟨result, cu, hf, hkept, hreplied⟩ := forcedReplied_shape r s
  cases hp : s.xu.forcedProvision with
  | none =>
    have h : answerForced r s = { s with xu.forcedCommand := false, mae.result := result, cu := cu } := by
      rw [← hf]
      unfold answerForced
      rw [show (if s.xu.forcedCommand then replyCommand r [] { s with xu.forcedCommand := false } else s) = forcedReplied r s from rfl, hf]
      simp only [hp]
    rw [h]
    refine ⟨⟨s.mae.attention, result, s.au.causes, s.au.requests, cu, ?_⟩, .inl rfl, .inl rfl, hkept, hreplied⟩
    have hq : repliedQueue r s = s.uq := by rw [repliedQueue, hp]; rfl
    rw [hq, ← hp]
  | some seq =>
    rw [answerForced_some r hp, hf]
    obtain ⟨attention, causes, requests, ho, hcauses, hrequests⟩ :=
      offer_moves (internalRecord .provisionReply tagProvisionReply seq .routine s.ft.frame [resultByte r])
        { s with xu.forcedCommand := false, xu.forcedProvision := none, mae.result := result, cu := cu }
    have ho : offerProvisionReply seq r { s with xu.forcedCommand := false, xu.forcedProvision := none, mae.result := result, cu := cu } = _ := ho
    have hgoal : ∀ z, z = offerProvisionReply seq r { s with xu.forcedCommand := false, xu.forcedProvision := none, mae.result := result, cu := cu } →
        ForcedAnswered r s z := fun z hz => by
      rw [ho] at hz
      subst hz
      refine ⟨⟨attention, result, causes, requests, cu, ?_⟩, hcauses, hrequests, hkept, hreplied⟩
      rw [repliedQueue, hp]
      rfl
    exact hgoal _ rfl

theorem ForcedAnswered.unforced (h : ForcedAnswered r s t) : Unforced s t := by
  obtain ⟨attention, result, causes, requests, cu, ht⟩ := h.eq
  subst ht
  exact ⟨rfl, rfl, rfl, rfl⟩

/-! ### The decision (R130 to R132) -/

theorem qualifiedStandby_eq_some {b : DwellBeacon} {a : Tick} (h : qualifiedStandby s = some (l, n, b, a)) :
    dwellingLink s = some l ∧ dwelt s = some n ∧ s.xu.dwellBeacon = some b ∧ n.lastArrival = some a ∧
      ∃ d, s.xu.dwell = some d ∧ d.heard = true := by
  unfold qualifiedStandby at h
  split at h
  · next l' d' n' b' hl hd hn hb =>
    split at h
    · next a' ha =>
      split at h
      · next hh =>
        cases h
        exact ⟨hl, hn, hb, ha, d', hd, hh⟩
      · cases h
    · cases h
  · cases h

theorem qualifiedStandby_of {b : DwellBeacon} {a : Tick} (hl : dwellingLink s = some l) (hd : s.xu.dwell = some d) (hh : d.heard = true)
    (hn : dwelt s = some n) (hb : s.xu.dwellBeacon = some b) (ha : n.lastArrival = some a) : qualifiedStandby s = some (l, n, b, a) := by
  simp only [qualifiedStandby, hl, hd, hn, hb, ha, hh, if_true]

/-- Of the two links, one that is PRIMARY stands beside the STANDBY link. -/
theorem eq_otherLink_of_primary {p : Link} (hl : (linkOf s l).role = .standby) (hp : primaryLink s = some p) : p = otherLink l := by
  have hrole : (linkOf s p).role = .primary := linkWithRole_role hp
  obtain h | h := eq_or_eq_otherLink l p
  · rw [h, hl] at hrole
    cases hrole
  · exact h

theorem primaryFaulted_iff (hl : (linkOf s l).role = .standby) : primaryFaulted s = true ↔
    primaryLink s = some (otherLink l) ∧ ((linkOf s (otherLink l)).condition = .txFault ∨ (linkOf s (otherLink l)).condition = .portFault) := by
  unfold primaryFaulted
  cases hp : primaryLink s with
  | none => simp
  | some p =>
    obtain rfl := eq_otherLink_of_primary hl hp
    simp only [Bool.not_eq_true', usable_eq_false_iff, true_and]

theorem ordinaryTest_iff (hl : (linkOf s l).role = .standby) : ordinaryTest s l n = true ↔
    primaryLink s = some (otherLink l) ∧ (linkOf s l).condition = .ready ∧ 4 ≤ n.good ∧
      (linkOf s (otherLink l)).a8 + 8 * s.xu.margin ≤ n.a8 := by
  unfold ordinaryTest
  cases hp : primaryLink s with
  | none => simp
  | some p =>
    obtain rfl := eq_otherLink_of_primary hl hp
    have hrole : (linkOf s (otherLink l)).role = .primary := linkWithRole_role hp
    simp [linkA8, hrole, and_assoc]

theorem forcedPending_iff : forcedPending s = true ↔ s.xu.forcedCommand = true ∨ s.xu.forcedProvision ≠ none := by
  rw [forcedPending, Bool.or_eq_true, Option.isSome_iff_ne_none]

/-- No forced request, no faulted PRIMARY link and not the ordinary conditions: the links stay. -/
theorem decideCrossover_stays {b : DwellBeacon} {a : Tick} (hq : qualifiedStandby s = some (l, n, b, a)) (hf : forcedPending s = false)
    (hp : primaryFaulted s = false) (ho : ordinaryTest s l n = false) : decideCrossover s = advanceDwell s := by
  simp only [decideCrossover, hq, hf, hp, ho, Bool.or_self, Bool.false_eq_true, if_false]

theorem decideCrossover_unqualified (hq : qualifiedStandby s = none) :
    decideCrossover s = advanceDwell (answerForced .noCandidate s) := by
  simp only [decideCrossover, hq]

theorem unforced_of (h : forcedPending s = false) : s.xu.forcedCommand = false ∧ s.xu.forcedProvision = none := by
  rw [forcedPending, Bool.or_eq_false_iff] at h
  exact ⟨h.1, Option.isNone_iff_eq_none.mp (by rw [← Option.not_isSome, h.2]; rfl)⟩

/-- Where a qualified STANDBY link meets none of the conditions, or none qualifies, no link crosses over. -/
theorem decideCrossover_calm (h : ∀ l d n, (linkOf s l).role = .standby → s.xu.dwell = some d → d.heard = true → dwelt s = some n →
      s.xu.forcedCommand = false ∧ s.xu.forcedProvision = none ∧ (linkOf s (otherLink l)).condition ≠ .txFault ∧
        (linkOf s (otherLink l)).condition ≠ .portFault ∧
        ¬((linkOf s l).condition = .ready ∧ 4 ≤ n.good ∧ (linkOf s (otherLink l)).a8 + 8 * s.xu.margin ≤ n.a8)) :
    decideCrossover s = advanceDwell (answerForced .noCandidate s) := by
  cases hq : qualifiedStandby s with
  | none => exact decideCrossover_unqualified hq
  | some q =>
    obtain ⟨l, n, b, a⟩ := q
    obtain ⟨hl, hn, -, -, d, hd, hh⟩ := qualifiedStandby_eq_some hq
    have hr := dwellingLink_role hl
    obtain ⟨hc, hp, htx, hport, hord⟩ := h l d n hr hd hh hn
    rw [answerForced_none _ hc hp]
    refine decideCrossover_stays hq ?_ ?_ ?_
    · exact Bool.eq_false_iff.mpr fun hf => (forcedPending_iff.mp hf).elim (by rw [hc]; exact Bool.false_ne_true) (absurd hp)
    · exact Bool.eq_false_iff.mpr fun hf => ((primaryFaulted_iff hr).mp hf).2.elim htx hport
    · exact Bool.eq_false_iff.mpr fun hf => hord ((ordinaryTest_iff hr).mp hf).2

end Sys2Proof.Machine
end

section
/-! SUPPORT. FRAME_START with no crossover, field by field. -/

-- One proof is checked after another: each worker thread of Lean reserves memory of its own.
set_option Elab.async false

namespace Sys2Proof.Machine

variable {s t u w : State} {l : Link} {d : Dwell} {n : Neighbour} {r : ResultCode} {fn : Tick} {before : State} {i : Nat}

theorem frameStartDue_of (hl : s.ft.lock ≠ .search) (hfn : s.ft.next = some fn) : frameStartDue s = some fn := by
  rw [frameStartDue, if_neg hl, hfn]

theorem exec_frameStart (hs : s = reachEvent .frameStart before) (hl : s.ft.lock ≠ .search) (hfn : s.ft.next = some fn)
    (hd : tickDiff fn s.ft.tick ≤ 0) : exec .frameStart before = .next (frameStartAt fn s) := by
  have hdue := frameStartDue_of hl hfn
  have hrun : runFrameStart s = frameStartAt fn s := by rw [runFrameStart, hdue]
  rw [← hrun]
  subst hs
  exact congrArg _ (takeEvent_due (e := .frameStart) hdue hd)

/-! ### The frame begun (R81) -/

/-- The slot count of the frame that begins. -/
def begunSlots (f : FrameTimer) : Nat := f.layout.elim f.slots fun y => if y.skip = 0 then y.slots else f.slots

theorem beginFrame_slots (fn : Tick) (f : FrameTimer) : (beginFrame fn f).slots = begunSlots f := by
  unfold beginFrame begunSlots
  cases f.layout with
  | none => rfl
  | some y =>
    dsimp only [Option.elim]
    split <;> rfl

theorem beginFrame_next (fn : Tick) (f : FrameTimer) :
    (beginFrame fn f).next = some (fn + BitVec.ofNat 32 (beginFrame fn f).period) := rfl

theorem beginFrame_none (h : s.ft.layout = none) : (beginFrame fn s.ft).period = s.ft.period ∧ (beginFrame fn s.ft).slots = s.ft.slots ∧
    (beginFrame fn s.ft).layout = none := by
  simp [beginFrame, h]

theorem beginFrame_now {y : PendingLayout} (h : s.ft.layout = some y) (hy : y.skip = 0) : (beginFrame fn s.ft).period = y.period ∧
    (beginFrame fn s.ft).slots = y.slots ∧ (beginFrame fn s.ft).layout = none := by
  simp [beginFrame, h, hy]

theorem beginFrame_later {y : PendingLayout} (h : s.ft.layout = some y) (hy : 0 < y.skip) : (beginFrame fn s.ft).period = s.ft.period ∧
    (beginFrame fn s.ft).slots = s.ft.slots ∧ (beginFrame fn s.ft).layout = some { y with skip := y.skip - 1 } := by
  simp [beginFrame, h, Nat.pos_iff_ne_zero.mp hy]

theorem beginFrame_frame {x : BitVec 6} (h : s.ft.pendingFrame = some x) : (beginFrame fn s.ft).frame = x := by
  simp [beginFrame, h]

/-! ### FRAME_START with no crossover -/

theorem FrameBegun.figures (h : FrameBegun fn s w) : w.ft = beginFrame fn s.ft ∧ w.ab = creditFrame s.ab ∧ w.xu = s.xu ∧ w.dlf = s.dlf ∧
    w.ram = s.ram ∧ w.cu = s.cu := by
  have he := h.eq
  refine ⟨?_, ?_, ?_, ?_, ?_, ?_⟩
  all_goals
    rw [he]

/-- What a frame start without a crossover gives, once the dwell is advanced. -/
structure FrameBegunOnly (fn : Tick) (s t : State) : Prop where
  ft : t.ft = beginFrame fn s.ft
  ab : t.ab = creditFrame s.ab
  windows : ∀ i < 16, entryAt t i = (entryAt s i).map fun e => (e.ticked s.vrst s.ftu.flags).aged
  ftu : t.ftu = { s.ftu with gatedTriggers := gatedCount s }
  uq : t.uq = repliedQueue .noCandidate { s with
    ft := beginFrame fn s.ft, uq := ((List.range 16).filter (snapsAt s)).foldl (offeredIn (beginFrame fn s.ft).frame s) s.uq }
  ssu : t.ssu = { s.ssu with unusedGrants := counterAdd s.ssu.unusedGrants (beyondSlots (beginFrame fn s.ft).slots s.ssu.grants) }
  mirrorList : t.mae.mirrorList = (List.range 16).foldl (agedList s) s.mae.mirrorList
  status : t.mae.status = true ∨ ∃ j ∈ t.mae.stack, j.work = .status true
  causes : t.au.causes ||| causeBit .queueDrop = s.au.causes ||| causeBit .queueDrop ||| staleCause ((List.range 16).any (staleAt s))
  reported : (List.range 16).any (staleAt s) = true → t.au.requests &&& requestBit .fault ≠ 0#6
  same : t.ram = s.ram ∧ t.dlf = s.dlf
  kept : s.xu.forcedCommand = false → t.cu = s.cu ∧ t.mae.result = s.mae.result
  replied : ∀ code tag, s.xu.forcedCommand = true → s.cu.state = .waiting code tag .crossover →
    t.cu = { s.cu with state := .executing code tag } ∧ t.mae.result = some ⟨s.mae.publication, resultWords .noCandidate code tag []⟩

theorem or_right_swap {w : Nat} (a b c : BitVec w) : a ||| b ||| c = a ||| c ||| b := by
  rw [BitVec.or_assoc, BitVec.or_comm b, BitVec.or_assoc]

/-- A cause that may have been added besides. -/
theorem or_of_added {w : Nat} {a x y b : BitVec w} (h : x = a ||| y ∨ x = a ||| b ||| y) : x ||| b = a ||| b ||| y := by
  obtain rfl | rfl := h
  · exact or_right_swap _ _ _
  · rw [or_right_swap, BitVec.or_assoc, BitVec.or_assoc, ← BitVec.or_assoc b b, BitVec.or_self, ← BitVec.or_assoc]

theorem begunOnly (hw : FrameBegun fn s w) (ha : ForcedAnswered .noCandidate w u) (ht : DwellMoved u t) : FrameBegunOnly fn s t := by
  obtain ⟨hft, huq, hssu, hab, hmae, hau, hcu, hram, hwt, hftu, hdlf⟩ := ht.same
  obtain ⟨wft, wab, wxu, wdlf, wram, wcu⟩ := hw.figures
  obtain ⟨attention, result, causes, requests, cu, hu⟩ := ha.eq
  have hxc : w.xu.forcedCommand = s.xu.forcedCommand := by rw [wxu]
  have hxp : w.xu.forcedProvision = s.xu.forcedProvision := by rw [wxu]
  constructor
  case ft => rw [hft, hu, wft]
  case ab => rw [hab, hu, wab]
  case windows =>
    intro i hi
    have h := hw.windows i
    rw [if_pos hi] at h
    rw [entryAt, hwt, hu]
    exact h
  case ftu => rw [hftu, hu, hw.ftu]
  case uq =>
    rw [huq, hu]
    show repliedQueue .noCandidate w = _
    rw [repliedQueue, hxp, hw.uq, wft]
    rfl
  case ssu => rw [hssu, hu, hw.ssu]
  case mirrorList => rw [hmae, hu, hw.mirrorList]
  case status =>
    rw [hmae, hu]
    exact hw.status
  case causes =>
    have h := ha.causes
    rw [hau]
    have hwc := or_of_added hw.causes
    obtain h | h := h
    · rw [h, hwc]
    · rw [h, BitVec.or_assoc, BitVec.or_self, hwc]
  case reported =>
    intro hs
    have h : u.au.requests = s.au.requests ||| requestBit .fault := by
      obtain h' | h' := ha.requests
      · rw [h', hw.reported hs]
      · rw [h', hw.reported hs, BitVec.or_assoc, BitVec.or_self]
    rw [hau, h]
    exact or_and_requestBit_ne _ _
  case same => exact ⟨by rw [hram, hu, wram], by rw [hdlf, hu, wdlf]⟩
  case kept =>
    intro h
    obtain ⟨hc, hr⟩ := ha.kept (hxc.trans h)
    exact ⟨by rw [hcu, hc, wcu], by rw [hmae, hr, hw.result]⟩
  case replied =>
    intro code tag h hs
    obtain ⟨hc, hr⟩ := ha.replied code tag (hxc.trans h) (by rw [wcu]; exact hs)
    exact ⟨by rw [hcu, hc, wcu], by rw [hmae, hr, hw.publication]⟩

end Sys2Proof.Machine
end

section
/-! SUPPORT. The passing of time over a frame start and the start of slot 0 (R78, R79). -/

-- One proof is checked after another: each worker thread of Lean reserves memory of its own.
set_option Elab.async false

namespace Sys2Proof.Machine

variable {s t u w x y : State} {l : Link} {fn dt : Tick} {k : BitVec 6}

/-! ### The Tick Counter across a frame start and a slot start -/

theorem side_followOpening (s : State) : side (followOpening s) = side s := by
  unfold followOpening openWindow
  repeat' split
  all_goals rfl

theorem side_swapRoles (l : Link) (a8 : Nat) (s : State) : side (swapRoles l a8 s) = side s := by
  rw [swapRoles, side_settleBurst, side_requestStatus, side_mapLink, side_mapLink]

theorem side_enterLocked (s : State) : side (enterLocked s) = side s := by
  rw [enterLocked, side_setLock]
  rfl

theorem side_enterAcquire (good : Nat) (s : State) : side (enterAcquire good s) = side s := by
  rw [enterAcquire, side_setLock]
  rfl

/-- The state of a crossover at its step 3 (R133): the roles have swapped, the frame is seeded, and the lock state is entered. -/
def crossLocked (l : Link) (n : Neighbour) (b : DwellBeacon) (a : Tick) (s : State) : State :=
  if 3 ≤ n.good then enterLocked { swapRoles l n.a8 s with ft := seedAhead a n.zone b (swapRoles l n.a8 s).ft }
  else enterAcquire n.good { swapRoles l n.a8 s with ft := seedAhead a n.zone b (swapRoles l n.a8 s).ft }

/-- The state of a crossover at its step 6: the grants are gone, the records have returned and the JOIN is made. -/
def crossJoined (l : Link) (n : Neighbour) (b : DwellBeacon) (a : Tick) (s : State) : State :=
  createJoin (settleQueue returnAwaiting { crossLocked l n b a s with ssu.grants := [], ssu.contention := [] })

/-- The dwell of the new STANDBY link, the LINK request and the count of the crossovers. -/
def crossCounted (s : State) : State :=
  let t := raiseRequest .link (adjustDwell (endDwell s))
  { t with xu.crossovers := bump t.xu.crossovers }

variable {n : Neighbour} {b : DwellBeacon} {a : Tick}

theorem crossOver_eq (l : Link) (n : Neighbour) (b : DwellBeacon) (a : Tick) (s : State) :
    crossOver l n b a s = followOpening (crossCounted (crossJoined l n b a s)) := by
  unfold crossOver crossCounted crossJoined crossLocked
  dsimp only

theorem side_crossLocked (l : Link) (s : State) : side (crossLocked l n b a s) = side s := by
  have h : side { swapRoles l n.a8 s with ft := seedAhead a n.zone b (swapRoles l n.a8 s).ft } = side s := side_swapRoles l n.a8 s
  unfold crossLocked
  split
  · rw [side_enterLocked, h]
  · rw [side_enterAcquire, h]

theorem side_crossJoined (l : Link) (s : State) : side (crossJoined l n b a s) = side s := by
  rw [crossJoined, side_createJoin, side_settleQueue]
  exact side_crossLocked l s

theorem side_crossCounted (s : State) : side (crossCounted s) = side s := by
  have h : side (raiseRequest .link (adjustDwell (endDwell s))) = side s := by
    rw [side_raiseRequest, side_adjustDwell, side_endDwell]
  exact h

theorem side_crossOver (l : Link) (s : State) : side (crossOver l n b a s) = side s := by
  rw [crossOver_eq, side_followOpening, side_crossCounted, side_crossJoined]

theorem side_decideCrossover (s : State) : side (decideCrossover s) = side s := by
  unfold decideCrossover
  repeat' split
  · rw [side_answerForced, side_crossOver]
  · exact side_crossOver _ _
  · exact side_advanceDwell s
  · rw [side_advanceDwell, side_answerForced]

theorem tick_frameStartAt (fn : Tick) (s : State) : (frameStartAt fn s).ft.tick = s.ft.tick := by
  obtain ⟨w, hw, he⟩ := frameStartAt_begun fn s
  rw [he]
  refine (side_eq_iff.mp (side_decideCrossover w)).2.2.2.2.2.1.trans ?_
  rw [hw.figures.1]
  rfl

theorem tick_prepare (l : Link) (k : BitVec 6) (cs : List Candidate) (s : State) : (prepare l k cs s).ft.tick = s.ft.tick := by
  unfold prepare
  dsimp only
  obtain ⟨uq, ssu, mae, au, h⟩ := noteOversize_keeps (selectRecords s cs).oversize s
  rw [h]
  unfold sendBurst
  split
  · rfl
  · cases l <;> rfl

theorem tick_serveSlot (k : BitVec 6) (late : Bool) (s : State) : (serveSlot k late s).ft.tick = s.ft.tick := by
  unfold serveSlot
  repeat' split
  exacts [rfl, tick_prepare _ _ _ _, rfl, rfl, tick_prepare _ _ _ _, rfl, rfl]

theorem tick_slotStartAt (k : BitVec 6) (s : State) : (slotStartAt k s).ft.tick = s.ft.tick := by
  unfold slotStartAt
  split
  exacts [tick_serveSlot _ _ _, rfl]

/-! ### The passing of time -/

theorem EngineQuiet.gap (h : EngineQuiet s) : openGap s = s := openGap_of_settled h.settled h.bus

theorem le_of_firstDue {r : Int} (h : ∀ e ∈ events s, ∀ at_, dueTick s e = some at_ → r ≤ tickDiff at_ s.ft.tick) {e : Event} {d : Int}
    (hf : firstDue s = some (e, d)) : r ≤ d := by
  obtain ⟨he, hu⟩ := of_firstDue hf
  obtain ⟨at_, hat, rfl⟩ := Option.map_eq_some_iff.mp hu
  exact h e he at_ hat

theorem elapse_still (hp : s.porn = true) (hq : EngineQuiet s)
    (h : ∀ e ∈ events s, ∀ at_, dueTick s e = some at_ → (dt.toNat : Int) ≤ tickDiff at_ s.ft.tick) :
    elapse dt s = { s with ft.tick := s.ft.tick + dt } := by
  rw [elapse_quiet hp hq.gap fun e d => le_of_firstDue h]
  simp [countTicks, tickAdd]

/-- The ticks until a later tick value lead to it. -/
theorem tickAdd_until {fn tick : Tick} (h : 0 < tickDiff fn tick) : tickAdd tick (tickDiff fn tick).toNat = fn := by
  have hpos : (fn - tick).toInt = (fn - tick).toNat := by
    have h' := h
    unfold tickDiff at h'
    rw [BitVec.toInt_eq_toNat_cond] at h' ⊢
    split
    · rfl
    · next hb =>
      rw [if_neg hb] at h'
      have := (fn - tick).isLt
      omega
  rw [tickAdd, tickDiff, hpos, Int.toNat_natCast, BitVec.ofNat_toNat, BitVec.setWidth_eq, BitVec.add_comm, BitVec.sub_add_cancel]

theorem tickAdd_tickAdd (tick : Tick) (m n : Nat) : tickAdd (tickAdd tick m) n = tickAdd tick (m + n) := by
  rw [tickAdd, tickAdd, tickAdd, BitVec.add_assoc, BitVec.ofNat_add]

theorem tickAdd_toNat (tick dt : Tick) : tickAdd tick dt.toNat = tick + dt := by
  rw [tickAdd, BitVec.ofNat_toNat, BitVec.setWidth_eq]

/-- The tick of an event that is still to come is reached by counting. -/
theorem countTicks_until (fn : Tick) (s : State) : countTicks (tickDiff fn s.ft.tick).toNat s =
    { s with ft.tick := if 0 < tickDiff fn s.ft.tick then fn else s.ft.tick } := by
  by_cases h : 0 < tickDiff fn s.ft.tick
  · rw [if_pos h, countTicks, tickAdd_until h]
  · rw [if_neg h, Int.toNat_of_nonpos (Int.not_lt.mp h)]
    exact countTicks_zero s

/-- The start of slot 0 that falls due before every other event is the first due. -/
theorem firstDue_slotStart {d : Int} (hn : s.ft.nextSlot = 0) (hd : untilDue s (.slotStart 0#6) = some d)
    (h : ∀ e ∈ events s, e ≠ .slotStart 0#6 → ∀ c, untilDue s e = some c → d < c) : firstDue s = some (.slotStart 0#6, d) := by
  have hev : events s = .frameStart :: .slotStart 0#6 :: [.keyGuard, .key, .windowOpen, .windowClose,
      .closeTimeout, .watchClose, .watchTimeout, .tuneExpiry .a, .tuneExpiry .b, .scanExpiry .a, .scanExpiry .b] := by
    rw [events, hn]
  rw [hev] at h
  have hfirst : earlier s (earlier s none .frameStart) (.slotStart 0#6) = some (.slotStart 0#6, d) := by
    cases hf : untilDue s .frameStart with
    | none => simp only [earlier, hf, hd]
    | some c =>
      simp only [earlier, hf, hd]
      exact if_pos (h .frameStart (List.mem_cons_self) nofun c hf)
  rw [firstDue, hev, List.foldl_cons, List.foldl_cons, hfirst]
  refine foldl_earlier _ fun f hf c hc => (h f (List.mem_cons_of_mem _ (List.mem_cons_of_mem _ hf)) ?_ c hc).le
  rintro rfl
  exact absurd hf (by decide)

theorem elapse_frameStart (hp : s.porn = true) (hq : EngineQuiet s) (hl : s.ft.lock ≠ .search) (hfn : s.ft.next = some fn)
    (hlt : tickDiff fn s.ft.tick < dt.toNat)
    (hfirst : ∀ e ∈ events s, ∀ at_, dueTick s e = some at_ → tickDiff fn s.ft.tick ≤ tickDiff at_ s.ft.tick)
    (hx : x = frameStartAt fn { s with ft.tick := if 0 < tickDiff fn s.ft.tick then fn else s.ft.tick }) (hy : y = slotStartAt 0#6 x)
    {rest : Int} (hrest : rest = dt.toNat - max 0 (tickDiff fn s.ft.tick)) (hxq : EngineQuiet x) (hslot : slotDue x 0 = some fn)
    (hxfirst : ∀ e ∈ events x, e ≠ .slotStart 0#6 → ∀ at_, dueTick x e = some at_ → rest ≤ tickDiff at_ x.ft.tick)
    (hyq : EngineQuiet y) (hyfirst : ∀ e ∈ events y, ∀ at_, dueTick y e = some at_ → rest ≤ tickDiff at_ y.ft.tick) :
    elapse dt s = { y with ft.tick := s.ft.tick + dt } := by
  obtain ⟨N, hN⟩ : ∃ N, eventBound dt.toNat = N + 1 + 1 := ⟨eventBound dt.toNat - 2, by unfold eventBound; omega⟩
  have hdue : dueTick s .frameStart = some fn := frameStartDue_of hl hfn
  have huntil : untilDue s .frameStart = some (tickDiff fn s.ft.tick) := by rw [untilDue, hdue]; rfl
  have hfd := firstDue_frameStart huntil fun e he c hc => by
    obtain ⟨at_, hat, rfl⟩ := Option.map_eq_some_iff.mp hc
    exact hfirst e he at_ hat
  have hx' : occur .frameStart (countTicks (tickDiff fn s.ft.tick).toNat s) = x := by
    rw [countTicks_until, hx]
    show runFrameStart _ = _
    have hd : frameStartDue { s with ft.tick := if 0 < tickDiff fn s.ft.tick then fn else s.ft.tick } = some fn := hdue
    rw [runFrameStart, hd]
  rw [elapse_up dt hp, hN, runFor_event (fun _ => hq.gap) hfd hlt, hx', ← hrest]
  have hxtick : x.ft.tick = if 0 < tickDiff fn s.ft.tick then fn else s.ft.tick := by rw [hx, tick_frameStartAt]
  have hsd : dueTick x (.slotStart 0#6) = some fn := hslot
  have hsu : untilDue x (.slotStart 0#6) = some (tickDiff fn x.ft.tick) := by rw [untilDue, hsd]; rfl
  have hnext : x.ft.nextSlot = 0 := by
    by_contra hne
    have hnone : slotDue x 0 = none := by
      unfold slotDue
      exact if_neg fun ⟨_, _, hle, _⟩ => hne (Nat.le_zero.mp hle)
    rw [hnone] at hslot
    cases hslot
  have hneg : tickDiff fn x.ft.tick ≤ 0 ∧ tickDiff fn x.ft.tick < rest := by
    rw [hxtick]
    by_cases hd : 0 < tickDiff fn s.ft.tick
    · rw [if_pos hd, tickDiff, BitVec.sub_self, BitVec.toInt_zero]
      omega
    · rw [if_neg hd]
      omega
  have hfx := firstDue_slotStart hnext hsu fun e he hne c hc => by
    obtain ⟨at_, hat, rfl⟩ := Option.map_eq_some_iff.mp hc
    exact lt_of_lt_of_le hneg.2 (hxfirst e he hne at_ hat)
  have hy' : occur (.slotStart 0#6) (countTicks (tickDiff fn x.ft.tick).toNat x) = y := by
    rw [Int.toNat_of_nonpos hneg.1, countTicks_zero, hy]
    rfl
  rw [runFor_event (fun _ => hxq.gap) hfx hneg.2, hy', Int.max_eq_left hneg.1, Int.sub_zero,
    runFor_quiet (fun _ => hyq.gap) fun e d => le_of_firstDue hyfirst]
  have htick : tickAdd y.ft.tick rest.toNat = s.ft.tick + dt := by
    rw [hy, tick_slotStartAt, hxtick, hrest]
    by_cases hd : 0 < tickDiff fn s.ft.tick
    · have hsum : (tickDiff fn s.ft.tick).toNat + (dt.toNat - max 0 (tickDiff fn s.ft.tick)).toNat = dt.toNat := by omega
      have hadd := tickAdd_tickAdd s.ft.tick (tickDiff fn s.ft.tick).toNat (dt.toNat - max 0 (tickDiff fn s.ft.tick)).toNat
      rw [tickAdd_until hd, hsum, tickAdd_toNat] at hadd
      rw [if_pos hd, hadd]
    · rw [if_neg hd, Int.max_eq_left (Int.not_lt.mp hd), Int.sub_zero, Int.toNat_natCast, tickAdd_toNat]
  rw [countTicks, htick]

end Sys2Proof.Machine
end

section
/-! SUPPORT. FRAME_START (R78, R79, R81): the statement about frame starts and the passing of time. -/

-- One proof is checked after another: each worker thread of Lean reserves memory of its own.
set_option Elab.async false

namespace Sys2Proof.Machine

variable {s t u w : State} {i : Nat} {c : Capture} {vrst : Bool} {flags : BitVec 8} {n : Nat}

theorem snaps_period (hm : c.mode = .period n) : c.snaps vrst flags =
    ((decide (n ≤ c.periodCount + 1) && !(decide (c.state = .active) && !vrst && c.changedOnly && !c.dirty)) &&
      !(decide (c.state = .loading) || vrst) && c.gate.all fun g => conditionFlag flags g.flag == g.sense) := by
  simp only [Capture.snaps, Capture.fires, hm, Capture.waits, Capture.opened]

theorem fires_of_period (hm : c.mode = .period n) : c.fires vrst =
    (decide (n ≤ c.periodCount + 1) && !(decide (c.state = .active) && !vrst && c.changedOnly && !c.dirty)) := by
  simp only [Capture.fires, hm]

theorem ticked_period (hm : c.mode = .period n) : c.ticked vrst flags = { c with
    periodCount := if c.periodCount + 1 < n then c.periodCount + 1 else 0
    triggerPending := c.triggerPending || (c.fires vrst && c.waits vrst)
    seq := if c.snaps vrst flags then c.seq + 1#8 else c.seq
    dirty := c.dirty && !c.snaps vrst flags } := by
  simp only [Capture.ticked, hm]

theorem ticked_other (hm : ∀ n, c.mode ≠ .period n) : c.ticked vrst flags = c := by
  cases h : c.mode with
  | period n => exact absurd h (hm n)
  | last | word _ | after _ | rise _ => simp only [Capture.ticked, h]

theorem beyondSlots_eq (slots : Nat) (gs : List Grant) : beyondSlots slots gs = ((List.range 127).filter fun k => decide (slots ≤ k) &&
    gs.any fun g => decide (g.first ≤ k ∧ k < g.first + g.count)).length := by
  unfold beyondSlots coveredSlots covers
  rw [List.filter_filter]
  simp only [Bool.decide_and]

theorem Unforced.dwellingLink (h : Unforced s u) (hl : u.ft.lock = s.ft.lock) : dwellingLink u = dwellingLink s := by
  have hs : standbyLink u = standbyLink s := by simp only [standbyLink, linkWithRole, h.xu]
  rw [Machine.dwellingLink, Machine.dwellingLink, hs]
  cases standbyLink s with
  | none => rfl
  | some k => simp only [h.link, hl]

theorem ForcedAnswered.lock {r : ResultCode} (h : ForcedAnswered r s t) : t.ft.lock = s.ft.lock := by
  obtain ⟨attention, result, causes, requests, cu, ht⟩ := h.eq
  rw [ht]

/-- Settles O50. -/
theorem frameStarts : Obligations.FrameStarts := by
  refine ⟨fun dt s hp hq => ⟨elapse_still hp hq, fun fn hl hfn hlt hfirst hxq hslot hxfirst hyq hyfirst => ?_⟩, ?_⟩
  · exact elapse_frameStart hp hq hl hfn hlt hfirst rfl rfl rfl hxq hslot hxfirst hyq hyfirst
  intro fn before s hfn hl hd hcalm f stale reported begun beyond fires waits opened snapped windows closed answered
  have hx := exec_frameStart (s := s) rfl hl hfn hd
  obtain ⟨w, hw, hf⟩ := frameStartAt_begun fn s
  obtain ⟨wft, wab, wxu, wdlf, wram, wcu⟩ := hw.figures
  have hlink : ∀ k, linkOf w k = linkOf s k := fun k => by cases k <;> simp only [linkOf, wxu]
  have hdwelt : dwelt w = dwelt s := by simp only [dwelt, neighbourOf, wxu]
  have hstays : decideCrossover w = advanceDwell (answerForced .noCandidate w) := decideCrossover_calm fun l d n hr hdw hh hn => by
    rw [hlink] at hr
    rw [wxu] at hdw
    rw [hdwelt] at hn
    rw [hlink, hlink, wxu]
    exact hcalm l d n hr hdw hh hn
  obtain ⟨u, hu⟩ : ∃ u, u = answerForced .noCandidate w := ⟨_, rfl⟩
  have ha := answerForced_answered .noCandidate w
  rw [← hu] at ha
  rw [← hu] at hstays
  have hun : Unforced s u := by
    obtain ⟨hxu, hzone, htick, hburst⟩ := ha.unforced
    exact ⟨by rw [hxu, wxu], by rw [hzone, wft]; rfl, by rw [htick, wft]; rfl, by rw [hburst, hw.ssu]⟩
  have hlock : u.ft.lock = s.ft.lock := by
    rw [ha.lock, wft]
    rfl
  have hm := advanceDwell_moved u
  have hb := begunOnly hw ha hm
  refine ⟨advanceDwell u, hx.trans (by rw [hf, hstays]), ?_⟩
  obtain ⟨t, ht⟩ : ∃ t, t = advanceDwell u := ⟨_, rfl⟩
  rw [← ht] at hm hb ⊢
  have hft := hb.ft
  have hframe : t.ft.frame = (beginFrame fn s.ft).frame := by rw [hft]
  have hcapture : ∀ i < 16, captureAt t i = (captureAt s i).map (Capture.ticked s.vrst s.ftu.flags) := fun i hi =>
    captureAt_ticked (hb.windows i hi)
  have hsnapped : ∀ c n, c.mode = .period n → snapped c n = c.snaps s.vrst s.ftu.flags := fun c n hm => (snaps_period hm).symm
  have hwindows : ∀ p (q : Capture → Bool), (∀ c n, c.mode = .period n → p c n = q c) → (∀ c, (∀ n, c.mode ≠ .period n) → q c = false) →
      windows p = (List.range 16).filter fun i => (captureAt s i).any q := fun p q hp hq => by
    refine congrArg (fun g => (List.range 16).filter g) (funext fun i => congrArg (captureAt s i).any (funext fun c => ?_))
    cases hm : c.mode with
    | period n => exact hp c n hm
    | last | word _ | after _ | rise _ => exact (hq c fun n h => by rw [hm] at h; cases h).symm
  have hnot : ∀ c : Capture, (∀ n, c.mode ≠ .period n) → c.fires s.vrst = false := fun c hm => by
    cases h : c.mode with
    | period n => exact absurd h (hm n)
    | last | word _ | after _ | rise _ => simp only [Capture.fires, h]
  have hsnap : windows snapped = (List.range 16).filter (snapsAt s) := hwindows _ _ hsnapped fun c hm => by
    rw [Capture.snaps, hnot c hm]
    rfl
  have hclosed : windows (fun c n => fires c n && !waits c && !opened c) = (List.range 16).filter (shutsAt s) :=
    hwindows _ _ (fun c n hm => by rw [Capture.shuts, fires_of_period hm]; rfl) fun c hm => by
      rw [Capture.shuts, hnot c hm]
      rfl
  refine ⟨by rw [hft]; rfl, by rw [hft]; rfl, by rw [hft]; rfl, fun n hn => ?_, fun hn => ?_, by rw [hft]; rfl, fun hn => ?_, fun y hy h0 => ?_,
    fun y hy h0 => ?_, by rw [hft]; rfl, by rw [hft]; rfl, by rw [hft]; rfl, by rw [hft]; rfl, by rw [hft]; rfl, by rw [hft]; rfl,
    hb.ab, fun i hi m hm => ?_, hb.causes, hb.reported, hb.mirrorList, fun i hi c hc => ⟨fun n hn => ?_, fun hn => ?_⟩, ?_, ?_, ?_,
    hb.status, hb.same.1, hb.same.2, hb.kept, hb.replied, fun hn => ?_, fun l d hr hl' hdw hcond => ?_⟩
  · rw [hframe]
    exact beginFrame_frame hn
  · rw [hframe]
    simp only [beginFrame, show s.ft.pendingFrame = none from hn, Option.getD_none]
    rfl
  · rw [hft]
    exact beginFrame_none hn
  · rw [hft]
    exact beginFrame_now hy h0
  · rw [hft]
    exact beginFrame_later hy h0
  · rw [mirrorAt_ticked (hb.windows i hi), hm]
    rfl
  · rw [hcapture i hi, hc, Option.map_some, ticked_period hn, hsnapped c n hn, fires_of_period hn]
    rfl
  · rw [hcapture i hi, hc, Option.map_some, ticked_other hn]
  · rw [hb.ftu, gatedCount, ← hclosed]
  · have hoffered : offeredIn (beginFrame fn s.ft).frame s = fun q i => match entryAt s i, captureAt s i with
        | some e, some c => (offerTo q (windowRecord i e.tag s.ftu.flags (beginFrame fn s.ft).frame c)).1
        | _, _ => q := by
      funext q i
      unfold offeredIn
      cases entryAt s i <;> cases captureAt s i <;> rfl
    rw [hb.uq, hsnap, hframe, repliedQueue, hoffered]
    cases hp : s.xu.forcedProvision <;> simp only [answered, hp] <;> rfl
  · have hbegun : begunSlots s.ft = begun := by
      show s.ft.layout.elim _ _ = match s.ft.layout with
        | some y => if y.skip = 0 then y.slots else s.ft.slots
        | none => s.ft.slots
      cases s.ft.layout <;> rfl
    rw [hb.ssu, beyondSlots_eq, beginFrame_slots, hbegun]
    rfl
  · rw [ht, advanceDwell_idle (by rw [hun.xu]; exact hn), hun.xu]
  · rw [ht]
    exact advanceDwell_counted hun (by rw [hun.dwellingLink hlock]; exact dwellingLink_eq hr hl' ((usable_iff _).mpr hcond) hl) hdw

end Sys2Proof.Machine
end

section
/-! SUPPORT. The crossover (R133), step by step. -/

-- One proof is checked after another: each worker thread of Lean reserves memory of its own.
set_option Elab.async false

namespace Sys2Proof.Machine

variable {s t u v w : State} {l : Link} {n x : Neighbour} {b : DwellBeacon} {a : Tick}

/-! ### The roles (R133 steps 1 and 2) -/

/-- The links with their roles swapped. -/
def rolesSwapped (l : Link) (a8 : Nat) (s : State) : State :=
  putLink (otherLink l) { linkOf s (otherLink l) with role := .standby, a8 := 0 } (putLink l { linkOf s l with role := .primary, a8 := a8 } s)

theorem linkOf_rolesSwapped (l : Link) (a8 : Nat) (s : State) :
    linkOf (rolesSwapped l a8 s) l = { linkOf s l with role := .primary, a8 := a8 } := by cases l <;> rfl

theorem linkOf_rolesSwapped_other (l : Link) (a8 : Nat) (s : State) :
    linkOf (rolesSwapped l a8 s) (otherLink l) = { linkOf s (otherLink l) with role := .standby, a8 := 0 } := by cases l <;> rfl

theorem rolesSwapped_eq (l : Link) (a8 : Nat) (s : State) : ∃ linkA linkB,
    rolesSwapped l a8 s = { s with xu.linkA := linkA, xu.linkB := linkB } := by
  cases l <;> exact ⟨_, _, rfl⟩

/-- The links swapped, with a STATUS request, before the burst on the old PRIMARY link is settled. -/
theorem swapRoles_settles (l : Link) (a8 : Nat) (s : State) : ∃ mae linkA linkB u, swapRoles l a8 s = settleBurst u ∧
    u = { s with xu.linkA := linkA, xu.linkB := linkB, mae := mae } ∧
    mae.result = s.mae.result ∧ mae.publication = s.mae.publication ∧
    linkOf u l = { linkOf s l with role := .primary, a8 := a8 } ∧
    linkOf u (otherLink l) = { linkOf s (otherLink l) with role := .standby, a8 := 0 } := by
  obtain ⟨linkA, linkB, hx⟩ := rolesSwapped_eq l a8 s
  have hl := linkOf_rolesSwapped l a8 s
  have ho := linkOf_rolesSwapped_other l a8 s
  obtain ⟨mae, hm, hr, hp⟩ := requestStatus_moves (rolesSwapped l a8 s)
  have hswap : swapRoles l a8 s = settleBurst (requestStatus (rolesSwapped l a8 s)) := by cases l <;> rfl
  rw [hx] at hm hr hp hl ho
  rw [hx, hm] at hswap
  refine ⟨mae, linkA, linkB, _, hswap, rfl, hr, hp, ?_, ?_⟩
  · rw [← hl]
    exact linkOf_congr rfl l
  · rw [← ho]
    exact linkOf_congr rfl _

theorem BurstSettled.cu (h : BurstSettled s t) : t.cu = s.cu ∨ ∃ m, t.cu = tuneSent m s.cu := by
  obtain rfl | ⟨b, k, -, h⟩ := h
  · exact .inl rfl
  · obtain ⟨w, v, cu, rfl, -, -, hcu⟩ := h.eq
    rw [putLink_cu]
    obtain rfl | ⟨-, rfl⟩ := hcu
    exacts [.inl rfl, .inr ⟨_, rfl⟩]

theorem BurstSettled.crossover {code : Byte} {tag : BitVec 4} (h : BurstSettled s t) (hw : s.cu.state = .waiting code tag .crossover) :
    t.cu = s.cu := by
  obtain h | ⟨m, h⟩ := h.cu
  · exact h
  · rw [h]
    exact tuneSent_of_not fun a b ha => by rw [hw] at ha; cases ha

/-! ### The timing (R90, R133 step 3) -/

/-- The timing of a crossover, before a window that opens at once. -/
def crossTiming (n : Neighbour) (b : DwellBeacon) (a : Tick) (ft : FrameTimer) : FrameTimer :=
  if 3 ≤ n.good then { seedAhead a n.zone b ft with lock := .locked, good := 0, miss := 0, syncErrors := 0 }
  else { seedAhead a n.zone b ft with lock := .acquire, good := n.good, miss := 0 }

theorem crossTiming_seeded (n : Neighbour) (b : DwellBeacon) (a : Tick) (ft : FrameTimer) : ∃ lock good syncErrors,
    crossTiming n b a ft = { seedAhead a n.zone b ft with lock := lock, good := good, miss := 0, syncErrors := syncErrors } ∧ lock ≠ .search := by
  unfold crossTiming
  split
  · exact ⟨.locked, 0, 0, rfl, nofun⟩
  · exact ⟨.acquire, n.good, _, rfl, nofun⟩

theorem windowHalf_crossTiming (n : Neighbour) (b : DwellBeacon) (a : Tick) (ft : FrameTimer) :
    windowHalf (crossTiming n b a ft) = if 3 ≤ n.good then 500 else 2000 := by
  unfold crossTiming
  by_cases h : 3 ≤ n.good
  · rw [if_pos h, if_pos h]
    rfl
  · rw [if_neg h, if_neg h]
    rfl

theorem crossLocked_eq (l : Link) (s : State) : ∃ mae, crossLocked l n b a s =
    { swapRoles l n.a8 s with ft := crossTiming n b a (swapRoles l n.a8 s).ft, mae := mae } ∧
    mae.result = (swapRoles l n.a8 s).mae.result ∧ mae.publication = (swapRoles l n.a8 s).mae.publication := by
  obtain ⟨v, hv⟩ : ∃ v, v = swapRoles l n.a8 s := ⟨_, rfl⟩
  unfold crossLocked crossTiming
  rw [← hv]
  split
  · obtain ⟨mae, h, hr, hp⟩ := setLock_eq .locked { v with ft := { seedAhead a n.zone b v.ft with good := 0, miss := 0, syncErrors := 0 } }
    exact ⟨mae, h, hr, hp⟩
  · obtain ⟨mae, h, hr, hp⟩ := setLock_eq .acquire { v with ft := { seedAhead a n.zone b v.ft with good := n.good, miss := 0 } }
    exact ⟨mae, h, hr, hp⟩

/-! ### The queue (R133 steps 4 to 6) -/

/-- The queue once the AWAIT_ACK records have returned and a new JOIN is offered. -/
def joinedQueue (q : UplinkQueue) (frame : BitVec 6) : UplinkQueue :=
  (offerTo { returnedQueue q with joinSeq := q.joinSeq + 1#8 } (internalRecord .join 0xF0#8 (q.joinSeq + 1#8) .urgent frame [])).1

theorem joinedQueue_joinSeq (q : UplinkQueue) (frame : BitVec 6) : (joinedQueue q frame).joinSeq = q.joinSeq + 1#8 :=
  offerTo_joinSeq _ _

theorem crossJoined_eq (l : Link) (s : State) : ∃ mae au, crossJoined l n b a s =
    { swapRoles l n.a8 s with
      ft := crossTiming n b a (swapRoles l n.a8 s).ft, ssu.grants := [], ssu.contention := []
      uq := joinedQueue (swapRoles l n.a8 s).uq (crossTiming n b a (swapRoles l n.a8 s).ft).frame, mae := mae, au := au } ∧
    mae.result = (swapRoles l n.a8 s).mae.result ∧ mae.publication = (swapRoles l n.a8 s).mae.publication := by
  obtain ⟨mae, h, hr, hp⟩ := crossLocked_eq (n := n) (b := b) (a := a) l s
  obtain ⟨v, hv⟩ : ∃ v, v = swapRoles l n.a8 s := ⟨_, rfl⟩
  rw [← hv] at h hr hp ⊢
  unfold crossJoined
  rw [h, settleQueue_return, createJoin]
  obtain ⟨attention, causes, requests, ho, -, -⟩ :=
    offer_moves (internalRecord .join tagJoin (v.uq.joinSeq + 1#8) .urgent (crossTiming n b a v.ft).frame [])
      { v with ft := crossTiming n b a v.ft, ssu.grants := [], ssu.contention := [], uq := { returnedQueue v.uq with joinSeq := v.uq.joinSeq + 1#8 }, mae := mae }
  exact ⟨{ mae with attention := attention }, { v.au with causes := causes, requests := requests }, ho, hr, hp⟩

/-! ### The dwell, the request and the window -/

/-- `c` is the state a crossover leaves, `v` being the one its swap of the roles leaves. -/
structure Crossed (n : Neighbour) (b : DwellBeacon) (a : Tick) (v c : State) : Prop where
  ft : c.ft = { crossTiming n b a v.ft with
    window := openedAtOnce v.ft.tick ((seedAhead a n.zone b v.ft).start + BitVec.ofNat 32 b.period) v.ft.timing.comp (if 3 ≤ n.good then 500 else 2000) }
  uq : c.uq = joinedQueue v.uq (crossTiming n b a v.ft).frame
  cu : c.cu = v.cu
  result : c.mae.result = v.mae.result
  publication : c.mae.publication = v.mae.publication
  grants : c.ssu.grants = [] ∧ c.ssu.contention = []
  request : c.au.requests &&& requestBit .link ≠ 0#6
  dwell : ∃ y, y.xu = { v.xu with dwell := none, watch := none, dwellBeacon := none } ∧ y.ft = crossTiming n b a v.ft ∧
    y.ssu.burst = v.ssu.burst ∧ c.xu = { (adjustDwell y).xu with crossovers := bump (adjustDwell y).xu.crossovers }
  ram : c.ram = v.ram

theorem crossOver_crossed (l : Link) (s : State) : Crossed n b a (swapRoles l n.a8 s) (crossOver l n b a s) := by
  obtain ⟨mae, au, h, hr, hp⟩ := crossJoined_eq (n := n) (b := b) (a := a) l s
  obtain ⟨v, hv⟩ : ∃ v, v = swapRoles l n.a8 s := ⟨_, rfl⟩
  rw [← hv] at h hr hp ⊢
  rw [crossOver_eq, h]
  obtain ⟨z, hz⟩ : ∃ z : State, z = { v with
      ft := crossTiming n b a v.ft, ssu.grants := [], ssu.contention := []
      uq := joinedQueue v.uq (crossTiming n b a v.ft).frame, mae := mae, au := au } := ⟨_, rfl⟩
  rw [← hz]
  obtain ⟨y, hy⟩ : ∃ y, y = endDwell z := ⟨_, rfl⟩
  obtain ⟨u, hu⟩ : ∃ u, u = adjustDwell y := ⟨_, rfl⟩
  have hm := adjustDwell_moved y
  rw [← hu] at hm
  obtain ⟨hft, huq, hssu, -, hmae, hau, hcu, hram, -⟩ := hm.same
  obtain ⟨attention, requests, hreq⟩ := raiseRequest_moves .link u
  have hbit : requests = u.au.requests ||| requestBit .link := by
    have h := requests_raiseRequest .link u
    rw [hreq] at h
    exact h
  have hc : crossCounted z = { u with mae.attention := attention, au.requests := requests, xu.crossovers := bump u.xu.crossovers } := by
    rw [crossCounted, ← hy, ← hu, hreq]
  obtain ⟨lock, good, syncErrors, htime, hlock⟩ := crossTiming_seeded n b a v.ft
  have hutime : u.ft = crossTiming n b a v.ft := by rw [hft, hy, hz]; rfl
  have hopen := followOpening_eq (s := crossCounted z) (fn := tickAdd (seedAhead a n.zone b v.ft).start b.period)
    (by rw [hc]; show u.ft.lock ≠ _; rw [hutime, htime]; exact hlock) (by rw [hc]; show u.ft.window = _; rw [hutime, htime]; rfl)
    (by rw [hc]; show u.ft.windowOpened = _; rw [hutime, htime]; rfl) (by rw [hc]; show u.ft.next = _; rw [hutime, htime]; rfl)
  have htick : u.ft.tick = v.ft.tick := by rw [hutime, htime]; rfl
  have htiming : u.ft.timing = v.ft.timing := by rw [hutime, htime]; rfl
  have hhalf : windowHalf u.ft = if 3 ≤ n.good then 500 else 2000 := by rw [hutime, windowHalf_crossTiming]
  have hcft : (crossCounted z).ft = u.ft := by rw [hc]
  rw [hcft, htick, htiming, hhalf, hc] at hopen
  rw [hc, hopen]
  constructor
  case ft =>
    rw [← hutime]
    rfl
  case uq =>
    show u.uq = _
    rw [huq, hy, hz]
    rfl
  case cu =>
    show u.cu = _
    rw [hcu, hy, hz]
    rfl
  case result =>
    show u.mae.result = _
    rw [hmae, hy, hz]
    exact hr
  case publication =>
    show u.mae.publication = _
    rw [hmae, hy, hz]
    exact hp
  case grants =>
    show u.ssu.grants = [] ∧ u.ssu.contention = []
    rw [hssu, hy, hz]
    exact ⟨rfl, rfl⟩
  case request =>
    show requests &&& _ ≠ _
    rw [hbit]
    exact or_and_requestBit_ne _ _
  case dwell => exact ⟨y, by rw [hy, hz]; rfl, by rw [hy, hz]; rfl, by rw [hy, hz]; rfl, by rw [← hu]⟩
  case ram =>
    show u.ram = _
    rw [hram, hy, hz]
    rfl

end Sys2Proof.Machine
end

section
/-! SUPPORT. The crossover's outcome in terms of the state that decides it (R130 to R133). -/

-- One proof is checked after another: each worker thread of Lean reserves memory of its own.
set_option Elab.async false

namespace Sys2Proof.Machine

variable {s t u v w c : State} {l : Link} {n x : Neighbour} {b : DwellBeacon} {a : Tick} {fn : Tick}

/-- What a crossover leaves, in terms of the state in which it is decided. -/
structure CrossedOver (l : Link) (n : Neighbour) (b : DwellBeacon) (a : Tick) (s c : State) : Prop where
  ft : c.ft = { crossTiming n b a s.ft with
    window := openedAtOnce s.ft.tick ((seedAhead a n.zone b s.ft).start + BitVec.ofNat 32 b.period) s.ft.timing.comp (if 3 ≤ n.good then 500 else 2000) }
  joinSeq : c.uq.joinSeq = s.uq.joinSeq + 1#8
  waits : ∀ r ∈ c.uq.records, r.awaits = false
  uq : s.ssu.burst = none → c.uq = joinedQueue s.uq (crossTiming n b a s.ft).frame
  cu : ∀ code tag, s.cu.state = .waiting code tag .crossover → c.cu = s.cu
  still : s.ssu.burst = none → c.cu = s.cu
  result : c.mae.result = s.mae.result
  publication : c.mae.publication = s.mae.publication
  grants : c.ssu.grants = [] ∧ c.ssu.contention = []
  request : c.au.requests &&& requestBit .link ≠ 0#6
  roles : (linkOf c l).role = .primary ∧ (linkOf c l).a8 = n.a8 ∧ (linkOf c (otherLink l)).role = .standby
  counted : c.xu.crossovers = min (s.xu.crossovers + 1) 65535
  forcedCommand : c.xu.forcedCommand = s.xu.forcedCommand
  forcedProvision : c.xu.forcedProvision = s.xu.forcedProvision
  dwell : s.ssu.burst = none → ∃ y, y.xu.dwell = none ∧ y.xu.neighbours = s.xu.neighbours ∧
    linkOf y l = { linkOf s l with role := .primary, a8 := n.a8 } ∧
    linkOf y (otherLink l) = { linkOf s (otherLink l) with role := .standby, a8 := 0 } ∧
    y.ft = crossTiming n b a s.ft ∧ y.ssu.burst = none ∧ y.xu.watch = none ∧ y.xu.dwellBeacon = none ∧
    c.xu = { (adjustDwell y).xu with crossovers := bump (adjustDwell y).xu.crossovers }
  ram : c.ram = s.ram

/-! ### An offer makes no record wait for an acknowledgement -/

section
variable {α : Type} {p : α → Bool} {f : α → α} {z : α} {rs rs' : List α}

theorem mem_of_removeFirst : ∀ {rs rs' : List α}, removeFirst p rs = some rs' → z ∈ rs' → z ∈ rs
  | [], _, h, _ => by cases h
  | y :: rest, rs', h, hz => by
    rw [removeFirst] at h
    split at h
    · cases h
      exact List.mem_cons_of_mem y hz
    · obtain ⟨r, hr, rfl⟩ := Option.map_eq_some_iff.mp h
      obtain rfl | hz := List.mem_cons.mp hz
      exacts [List.mem_cons_self, List.mem_cons_of_mem y (mem_of_removeFirst hr hz)]

theorem mem_of_updateFirst : ∀ {rs rs' : List α}, updateFirst p f rs = some rs' → z ∈ rs' → z ∈ rs ∨ ∃ y ∈ rs, z = f y
  | [], _, h, _ => by cases h
  | y :: rest, rs', h, hz => by
    rw [updateFirst] at h
    split at h
    · cases h
      obtain rfl | hz := List.mem_cons.mp hz
      exacts [.inr ⟨y, List.mem_cons_self, rfl⟩, .inl (List.mem_cons_of_mem y hz)]
    · obtain ⟨r, hr, rfl⟩ := Option.map_eq_some_iff.mp h
      obtain rfl | hz := List.mem_cons.mp hz
      · exact .inl List.mem_cons_self
      · exact (mem_of_updateFirst hr hz).imp (List.mem_cons_of_mem y) fun ⟨o, ho, he⟩ => ⟨o, List.mem_cons_of_mem y ho, he⟩

end

theorem mem_of_makeRoom {cls : RecordClass} {rs rs' : List Record} {z : Record} (h : makeRoom cls rs = some rs') (hz : z ∈ rs') : z ∈ rs := by
  cases cls with
  | bulk => cases h
  | routine => exact mem_of_removeFirst h hz
  | urgent =>
    rw [makeRoom] at h
    split at h
    · next he =>
      cases h
      exact mem_of_removeFirst he hz
    · exact mem_of_removeFirst h hz

variable {q : UplinkQueue} {r z : Record}

theorem mem_of_joinTail (hz : z ∈ (joinTail q r).1.records) : z = r ∨ z ∈ q.records := by
  have tail : ∀ rs, z ∈ rs ++ [r] → z = r ∨ z ∈ rs := fun rs h =>
    (List.mem_append.mp h).symm.imp_left List.mem_singleton.mp
  unfold joinTail at hz
  split at hz
  · exact tail _ hz
  · split at hz
    · next h => exact (tail _ hz).imp_right (mem_of_makeRoom h)
    · exact .inr hz

/-- A record of the list after an offer is the one offered, or was there, or was there with an older content. -/
theorem mem_of_offerTo (hz : z ∈ (offerTo q r).1.records) : z = r ∨ ∃ y ∈ q.records, z.state = y.state := by
  have tail : z ∈ (joinTail q r).1.records → z = r ∨ ∃ y ∈ q.records, z.state = y.state := fun h =>
    (mem_of_joinTail h).imp_right fun h => ⟨z, h, rfl⟩
  unfold offerTo at hz
  split at hz
  case h_1 | h_2 | h_3 =>
    split at hz
    · next h =>
      obtain h | ⟨y, hy, rfl⟩ := mem_of_updateFirst h hz
      exacts [.inr ⟨z, h, rfl⟩, .inr ⟨y, hy, rfl⟩]
    · exact tail hz
  · exact tail hz

theorem awaits_congr (h : z.state = r.state) : z.awaits = r.awaits := by
  rw [Record.awaits, Record.awaits, Record.inFlight, Record.inFlight, h]

theorem awaits_offerTo (hr : r.awaits = false) (h : ∀ y ∈ q.records, y.awaits = false) : ∀ z ∈ (offerTo q r).1.records, z.awaits = false :=
  fun z hz => by
    obtain rfl | ⟨y, hy, he⟩ := mem_of_offerTo hz
    · exact hr
    · rw [awaits_congr he, h y hy]

theorem awaits_joinedQueue (q : UplinkQueue) (frame : BitVec 6) : ∀ z ∈ (joinedQueue q frame).records, z.awaits = false :=
  awaits_offerTo rfl fun _ hy => not_awaits_return hy

theorem crossOver_from (l : Link) (s : State) : CrossedOver l n b a s (crossOver l n b a s) := by
  obtain ⟨c, hc⟩ : ∃ c, c = crossOver l n b a s := ⟨_, rfl⟩
  have h := crossOver_crossed (n := n) (b := b) (a := a) l s
  obtain ⟨mae, linkA, linkB, u, hv, hu, hr, hp, hlink, hother⟩ := swapRoles_settles l n.a8 s
  have hs := settleBurst_settled u
  obtain ⟨v, hve⟩ : ∃ v, v = swapRoles l n.a8 s := ⟨_, rfl⟩
  rw [← hve] at h hv
  rw [← hv] at hs
  rw [← hc] at h ⊢
  obtain ⟨hmae, hau, hdwell, hneighbours, hbeacon, hcross, hmargin, hfc, hfp, -, -, hseq⟩ := hs.kept
  obtain ⟨win, hvft, -⟩ := hs.timing
  have htime : crossTiming n b a v.ft = crossTiming n b a s.ft := by rw [hvft, hu]; rfl
  have hstill : s.ssu.burst = none → v = u := fun hb => by rw [hv, settleBurst_none (by rw [hu]; exact hb)]
  obtain ⟨y, hyx, hyf, hyb, hcx⟩ := h.dwell
  have hm := adjustDwell_moved y
  have hylink : ∀ k, linkOf y k = linkOf v k := fun k => by cases k <;> simp only [linkOf, hyx]
  have hclink : ∀ k, linkOf c k = linkOf (adjustDwell y) k := fun k => by cases k <;> simp only [linkOf, hcx]
  constructor
  case ft =>
    rw [h.ft, hvft, hu]
    rfl
  case joinSeq => rw [h.uq, joinedQueue_joinSeq, hseq, hu]
  case waits =>
    rw [h.uq]
    exact awaits_joinedQueue _ _
  case uq =>
    intro hb
    rw [h.uq, htime, hstill hb, hu]
  case cu =>
    intro code tag hw
    rw [h.cu, hs.crossover (by rw [hu]; exact hw), hu]
  case still =>
    intro hb
    rw [h.cu, hstill hb, hu]
  case result => rw [h.result, hmae, hu, hr]
  case publication => rw [h.publication, hmae, hu, hp]
  case grants => exact h.grants
  case request => exact h.request
  case roles =>
    have hl := (hs.figures l).trans (by rw [← hylink]; exact hm.figures l)
    have ho := (hs.figures (otherLink l)).trans (by rw [← hylink]; exact hm.figures (otherLink l))
    rw [hclink, hclink]
    exact ⟨by rw [hl.role, hlink], by rw [hl.a8, hlink], by rw [ho.role, hother]⟩
  case counted =>
    rw [hcx]
    show bump _ = _
    rw [hm.crossovers, hyx, hcross, hu]
    rfl
  case forcedCommand =>
    rw [hcx]
    show (adjustDwell y).xu.forcedCommand = _
    rw [hm.forcedCommand, hyx, hfc, hu]
  case forcedProvision =>
    rw [hcx]
    show (adjustDwell y).xu.forcedProvision = _
    rw [hm.forcedProvision, hyx, hfp, hu]
  case dwell =>
    intro hb
    have hvu := hstill hb
    refine ⟨y, by rw [hyx], by rw [hyx, hneighbours, hu], by rw [hylink, hvu, hlink], by rw [hylink, hvu, hother], by rw [hyf, htime],
      by rw [hyb, hvu, hu]; exact hb, by rw [hyx], by rw [hyx], hcx⟩
  case ram =>
    rw [hc]
    exact (side_eq_iff.mp (side_crossOver (n := n) (b := b) (a := a) l s)).1

end Sys2Proof.Machine
end

section
/-! SUPPORT. FRAME_START with a qualified STANDBY link (R130 to R133). -/

-- One proof is checked after another: each worker thread of Lean reserves memory of its own.
set_option Elab.async false

namespace Sys2Proof.Machine

variable {s t u v w c : State} {l : Link} {n x : Neighbour} {b : DwellBeacon} {a : Tick} {fn : Tick}

/-- A crossover that a forced request, a faulted PRIMARY link or the ordinary conditions decide. -/
theorem decideCrossover_crosses (hq : qualifiedStandby s = some (l, n, b, a))
    (h : forcedPending s = true ∨ primaryFaulted s = true ∨ ordinaryTest s l n = true) :
    decideCrossover s = answerForced .done (crossOver l n b a s) := by
  by_cases hf : (forcedPending s || primaryFaulted s) = true
  · simp only [decideCrossover, hq, hf, if_true]
  · have ho : ordinaryTest s l n = true := by
      rw [Bool.or_eq_true] at hf
      obtain ⟨h1, h2⟩ := not_or.mp hf
      exact (h.resolve_left h1).resolve_left h2
    obtain ⟨hc, hp⟩ := unforced_of (Bool.eq_false_iff.mpr fun h => hf (by rw [h]; rfl))
    have hx := crossOver_from (n := n) (b := b) (a := a) l s
    rw [answerForced_none _ (hx.forcedCommand.trans hc) (hx.forcedProvision.trans hp)]
    simp only [decideCrossover, hq, hf, ho, Bool.false_eq_true, if_false, if_true]

/-- The links, the lock state and the table of the state that a frame start decides in are those before it. -/
theorem FrameBegun.dwelling (h : FrameBegun fn s w) : dwellingLink w = dwellingLink s ∧ dwelt w = dwelt s ∧
    primaryLink w = primaryLink s ∧ ∀ k, linkOf w k = linkOf s k := by
  obtain ⟨wft, -, wxu, -⟩ := h.figures
  have hlink : ∀ k, linkOf w k = linkOf s k := fun k => by cases k <;> simp only [linkOf, wxu]
  have hs : standbyLink w = standbyLink s := by simp only [standbyLink, linkWithRole, wxu]
  have hlock : w.ft.lock = s.ft.lock := by rw [wft]; rfl
  refine ⟨?_, by simp only [dwelt, neighbourOf, wxu], by simp only [primaryLink, linkWithRole, wxu], hlink⟩
  rw [dwellingLink, dwellingLink, hs]
  cases standbyLink s with
  | none => rfl
  | some k => simp only [hlink, hlock]

theorem joinSeq_offeredIn (frame : BitVec 6) (s : State) : ∀ (is : List Nat) (q : UplinkQueue),
    (is.foldl (offeredIn frame s) q).joinSeq = q.joinSeq
  | [], _ => rfl
  | i :: is, q => by
    rw [List.foldl_cons, joinSeq_offeredIn frame s is]
    unfold offeredIn
    split
    exacts [offerTo_joinSeq _ _, rfl]

/-- Without a PERIOD entry the queue is untouched by the frame start. -/
theorem FrameBegun.queue (h : FrameBegun fn s w) (hp : ∀ i < 16, ∀ c, captureAt s i = some c → ∀ k, c.mode ≠ .period k) : w.uq = s.uq := by
  have hnone : (List.range 16).filter (snapsAt s) = [] := List.filter_eq_nil_iff.mpr fun i hi => by
    rw [snapsAt, Option.any_eq_true]
    rintro ⟨c, hc, hs⟩
    have hm := hp i (List.mem_range.mp hi) c hc
    rw [Capture.snaps] at hs
    cases hmode : c.mode with
    | period k => exact hm k hmode
    | last | word _ | after _ | rise _ => simp [Capture.fires, hmode] at hs
  rw [h.uq, hnone]
  rfl

theorem crossTiming_zone (n : Neighbour) (b : DwellBeacon) (a : Tick) (ft : FrameTimer) :
    (crossTiming n b a ft).zone = n.zone ∧ (crossTiming n b a ft).lock ≠ .search := by
  unfold crossTiming
  split <;> exact ⟨rfl, nofun⟩

/-- The queue after a crossover, where the places are apart, no JOIN is QUEUED and there is room. -/
theorem joinedQueue_joins {q : UplinkQueue} (frame : BitVec 6) (ha : Apart q.records)
    (hj : ∀ r ∈ returned q.records, r.kind = .join → r.state ≠ .queued) (hl : (returned q.records).length < 24) :
    (joinedQueue q frame).records = returned q.records ++ [internalRecord .join 0xF0#8 (q.joinSeq + 1#8) .urgent frame []] := by
  have hr : (returnedQueue q).records = returned q.records := by rw [returnedQueue, settleRecords_return ha]
  have hm : ∀ y ∈ returned q.records, mergesWith (internalRecord .join 0xF0#8 (q.joinSeq + 1#8) .urgent frame []) y = false := fun y hy => by
    by_contra h
    have h : (y.isQueued && decide (y.kind = .join)) = true := Bool.eq_true_of_not_eq_false h
    rw [Bool.and_eq_true, isQueued_iff, decide_eq_true_iff] at h
    exact hj y hy h.2 h.1
  have hu : ∀ f, updateFirst (mergesWith (internalRecord .join 0xF0#8 (q.joinSeq + 1#8) .urgent frame [])) f (returned q.records) = none :=
    fun f => updateFirst_none hm
  have hto : joinedQueue q frame = (joinTail { returnedQueue q with joinSeq := q.joinSeq + 1#8 }
      (internalRecord .join 0xF0#8 (q.joinSeq + 1#8) .urgent frame [])).1 := by
    unfold joinedQueue offerTo
    dsimp only [internalRecord] at hu ⊢
    rw [hr, hu]
  rw [hto, joinTail]
  dsimp only
  rw [hr, if_pos (show (returned q.records).length < Config.recordsMax from hl)]

/-- The records of an answer depend on the queue's records alone. -/
theorem joinTail_records {q q' : UplinkQueue} (r : Record) (h : q.records = q'.records) : (joinTail q r).1.records = (joinTail q' r).1.records := by
  unfold joinTail
  rw [h]
  repeat' split
  all_goals rfl

/-- The dwell that the new STANDBY link starts, or none. -/
theorem crossover_dwells {y : State} {p : LinkState} (hc : c.xu = { (adjustDwell y).xu with crossovers := bump (adjustDwell y).xu.crossovers })
    (hdwell : y.xu.dwell = none) (hlock : y.ft.lock ≠ .search) (hzone : y.ft.zone = n.zone) (htick : y.ft.tick = s.ft.tick) (hburst : y.ssu.burst = none) (hs : s.ssu.burst = none)
    (hns : y.xu.neighbours = s.xu.neighbours) (hl : linkOf y l = { linkOf s l with role := .primary, a8 := n.a8 })
    (ho : linkOf y (otherLink l) = { p with role := .standby, a8 := 0 }) (hen : p.enabled = true)
    (htx : t.xu = { c.xu with forcedCommand := false, forcedProvision := none }) :
    (∀ x, p.usable = true → s.xu.neighbours.find? (fun y => decide (y.zone ≠ n.zone)) = some x →
      DwellStarted (otherLink l) { p with role := .standby, a8 := 0 } x (putLink l { linkOf s l with role := .primary, a8 := n.a8 } s) t) ∧
    (p.usable = false ∨ (∀ y ∈ s.xu.neighbours, y.zone = n.zone) →
      t.xu.dwell = none ∧ t.xu.watch = none ∧ t.xu.dwellBeacon = none ∧ t.xu.neighbours = s.xu.neighbours ∧
      linkOf t (otherLink l) = { p with role := .standby, a8 := 0 } ∧ linkOf t l = { linkOf s l with role := .primary, a8 := n.a8 }) := by
  have htlink : ∀ k, linkOf t k = linkOf (adjustDwell y) k := fun k => by cases k <;> simp only [linkOf, htx, hc]
  have hrole : (linkOf y (otherLink l)).role = .standby := by rw [ho]
  have hprim : (linkOf y (otherLink (otherLink l))).role = .primary := by rw [otherLink_otherLink, hl]
  have hnone : dwelt y = none := by simp only [dwelt, hdwell]
  refine ⟨fun x hu hx => ?_, fun h => ?_⟩
  · have hdl : dwellingLink y = some (otherLink l) := dwellingLink_of hrole hprim (by rw [ho]; exact hen) (by rw [ho]; exact hu) hlock
    have hadj := adjustDwell_starts hdl (fun n hn => by rw [hnone] at hn; cases hn) (by rw [hns, hzone]; exact hx)
    have hstart := startDwell_started (s := y) (l := otherLink l) (by rw [hrole]; exact Role.noConfusion) (by rw [ho]; exact hu) x
    rw [← hadj] at hstart
    obtain ⟨h1, h2, h3, h4, h5, h6⟩ := hstart
    rw [otherLink_otherLink] at h5
    refine ⟨by rw [htx, hc]; exact h1, by rw [htx, hc]; exact h2, by rw [htx, hc]; exact h3, ?_, ?_, ?_⟩
    · rw [htx, hc]
      refine Eq.trans h4 ?_
      rw [hns]
      cases l <;> rfl
    · rw [otherLink_otherLink, htlink, h5, hl, linkOf_putLink_self]
    · have hb : burstOn y (otherLink l) = burstOn (putLink l { linkOf s l with role := .primary, a8 := n.a8 } s) (otherLink l) := by
        rw [burstOn, burstOn, putLink_ssu, hburst, hs]
      rw [htlink, h6, ho, putLink_ft, htick, hb]
  · have hadj : adjustDwell y = endDwell y := by
      obtain h | h := h
      · refine adjustDwell_deaf ?_
        cases hdl : dwellingLink y with
        | none => rfl
        | some k =>
          have hk := dwellingLink_role hdl
          have hu := dwellingLink_usable hdl
          obtain rfl | rfl := eq_or_eq_otherLink l k
          · rw [hl] at hk
            cases hk
          · rw [ho] at hu
            rw [show p.usable = true from hu] at h
            cases h
      · exact adjustDwell_ends fun n hn => by rw [hns] at hn; rw [hzone]; exact h n hn
    rw [hadj] at htlink hc
    refine ⟨by rw [htx, hc]; rfl, by rw [htx, hc]; rfl, by rw [htx, hc]; rfl, by rw [htx, hc]; exact hns, ?_, ?_⟩
    · rw [htlink, linkOf_endDwell, ho]
    · rw [htlink, linkOf_endDwell, hl]

theorem repliedQueue_joinSeq (r : ResultCode) (s : State) : (repliedQueue r s).joinSeq = s.uq.joinSeq := by
  unfold repliedQueue
  cases s.xu.forcedProvision with
  | none => rfl
  | some seq => exact offerTo_joinSeq _ _

theorem awaits_repliedQueue (r : ResultCode) (h : ∀ y ∈ s.uq.records, y.awaits = false) :
    ∀ z ∈ (repliedQueue r s).records, z.awaits = false := by
  unfold repliedQueue
  cases s.xu.forcedProvision with
  | none => exact h
  | some seq => exact awaits_offerTo rfl h

theorem repliedQueue_none (r : ResultCode) (h : s.xu.forcedProvision = none) : repliedQueue r s = s.uq := by
  rw [repliedQueue, h]
  rfl

theorem repliedQueue_some {seq : Byte} (r : ResultCode) (h : s.xu.forcedProvision = some seq) : repliedQueue r s =
    (joinTail s.uq (internalRecord .provisionReply 0xF2#8 seq .routine s.ft.frame [resultByte r])).1 := by
  rw [repliedQueue, h]
  rfl

/-- The FAULT request leaves the LINK request alone. -/
theorem linkBit_or_fault (x : BitVec 6) : (x ||| requestBit .fault) &&& requestBit .link = x &&& requestBit .link := by
  rw [BitVec.and_comm, BitVec.and_or_distrib_left, show requestBit .link &&& requestBit .fault = 0#6 by decide, BitVec.or_zero,
    BitVec.and_comm]

/-- Settles O51. -/
theorem crossoverDecided : Obligations.CrossoverDecided := by
  intro fn l d n b a before s hfn hlock hd hroles hr hcond hdw hh hn hb ha p forced faulted ordinary seed ahead periods
  have hx := exec_frameStart (s := s) rfl hlock hfn hd
  obtain ⟨w, hw, hf⟩ := frameStartAt_begun fn s
  obtain ⟨wft, wab, wxu, wdlf, wram, wcu⟩ := hw.figures
  obtain ⟨hdwelling, hdwelt, hprimary, hlink⟩ := hw.dwelling
  have hdl : dwellingLink w = some l := hdwelling.trans (dwellingLink_eq hroles hr ((usable_iff _).mpr hcond) hlock)
  have hq : qualifiedStandby w = some (l, n, b, a) :=
    qualifiedStandby_of hdl (by rw [wxu]; exact hdw) hh (hdwelt.trans hn) (by rw [wxu]; exact hb) ha
  have hp : primaryLink s = some (otherLink l) := primaryLink_eq hroles (hroles.primary_of_standby hr)
  have hwr : (linkOf w l).role = .standby := by rw [hlink, hr]
  have hforced : forcedPending w = true ↔ forced := by rw [forcedPending_iff, wxu]
  have hfaulted : primaryFaulted w = true ↔ faulted := by
    rw [primaryFaulted_iff hwr, hlink, hprimary, hp]
    exact and_iff_right rfl
  have hordinary : ordinaryTest w l n = true ↔ ordinary := by
    rw [ordinaryTest_iff hwr, hlink, hlink, hprimary, hp, wxu]
    exact and_iff_right rfl
  refine ⟨fun h => ?_, fun h1 h2 h3 => ?_⟩
  · have hcross := decideCrossover_crosses hq (h.imp hforced.mpr (Or.imp hfaulted.mpr hordinary.mpr))
    obtain ⟨c, hc⟩ : ∃ c, c = crossOver l n b a w := ⟨_, rfl⟩
    have hfrom := crossOver_from (n := n) (b := b) (a := a) l w
    rw [← hc] at hfrom hcross
    have hans := answerForced_answered .done c
    obtain ⟨t, ht⟩ : ∃ t, t = answerForced .done c := ⟨_, rfl⟩
    rw [← ht] at hans hcross
    have hun := hans.unforced
    obtain ⟨attention, result, causes, requests, cu, hteq⟩ := hans.eq
    have htssu : t.ssu = c.ssu := by rw [hteq]
    have htuq : t.uq = repliedQueue .done c := by rw [hteq]
    have htram : t.ram = c.ram := by rw [hteq]
    have hstart : (seedAhead a n.zone b w.ft).start = seed + BitVec.ofNat 32 (periods * b.period) := by rw [wft]; rfl
    have hframe : (seedAhead a n.zone b w.ft).frame = b.frame + BitVec.ofNat 6 periods := by rw [wft]; rfl
    have htft : t.ft = { crossTiming n b a w.ft with
        window := openedAtOnce w.ft.tick ((seedAhead a n.zone b w.ft).start + BitVec.ofNat 32 b.period) w.ft.timing.comp (if 3 ≤ n.good then 500 else 2000) } :=
      Eq.trans (by rw [hteq]) hfrom.ft
    obtain ⟨lock, good, syncErrors, htime, -⟩ := crossTiming_seeded n b a w.ft
    have htframe : t.ft.frame = (crossTiming n b a w.ft).frame := by rw [htft]
    have hcframe : c.ft.frame = (crossTiming n b a w.ft).frame := by rw [hfrom.ft]
    have hfc : c.xu.forcedCommand = s.xu.forcedCommand := by rw [hfrom.forcedCommand, wxu]
    have hfp : c.xu.forcedProvision = s.xu.forcedProvision := by rw [hfrom.forcedProvision, wxu]
    have hwseq : w.uq.joinSeq = s.uq.joinSeq := by rw [hw.uq, joinSeq_offeredIn]
    have hbs : s.ssu.burst = none → w.ssu.burst = none := fun h => by rw [hw.ssu]; exact h
    refine ⟨t, hx.trans (by rw [hf, hcross]), ?_⟩
    refine ⟨by rw [hun.link]; exact hfrom.roles.1, by rw [hun.link]; exact hfrom.roles.2.1, by rw [hun.link]; exact hfrom.roles.2.2,
      by rw [htft, htime]; exact hstart, by rw [htft, htime]; exact hframe, by rw [htft, htime]; rfl, by rw [htft, htime]; rfl,
      by rw [htft, htime]; rfl, by rw [htft, htime]; rfl, by rw [htft, htime]; rfl, by rw [htft, htime, wft]; rfl, ?_, ?_,
      by rw [htft, htime], ?_, by rw [htssu]; exact hfrom.grants.1, by rw [htssu]; exact hfrom.grants.2,
      by rw [htuq, repliedQueue_joinSeq, hfrom.joinSeq, hwseq], by rw [htuq]; exact awaits_repliedQueue _ hfrom.waits,
      fun hb ha' hper hj hlen => ?_, fun code tag h hw' => ?_, fun hb => ?_, ?_, ?_, by rw [hun.xu], by rw [hun.xu],
      by rw [htram, hfrom.ram, wram]⟩
    · rw [htft, crossTiming]
      split <;> rfl
    · rw [htft, crossTiming]
      split <;> rfl
    · rw [htft, crossTiming]
      split
      · rfl
      · rw [wft]
        rfl
    · have huq : c.uq = joinedQueue s.uq t.ft.frame := by rw [hfrom.uq (hbs hb), hw.queue hper, htframe]
      have hrecords := joinedQueue_joins t.ft.frame ha' hj hlen
      rw [← huq] at hrecords
      rw [htuq]
      cases hq' : s.xu.forcedProvision with
      | none =>
        rw [repliedQueue_none _ (hfp.trans hq')]
        exact hrecords
      | some seq =>
        rw [repliedQueue_some _ (hfp.trans hq'), hcframe, ← htframe]
        exact joinTail_records _ hrecords
    · obtain ⟨h1, h2⟩ := hans.replied code tag (hfc.trans h) (by rw [hfrom.cu code tag (by rw [wcu]; exact hw'), wcu]; exact hw')
      exact ⟨by rw [h1, hfrom.cu code tag (by rw [wcu]; exact hw'), wcu], by rw [h2, hfrom.publication, hw.publication]⟩
    · intro left
      obtain ⟨y, hyd, hyn, hyl, hyo, hyf, hyb, -, -, hyx⟩ := hfrom.dwell (hbs hb)
      rw [hlink] at hyl hyo
      rw [wxu] at hyn
      obtain ⟨hstarts, hends⟩ := crossover_dwells (s := s) (t := t) (c := c) hyx hyd (by rw [hyf]; exact (crossTiming_zone n b a w.ft).2)
        (by rw [hyf]; exact (crossTiming_zone n b a w.ft).1) (by rw [hyf, htime, wft]; rfl) hyb hb hyn hyl hyo
        (enabled_of_role hroles (by rw [hroles.primary_of_standby hr]; exact Role.noConfusion)) hun.xu
      refine ⟨fun h => ?_, fun x hnf hx => hstarts x ?_ hx, fun h => hends (h.imp_left (usable_eq_false_iff _).mpr)⟩
      · obtain ⟨h1, h2⟩ := hans.kept (hfc.trans h)
        exact ⟨by rw [h1, hfrom.still (hbs hb), wcu], by rw [h2, hfrom.result, hw.result]⟩
      · by_contra h
        exact hnf ((usable_eq_false_iff _).mp (Bool.eq_false_iff.mpr h))
    · obtain h | h := hans.requests
      · rw [h]
        exact hfrom.request
      · rw [h, linkBit_or_fault]
        exact hfrom.request
    · rw [hun.xu]
      exact hfrom.counted.trans (by rw [wxu])
  · have hstays := decideCrossover_stays hq (Bool.eq_false_iff.mpr fun h => h1 (hforced.mp h)) (Bool.eq_false_iff.mpr fun h => h2 (hfaulted.mp h))
      (Bool.eq_false_iff.mpr fun h => h3 (hordinary.mp h))
    have hm := advanceDwell_moved w
    obtain ⟨hft, huq, -⟩ := hm.same
    have hfc := unforced_of (s := s) (Bool.eq_false_iff.mpr fun h => h1 (by rw [forcedPending_iff] at h; exact h))
    refine ⟨advanceDwell w, hx.trans (by rw [hf, hstays]), fun k => by rw [(hm.figures k).role, hlink], by rw [hm.crossovers, wxu],
      by rw [hft, wft]; rfl, by rw [hft, wft]; rfl, by rw [huq, hw.uq, joinSeq_offeredIn], ?_⟩
    refine advanceDwell_counted ⟨?_, by rw [wft]; rfl, by rw [wft]; rfl, by rw [hw.ssu]⟩ hdl hdw
    rw [wxu, ← hfc.1, ← hfc.2]

end Sys2Proof.Machine
end

section
/-! SUPPORT. The content of a taken beacon (R68, R72, R101, R116, R126, R140). -/

-- One proof is checked after another: each worker thread of Lean reserves memory of its own.
set_option Elab.async false

namespace Sys2Proof.Machine

variable {s t u v w : State} {l : Link} {n x : Neighbour} {b : Beacon} {own : Byte}

/-! ### Acks, grants and allowance -/

/-- What one ack entry makes of the queue (R68). -/
def ackedBy (carid : BitVec 10) (u : UplinkQueue) (e : AckEntry) : UplinkQueue :=
  if e.identity ≠ carid.setWidth 16 then u
  else if u.records.any (fun r => decide (r.tag = e.tag ∧ r.seq = e.seq)) then
    { u with
      records := u.records.filterMap fun r =>
        if decide (r.tag = e.tag ∧ r.seq = e.seq) = false then some r
        else if r.state = .onAir then some { r with ackedOnAir := true } else none }
  else { u with strayAcks := min (u.strayAcks + 1) 65535 }

theorem ackEntry_eq (carid : BitVec 10) : ackEntry carid = ackedBy carid := by
  have hm : ∀ e, ackMatches e = fun r => decide (r.tag = e.tag ∧ r.seq = e.seq) := fun e => funext fun r => (Bool.decide_and _ _).symm
  have hr : ∀ e, ackRecord e = fun r => if decide (r.tag = e.tag ∧ r.seq = e.seq) = false then some r
      else if r.state = .onAir then some { r with ackedOnAir := true } else none := fun e => funext fun r => by
    rw [ackRecord, hm]
    simp only [isOnAir_iff]
    cases decide (r.tag = e.tag ∧ r.seq = e.seq) <;> rfl
  funext u e
  rw [ackEntry, ackedBy, hm, hr]
  rfl

/-- The queue after a take's acks and its grants (R68, R72). -/
def takenQueue (b : Beacon) (s : State) : UplinkQueue :=
  if b.grants.any (fun g => decide (g.identity = s.carid)) then
    { b.acks.foldl (ackedBy s.carid) s.uq with
      records := (b.acks.foldl (ackedBy s.carid) s.uq).records.filter fun r => decide (¬(r.kind = .join ∧ r.state = .queued)) }
  else b.acks.foldl (ackedBy s.carid) s.uq

/-- The grants of an identity in a beacon (R101). -/
def grantsNamed (b : Beacon) (id : BitVec 10) (n : Nat) : List Grant :=
  ((b.grants.filter fun g => decide (g.identity = id ∧ g.count ≠ 0)).map fun g => (⟨g.first, min g.count 64⟩ : Grant)).take n

theorem grantsFor_eq (id : BitVec 10) (n : Nat) (b : Beacon) : grantsFor id n b.grants = grantsNamed b id n := by
  simp only [grantsFor, grantsNamed, Bool.decide_and]

/-- The state once the acks, the grants and the allowance are taken. -/
def contentTaken (b : Beacon) (s : State) : State :=
  { s with
    uq := takenQueue b s, ssu.grants := grantsNamed b s.carid 8, ssu.contention := grantsNamed b 1023#10 4
    ab := takeAllowance b.allowance s.ab }

theorem takeGrantList_of (gs : List BeaconGrant) (t : State) : takeGrantList gs t = { t with
    uq := if gs.any (fun g => decide (g.identity = t.carid)) then
        { t.uq with records := t.uq.records.filter fun r => decide (¬(r.kind = .join ∧ r.state = .queued)) } else t.uq
    ssu.grants := grantsFor t.carid Config.grantsMax gs, ssu.contention := grantsFor allCars Config.contentionMax gs } := by
  have hfilter : (fun r : Record => !(decide (r.kind = .join) && r.isQueued)) = fun r => decide (¬(r.kind = .join ∧ r.state = .queued)) := by
    funext r
    rw [Record.isQueued, ← Bool.decide_and, decide_not]
  unfold takeGrantList dropQueuedJoin
  rw [hfilter]
  dsimp only
  split <;> rfl

theorem takeGrantList_eq (b : Beacon) (s : State) : takeGrantList b.grants (takeAckList b.acks s) =
    { s with uq := takenQueue b s, ssu.grants := grantsNamed b s.carid 8, ssu.contention := grantsNamed b 1023#10 4 } := by
  have hack : takeAckList b.acks s = { s with uq := b.acks.foldl (ackedBy s.carid) s.uq } := by rw [takeAckList, ackEntry_eq]
  rw [takeGrantList_of, hack, grantsFor_eq, grantsFor_eq]
  rfl

theorem distribute_eq (b : Beacon) (s : State) : distribute b s = takeNeighbourList b.zone b.neighbours (contentTaken b s) := by
  unfold distribute
  dsimp only
  rw [takeGrantList_eq]
  rfl

/-! ### The neighbour table (R126) -/

/-- The entries of a neighbour list that are kept. -/
def keptEntries (b : Beacon) : List NeighbourEntry :=
  b.neighbours.foldl (fun (es : List NeighbourEntry) e =>
    if e.zone = b.zone ∨ (∃ x ∈ es, x.zone = e.zone) ∨ 4 ≤ es.length then es else es ++ [e]) []

theorem neighbourFrom_zone (old : List Neighbour) (e : NeighbourEntry) :
    (neighbourFrom old e).zone = e.zone ∧ (neighbourFrom old e).channel = e.channel := by
  unfold neighbourFrom
  split
  · next n h =>
    have hz := List.find?_some h
    exact ⟨of_decide_eq_true hz, rfl⟩
  · exact ⟨rfl, rfl⟩

theorem keptTable_eq (b : Beacon) (old : List Neighbour) :
    b.neighbours.foldl (keepNeighbour b.zone old) [] = (keptEntries b).map (neighbourFrom old) := by
  have key : ∀ (es acc : List NeighbourEntry), es.foldl (keepNeighbour b.zone old) (acc.map (neighbourFrom old)) =
      (es.foldl (fun (es : List NeighbourEntry) e =>
        if e.zone = b.zone ∨ (∃ x ∈ es, x.zone = e.zone) ∨ 4 ≤ es.length then es else es ++ [e]) acc).map (neighbourFrom old) := by
    intro es
    induction es with
    | nil => exact fun acc => rfl
    | cons e es ih =>
      intro acc
      have hany : ((acc.map (neighbourFrom old)).any fun n => decide (n.zone = e.zone)) = true ↔ ∃ x ∈ acc, x.zone = e.zone := by
        simp only [List.any_map, List.any_eq_true, Function.comp_apply, decide_eq_true_iff, (neighbourFrom_zone old _).1]
      have hiff : (e.zone = b.zone ∨ ((acc.map (neighbourFrom old)).any fun n => decide (n.zone = e.zone)) = true ∨
          Config.neighboursMax ≤ (acc.map (neighbourFrom old)).length) ↔ (e.zone = b.zone ∨ (∃ x ∈ acc, x.zone = e.zone) ∨ 4 ≤ acc.length) := by
        rw [hany, List.length_map]
        rfl
      rw [List.foldl_cons, List.foldl_cons, keepNeighbour]
      by_cases h : e.zone = b.zone ∨ (∃ x ∈ acc, x.zone = e.zone) ∨ 4 ≤ acc.length
      · rw [if_pos (hiff.mpr h), if_pos h]
        exact ih acc
      · rw [if_neg (mt hiff.mp h), if_neg h, ← ih (acc ++ [e]), List.map_append]
        rfl
  exact key b.neighbours []

theorem zone_of_keptEntries {e : NeighbourEntry} (h : e ∈ keptEntries b) : e.zone ≠ b.zone := by
  have key : ∀ (es acc : List NeighbourEntry), (∀ x ∈ acc, x.zone ≠ b.zone) → ∀ x ∈ es.foldl (fun (es : List NeighbourEntry) e =>
      if e.zone = b.zone ∨ (∃ x ∈ es, x.zone = e.zone) ∨ 4 ≤ es.length then es else es ++ [e]) acc, x.zone ≠ b.zone := by
    intro es
    induction es with
    | nil => exact fun acc h => h
    | cons e es ih =>
      intro acc h
      rw [List.foldl_cons]
      refine ih _ fun x hx => ?_
      split at hx
      · exact h x hx
      · next hn =>
        obtain hx | hx := List.mem_append.mp hx
        · exact h x hx
        · obtain rfl := List.mem_singleton.mp hx
          exact fun hz => hn (.inl hz)
  exact key b.neighbours [] (fun _ h => by cases h) e h

/-- The table after the take of a neighbour list, before the dwell follows it. -/
def tableTaken (b : Beacon) (s : State) : State := { s with xu.neighbours := (keptEntries b).map (neighbourFrom s.xu.neighbours) }

/-! ### What a change of the dwell makes of the table -/

/-- What a dwell start leaves of an entry. -/
def Neighbour.key (n : Neighbour) : Byte × BitVec 4 × Nat × Option Tick := (n.zone, n.channel, n.a8, n.lastArrival)

/-- The entries are the same but for the good count and prediction, which a dwell start has reset in some. -/
structure Renewed (ns ns' : List Neighbour) : Prop where
  keys : ns'.map Neighbour.key = ns.map Neighbour.key
  fresh : ∀ n ∈ ns', n ∈ ns ∨ (n.good = 0 ∧ n.predicted = none)

theorem Renewed.refl (ns : List Neighbour) : Renewed ns ns := ⟨rfl, fun _ h => .inl h⟩

theorem Renewed.trans {a b c : List Neighbour} (h : Renewed a b) (g : Renewed b c) : Renewed a c :=
  ⟨g.keys.trans h.keys, fun n hn => (g.fresh n hn).elim (h.fresh n) .inr⟩

theorem Renewed.start (z : Byte) (ns : List Neighbour) :
    Renewed ns (ns.map fun y => if y.zone = z then { y with good := 0, predicted := none } else y) := by
  refine ⟨?_, fun n hn => ?_⟩
  · rw [List.map_map]
    refine List.map_congr_left fun y _ => ?_
    rw [Function.comp_apply]
    split <;> rfl
  · obtain ⟨y, hy, rfl⟩ := List.mem_map.mp hn
    split
    exacts [.inr ⟨rfl, rfl⟩, .inl hy]

/-- The dwell has moved, and the table with it; a PRIMARY link is untouched. -/
structure TableMoved (s t : State) : Prop where
  moved : DwellMoved s t
  table : Renewed s.xu.neighbours t.xu.neighbours
  primary : ∀ l, (linkOf s l).role = .primary → linkOf t l = linkOf s l

theorem TableMoved.refl (s : State) : TableMoved s s := ⟨.refl s, .refl _, fun _ _ => rfl⟩

theorem TableMoved.trans (h : TableMoved s t) (g : TableMoved t u) : TableMoved s u :=
  ⟨h.moved.trans g.moved, h.table.trans g.table, fun l hl => by
    have ht := h.primary l hl
    rw [g.primary l (by rw [ht]; exact hl), ht]⟩

theorem endDwell_table (s : State) : TableMoved s (endDwell s) := ⟨endDwell_moved s, .refl _, fun l _ => linkOf_endDwell s l⟩

theorem startDwell_table (hl : (linkOf s l).role = .standby) (hu : (linkOf s l).usable = true) (x : Neighbour) :
    TableMoved s (startDwell l x s) := by
  have hne : (linkOf s l).role ≠ .primary := by rw [hl]; exact Role.noConfusion
  obtain ⟨-, -, -, hns, hother, -⟩ := startDwell_started hne hu x
  refine ⟨startDwell_moved hne x, by rw [hns]; exact .start _ _, fun m hm => ?_⟩
  obtain rfl | rfl := eq_or_eq_otherLink l m
  · exact absurd hm hne
  · exact hother

theorem adjustDwell_table (s : State) : TableMoved s (adjustDwell s) := by
  cases hl : dwellingLink s with
  | none =>
    rw [adjustDwell_deaf hl]
    exact endDwell_table s
  | some l =>
    have hr := dwellingLink_role hl
    have hu := dwellingLink_usable hl
    by_cases hk : ∃ n, dwelt s = some n ∧ n.zone ≠ s.ft.zone
    · obtain ⟨n, hn, he⟩ := hk
      rw [adjustDwell_keeps hl hn he]
      exact .refl s
    · rw [adjustDwell_moves hl fun n hn => by by_contra h; exact hk ⟨n, hn, h⟩]
      cases s.xu.neighbours.find? (Neighbour.eligible s.ft.zone) with
      | none => exact endDwell_table s
      | some x => exact startDwell_table hr hu x

/-- The dwell follows the table: it starts anew where the dwelt entry has moved to another channel, and else as `adjustDwell` says. -/
theorem takeNeighbourList_cases (b : Beacon) (s : State) :
    takeNeighbourList b.zone b.neighbours s = adjustDwell (tableTaken b s) ∨
      ∃ l old new, dwelt s = some old ∧ dwelt (tableTaken b s) = some new ∧ dwellingLink (tableTaken b s) = some l ∧
        new.channel ≠ old.channel ∧ takeNeighbourList b.zone b.neighbours s = startDwell l new (tableTaken b s) := by
  have htable : { s with xu.neighbours := b.neighbours.foldl (keepNeighbour b.zone s.xu.neighbours) [] } = tableTaken b s := by
    rw [tableTaken, keptTable_eq]
  rw [← htable]
  unfold takeNeighbourList
  dsimp only
  split
  · next old new l hold hnew hl =>
    split
    · next h => exact .inr ⟨l, old, new, hold, hnew, hl, h.1, rfl⟩
    · exact .inl rfl
  · exact .inl rfl

theorem takeNeighbourList_table (b : Beacon) (s : State) : TableMoved (tableTaken b s) (takeNeighbourList b.zone b.neighbours s) := by
  obtain h | ⟨l, old, new, -, -, hl, -, h⟩ := takeNeighbourList_cases b s
  · rw [h]
    exact adjustDwell_table _
  · rw [h]
    exact startDwell_table (dwellingLink_role hl) (dwellingLink_usable hl) new

end Sys2Proof.Machine
end

section
/-! SUPPORT. What a taken beacon's content leaves, and the take in a window (R87 to R89). -/

-- One proof is checked after another: each worker thread of Lean reserves memory of its own.
set_option Elab.async false

namespace Sys2Proof.Machine

variable {s t u v w p x z : State} {l : Link} {n : Neighbour} {b : Beacon} {fn a : Tick} {q : Nat} {win : BeaconWindow}

/-! ### The content -/

/-- The figures that a list of entries has after a take. -/
theorem listed_figures {old ns : List Neighbour} (h : Renewed ((keptEntries b).map (neighbourFrom old)) ns) (hn : n ∈ ns) :
    (∀ o, old.find? (fun o => decide (o.zone = n.zone)) = some o → n.a8 = o.a8 ∧ n.lastArrival = o.lastArrival) ∧
    ((∀ o ∈ old, o.zone ≠ n.zone) → n.a8 = 0 ∧ n.good = 0 ∧ n.lastArrival = none ∧ n.predicted = none) := by
  have hkey : n.key ∈ ((keptEntries b).map (neighbourFrom old)).map Neighbour.key := by
    rw [← h.keys]
    exact List.mem_map_of_mem hn
  obtain ⟨m, hm, hk⟩ := List.mem_map.mp hkey
  obtain ⟨e, -, rfl⟩ := List.mem_map.mp hm
  simp only [Neighbour.key, Prod.mk.injEq] at hk
  obtain ⟨hzone, -, ha8, harrival⟩ := hk
  have hez : e.zone = n.zone := (neighbourFrom_zone old e).1.symm.trans hzone
  have habsent : ∀ e, (∀ o ∈ old, o.zone ≠ e.zone) → neighbourFrom old e = ⟨e.zone, e.channel, 0, 0, none, none⟩ := fun e ho => by
    have hnone : old.find? (fun n => decide (n.zone = e.zone)) = none :=
      List.find?_eq_none.mpr fun o hm => by rw [decide_eq_true_iff]; exact ho o hm
    rw [neighbourFrom, hnone]
  refine ⟨fun o ho => ?_, fun ho => ?_⟩
  · rw [← hez] at ho
    have hf : neighbourFrom old e = { o with channel := e.channel } := by rw [neighbourFrom, ho]
    rw [← ha8, ← harrival, hf]
    exact ⟨rfl, rfl⟩
  · have hf := habsent e (by rw [hez]; exact ho)
    rw [← ha8, ← harrival, hf]
    obtain hmem | ⟨hg, hp⟩ := h.fresh n hn
    · obtain ⟨e', -, rfl⟩ := List.mem_map.mp hmem
      rw [habsent e' (by rw [← (neighbourFrom_zone old e').1]; exact ho)]
      exact ⟨rfl, rfl, rfl, rfl⟩
    · exact ⟨rfl, hg, rfl, hp⟩

/-- What the content of the beacon `b`, taken in the state `p`, leaves. -/
structure ContentTaken (b : Beacon) (p z : State) : Prop where
  uq : z.uq = takenQueue b p
  ab : z.ab = takeAllowance b.allowance p.ab
  ssu : z.ssu = { p.ssu with grants := grantsNamed b p.carid 8, contention := grantsNamed b 1023#10 4 }
  table : Renewed ((keptEntries b).map (neighbourFrom p.xu.neighbours)) z.xu.neighbours
  same : z.ram = p.ram ∧ z.wt = p.wt ∧ z.ftu = p.ftu ∧ z.dlf = p.dlf ∧ z.cu = p.cu ∧ z.carid = p.carid
  primary : ∀ l, (linkOf p l).role = .primary → linkOf z l = linkOf p l
  figures : ∀ l, SameFigures (linkOf p l) (linkOf z l)

theorem ContentTaken.moved (h : ContentTaken b p x) (hm : TableMoved x z) : ContentTaken b p z := by
  obtain ⟨hft, huq, hssu, hab, hmae, hau, hcu, hram, hwt, hftu, hdlf⟩ := hm.moved.same
  obtain ⟨ram, wt, ftu, dlf, cu, carid⟩ := h.same
  obtain ⟨xu, hx⟩ := hm.moved.eq
  refine ⟨huq.trans h.uq, hab.trans h.ab, hssu.trans h.ssu, h.table.trans hm.table,
    ⟨hram.trans ram, hwt.trans wt, hftu.trans ftu, hdlf.trans dlf, hcu.trans cu, by rw [hx]; exact carid⟩, fun l hl => ?_,
    fun l => (h.figures l).trans (hm.moved.figures l)⟩
  have hp := h.primary l hl
  rw [hm.primary l (by rw [hp]; exact hl), hp]

/-- The content's take, with any timing. -/
theorem distribute_content (b : Beacon) (p : State) (ft : FrameTimer) :
    ContentTaken b p (distribute b { p with ft := ft }) ∧ (distribute b { p with ft := ft }).ft = ft ∧
    (distribute b { p with ft := ft }).mae = p.mae ∧ (distribute b { p with ft := ft }).au = p.au := by
  obtain ⟨x, hx⟩ : ∃ x, x = tableTaken b (contentTaken b { p with ft := ft }) := ⟨_, rfl⟩
  have hm := takeNeighbourList_table b (contentTaken b { p with ft := ft })
  rw [distribute_eq]
  rw [← hx] at hm
  have hxu : ∀ l, linkOf x l = linkOf p l := fun l => by cases l <;> rw [hx] <;> rfl
  have hbase : ContentTaken b p x := by
    refine ⟨by rw [hx]; rfl, by rw [hx]; rfl, by rw [hx]; rfl, by rw [hx]; exact .refl _, by rw [hx]; exact ⟨rfl, rfl, rfl, rfl, rfl, rfl⟩,
      fun l _ => hxu l, fun l => by rw [hxu]; exact .refl _⟩
  obtain ⟨hft, -, -, -, hmae, hau, -⟩ := hm.moved.same
  exact ⟨hbase.moved hm, by rw [hft, hx]; rfl, by rw [hmae, hx]; rfl, by rw [hau, hx]; rfl⟩

/-! ### The lock state at a take in a window (R92 to R94) -/

/-- The timing after step 5 of a take in a window. -/
def takenLock (ft : FrameTimer) : FrameTimer :=
  match ft.lock with
  | .search | .locked => ft
  | .acquire => if ft.good + 1 < 3 then { ft with good := ft.good + 1, miss := 0 } else { ft with lock := .locked, good := 0, miss := 0, syncErrors := 0 }
  | .holdover => { ft with lock := .locked, good := 0, miss := 0, syncErrors := 0 }

theorem enterLocked_eq (s : State) : ∃ mae, enterLocked s = { s with ft := { s.ft with lock := .locked, good := 0, miss := 0, syncErrors := 0 }, mae := mae } := by
  obtain ⟨mae, h, -⟩ := setLock_eq .locked { s with ft.good := 0, ft.miss := 0, ft.syncErrors := 0 }
  exact ⟨mae, h⟩

theorem takeLock_eq (s : State) : ∃ mae, takeLock s = { s with ft := takenLock s.ft, mae := mae } := by
  obtain ⟨mae, h⟩ := enterLocked_eq s
  unfold takeLock takenLock
  cases hl : s.ft.lock with
  | search => exact ⟨s.mae, rfl⟩
  | locked => exact ⟨s.mae, rfl⟩
  | holdover => exact ⟨mae, h⟩
  | acquire =>
    dsimp only
    by_cases hg : s.ft.good + 1 < 3
    · rw [if_pos hg, if_pos hg, ← hl]
      exact ⟨s.mae, rfl⟩
    · rw [if_neg hg, if_neg hg]
      exact ⟨mae, h⟩

/-! ### The take in a window -/

/-- A take in a window, before the frame start that it may make due. -/
theorem takeInWindow_content (a : Tick) (q : Nat) (b : Beacon) (win : BeaconWindow) (p : State) : ∃ z,
    takeInWindow a q b win p = followFrameStart z ∧ ContentTaken b p z ∧ z.ft = takenLock (takeTiming a q b win p.ft) ∧ z.au = p.au ∧
    z.xu = (distribute b { p with ft := takeTiming a q b win p.ft }).xu := by
  obtain ⟨hc, hft, -, hau⟩ := distribute_content b p (takeTiming a q b win p.ft)
  obtain ⟨mae, h⟩ := takeLock_eq (distribute b { p with ft := takeTiming a q b win p.ft })
  refine ⟨_, rfl, ?_, ?_, ?_, ?_⟩
  all_goals
    rw [h]
  · exact ⟨hc.uq, hc.ab, hc.ssu, hc.table, hc.same, hc.primary, hc.figures⟩
  · show takenLock _ = _
    rw [hft]
  · exact hau

theorem followFrameStart_none (hn : s.ft.next = some fn) (hd : 0 < tickDiff fn s.ft.tick) : followFrameStart s = s := by
  unfold followFrameStart frameStartDue
  by_cases hl : s.ft.lock = .search
  · rw [if_pos hl]
  · rw [if_neg hl, hn]
    exact if_pos hd

theorem followFrameStart_due (hl : s.ft.lock ≠ .search) (hn : s.ft.next = some fn) (hd : tickDiff fn s.ft.tick ≤ 0) :
    followFrameStart s = frameStartAt fn s := by
  unfold followFrameStart
  rw [frameStartDue_of hl hn]
  exact if_neg (Int.not_lt.mpr hd)

/-- What ends a wait at the PRIMARY link leaves all but the window alone. -/
theorem release_primary (h : (linkOf s l).role = .primary) : releaseWatch l (releaseClose l s) =
    { s with ft.window := s.ft.window.map fun w => { w with wait := w.wait.release } } := by
  rw [release_eq, if_pos h, if_neg (by rw [h]; exact Role.noConfusion)]

end Sys2Proof.Machine
end

section
/-! SUPPORT. The timing that a taken beacon leaves (R87 to R94), and where a beacon is taken (R86). -/

-- One proof is checked after another: each worker thread of Lean reserves memory of its own.
set_option Elab.async false

namespace Sys2Proof.Machine

variable {s t u v w p x z : State} {l : Link} {n : Neighbour} {b : Beacon} {fn a : Tick} {q : Nat} {win : BeaconWindow} {ft : FrameTimer}

/-! ### The timing of a take in a window -/

theorem steer_eq (a : Tick) (win : BeaconWindow) (ft : FrameTimer) : ∃ next, steer a win ft = { ft with next := next } := by
  unfold steer
  cases ft.lock <;> exact ⟨_, rfl⟩

theorem steer_follows (h : ft.lock = .locked ∨ ft.lock = .holdover) (hn : ft.next = some fn) : (steer a win ft).next =
    some (fn + BitVec.ofInt 32 (max (-64) (min 64 ((a - win.expected).toInt.tdiv 4)))) := by
  unfold steer
  obtain h | h := h <;> rw [h] <;> exact congrArg (Option.map _) hn

theorem steer_acquire (h : ft.lock = .acquire) : (steer a win ft).next =
    some (if win.begun then a - BitVec.ofNat 32 win.comp + BitVec.ofNat 32 ft.period else a - BitVec.ofNat 32 win.comp) := by
  unfold steer
  rw [h]
  rfl

theorem checkNumber_kept {n : BitVec 6} {begun : Bool} (h : n = if begun then ft.frame else ft.frame + 1#6) : checkNumber n begun ft = ft :=
  if_pos h

theorem checkNumber_begun {n : BitVec 6} {begun : Bool} (h : n ≠ if begun then ft.frame else ft.frame + 1#6) (hb : begun = true) :
    checkNumber n begun ft = { ft with frame := n, renumbers := min (ft.renumbers + 1) 65535 } := by
  rw [checkNumber, if_neg h, if_pos hb]
  rfl

theorem checkNumber_coming {n : BitVec 6} {begun : Bool} (h : n ≠ if begun then ft.frame else ft.frame + 1#6) (hb : begun = false) :
    checkNumber n begun ft = { ft with pendingFrame := some n, renumbers := min (ft.renumbers + 1) 65535 } := by
  rw [checkNumber, if_neg h, if_neg (by rw [hb]; exact Bool.false_ne_true)]
  rfl

/-- The frame number after its check (R87 step 2). -/
def Numbered (n : BitVec 6) (begun : Bool) (f g : FrameTimer) : Prop :=
  if n = (if begun then f.frame else f.frame + 1#6) then g.frame = f.frame ∧ g.pendingFrame = f.pendingFrame ∧ g.renumbers = f.renumbers
  else g.renumbers = min (f.renumbers + 1) 65535 ∧ (begun = true → g.frame = n ∧ g.pendingFrame = f.pendingFrame) ∧
    (begun = false → g.frame = f.frame ∧ g.pendingFrame = some n)

/-- A take in a window sets the next frame start, the number, the window and the layout, and nothing else of the timing. -/
theorem takeTiming_eq (a : Tick) (q : Nat) (b : Beacon) (win : BeaconWindow) (ft : FrameTimer) : ∃ frame pendingFrame renumbers,
    takeTiming a q b win ft = { ft with
      next := (steer a win ft).next, frame := frame, pendingFrame := pendingFrame, renumbers := renumbers
      window := some { win with taken := true, quality := q }, layout := some ⟨b.period, b.slots, if win.begun then 0 else 1⟩ } ∧
    Numbered b.frame win.begun ft { ft with frame := frame, pendingFrame := pendingFrame, renumbers := renumbers } := by
  obtain ⟨next, hs⟩ := steer_eq a win ft
  unfold takeTiming
  dsimp only
  rw [hs]
  unfold Numbered
  by_cases h : b.frame = if win.begun then ft.frame else ft.frame + 1#6
  · rw [checkNumber_kept (ft := { ft with next := next }) h]
    exact ⟨ft.frame, ft.pendingFrame, ft.renumbers, rfl, by rw [if_pos h]; exact ⟨rfl, rfl, rfl⟩⟩
  · cases hb : win.begun with
    | true =>
      rw [hb] at h
      rw [checkNumber_begun (ft := { ft with next := next }) h rfl]
      exact ⟨_, _, _, rfl, by rw [if_neg h]; exact ⟨rfl, fun _ => ⟨rfl, rfl⟩, nofun⟩⟩
    | false =>
      rw [hb] at h
      rw [checkNumber_coming (ft := { ft with next := next }) h rfl]
      exact ⟨_, _, _, rfl, by rw [if_neg h]; exact ⟨rfl, nofun, fun _ => ⟨rfl, rfl⟩⟩⟩

theorem takenLock_eq (ft : FrameTimer) : ∃ lock good miss syncErrors,
    takenLock ft = { ft with lock := lock, good := good, miss := miss, syncErrors := syncErrors } := by
  unfold takenLock
  cases ft.lock with
  | search => exact ⟨_, _, _, _, rfl⟩
  | locked => exact ⟨_, _, _, _, rfl⟩
  | holdover => exact ⟨_, _, _, _, rfl⟩
  | acquire =>
    dsimp only
    split
    exacts [⟨_, _, _, _, rfl⟩, ⟨_, _, _, _, rfl⟩]

/-! ### Where a beacon is taken (R86) -/

theorem screenBeacon_takes (hz : b.zone = s.ft.zone) (hw : s.ft.window = some win) (hin : withinTicks a win.expected win.half = true)
    (ht : win.taken = false) : screenBeacon a q b s = takeInWindow a q b win s := by
  unfold screenBeacon
  simp only [hz, ne_eq, not_true_eq_false, decide_false, Bool.and_false, Bool.false_eq_true, if_false, windowOf_eq_some hw hin, ht, if_true]

theorem screenBeacon_reseeds (hl : s.ft.lock = .acquire) (h : (∀ win, s.ft.window = some win → withinTicks a win.expected win.half = false) ∨
    ∃ win, s.ft.window = some win ∧ withinTicks a win.expected win.half = true ∧ win.taken = false ∧ b.zone ≠ s.ft.zone) :
    screenBeacon a q b s = takeReseed a b s := by
  have hf : (decide (s.ft.lock = .locked) || decide (s.ft.lock = .holdover)) = false := by rw [hl]; rfl
  unfold screenBeacon
  simp only [hf, Bool.false_and, Bool.false_eq_true, if_false]
  obtain h | ⟨win, hw, hin, ht, hz⟩ := h
  · have hnone : windowOf a s.ft = none := by
      rw [windowOf, Option.filter_eq_none_iff]
      intro win hs
      rw [h win hs]
      exact Bool.false_ne_true
    rw [hnone]
  · simp only [windowOf_eq_some hw hin, ht, Bool.false_eq_true, if_false, hz]

/-! ### The take by seeding (R90 to R92) -/

theorem enterAcquire_eq (good : Nat) (s : State) : ∃ mae, enterAcquire good s =
    { s with ft := { s.ft with lock := .acquire, good := good, miss := 0 }, mae := mae } := by
  obtain ⟨mae, h, -⟩ := setLock_eq .acquire { s with ft.good := good, ft.miss := 0 }
  exact ⟨mae, h⟩

/-- The timing of a take by seeding. -/
def seededTiming (a : Tick) (b : Beacon) (ft : FrameTimer) : FrameTimer := { seedFrom a b ft with lock := .acquire, good := 1, miss := 0 }

/-- The window that a seeding leaves. -/
def seededWindow (a : Tick) (b : Beacon) (ft : FrameTimer) : Option BeaconWindow :=
  openedAtOnce ft.tick (a - BitVec.ofNat 32 ft.timing.comp + BitVec.ofNat 32 b.period) ft.timing.comp 2000

/-- A window opening that follows a take by seeding. -/
theorem followOpening_seeded (h : s.ft = seededTiming a b ft) : followOpening s =
    { s with ft := { seededTiming a b ft with window := seededWindow a b ft } } := by
  have ho := followOpening_eq (s := s) (fn := a - BitVec.ofNat 32 ft.timing.comp + BitVec.ofNat 32 b.period)
    (by rw [h]; exact LockState.noConfusion) (by rw [h]; rfl) (by rw [h]; rfl) (by rw [h]; rfl)
  rw [ho, h]
  rfl

theorem release_seeded (ft : FrameTimer) : (seededWindow a b ft).map (fun w => { w with wait := w.wait.release }) = seededWindow a b ft := by
  unfold seededWindow openedAtOnce
  dsimp only
  split <;> rfl

end Sys2Proof.Machine
end

section
/-! SUPPORT. The takes by seeding, in ACQUIRE and at the end of a search (R91, R125). -/

-- One proof is checked after another: each worker thread of Lean reserves memory of its own.
set_option Elab.async false

namespace Sys2Proof.Machine

variable {s t u v w p x y z : State} {l : Link} {n : Neighbour} {b : Beacon} {fn a : Tick} {q : Nat}

/-- The content distributed and ACQUIRE entered, after a seeding. -/
theorem seeded_content (a : Tick) (b : Beacon) (v : State) : ∃ y, enterAcquire 1 (distribute b { v with ft := seedFrom a b v.ft }) = y ∧
    ContentTaken b v y ∧ y.ft = seededTiming a b v.ft ∧ y.au = v.au ∧ y.xu = (distribute b { v with ft := seedFrom a b v.ft }).xu := by
  obtain ⟨hc, hft, -, hau⟩ := distribute_content b v (seedFrom a b v.ft)
  obtain ⟨mae, h⟩ := enterAcquire_eq 1 (distribute b { v with ft := seedFrom a b v.ft })
  refine ⟨_, h, ⟨hc.uq, hc.ab, hc.ssu, hc.table, hc.same, hc.primary, hc.figures⟩, ?_, hau, rfl⟩
  dsimp only
  rw [hft]
  rfl

/-- No frame start follows a seeding whose next frame start is to come. -/
theorem followFrameStart_seeded (h : s.ft = seededTiming a b v.ft)
    (hd : 0 < tickDiff (a - BitVec.ofNat 32 v.ft.timing.comp + BitVec.ofNat 32 b.period) v.ft.tick) : followFrameStart s = s :=
  followFrameStart_none (fn := a - BitVec.ofNat 32 v.ft.timing.comp + BitVec.ofNat 32 b.period) (by rw [h]; rfl) (by rw [h]; exact hd)

theorem takeReseed_content (hd : 0 < tickDiff (a - BitVec.ofNat 32 p.ft.timing.comp + BitVec.ofNat 32 b.period) p.ft.tick) : ∃ z,
    takeReseed a b p = { z with ft := { seededTiming a b p.ft with window := seededWindow a b p.ft } } ∧ ContentTaken b p z := by
  obtain ⟨y, hy, hc, hft, -, -⟩ := seeded_content a b p
  have hm := adjustDwell_table y
  have hz : (adjustDwell y).ft = seededTiming a b p.ft := by rw [hm.moved.same.1, hft]
  refine ⟨adjustDwell y, ?_, hc.moved hm⟩
  rw [takeReseed, hy, followFrameStart_seeded hz hd, followOpening_seeded hz]

/-! ### The roles at the end of a search (R125) -/

/-- The other link as the end of a search leaves it. -/
def LinkState.yielded (k : LinkState) : LinkState := if k.enabled then { k with role := .standby, a8 := 0, scanExpiry := none } else k

theorem claimPrimary_settles (l : Link) (q : Nat) (s : State) : ∃ mae linkA linkB nextChannel u, claimPrimary l q s = settleBurst u ∧
    u = { s with xu.linkA := linkA, xu.linkB := linkB, mae := mae } ∧
    linkOf u l = { linkOf s l with role := .primary, a8 := 8 * q, scanExpiry := none, nextChannel := nextChannel } ∧
    linkOf u (otherLink l) = (linkOf s (otherLink l)).yielded := by
  obtain ⟨next, hnext⟩ : ∃ next, next = if enableHolds l s then some (linkOf s l).channel else none := ⟨_, rfl⟩
  obtain ⟨x, hx⟩ : ∃ x, x = mapLink (otherLink l) LinkState.yielded (mapLink l (fun k =>
    { k with role := .primary, a8 := 8 * q, scanExpiry := none, nextChannel := next }) s) := ⟨_, rfl⟩
  obtain ⟨linkA, linkB, hxx⟩ : ∃ linkA linkB, x = { s with xu.linkA := linkA, xu.linkB := linkB } := by
    rw [hx]
    cases l <;> exact ⟨_, _, rfl⟩
  have hl : linkOf x l = { linkOf s l with
      role := .primary, a8 := 8 * q, scanExpiry := none, nextChannel := next } := by
    rw [hx]
    cases l <;> rfl
  have ho : linkOf x (otherLink l) = (linkOf s (otherLink l)).yielded := by
    rw [hx]
    cases l <;> rfl
  have hclaim : claimPrimary l q s = settleBurst (if decide ((linkOf s l).role ≠ .primary) then requestStatus x else x) := by
    rw [hx, hnext]
    rfl
  by_cases hc : decide ((linkOf s l).role ≠ .primary) = true
  · obtain ⟨mae, hm, -⟩ := requestStatus_moves x
    rw [if_pos hc, hm] at hclaim
    refine ⟨mae, linkA, linkB, next, _, hclaim, by rw [hxx], ?_, ?_⟩
    · exact (linkOf_congr rfl l).trans hl
    · exact (linkOf_congr rfl _).trans ho
  · rw [if_neg hc] at hclaim
    exact ⟨s.mae, linkA, linkB, next, _, hclaim, hxx, hl, ho⟩

theorem BurstSettled.carid (h : BurstSettled s t) : t.carid = s.carid := by
  obtain rfl | ⟨b, k, -, h⟩ := h
  · rfl
  · obtain ⟨w, v, cu, rfl, -⟩ := h.eq
    cases b.link <;> rfl

end Sys2Proof.Machine
end

section
/-! SUPPORT. The dwell after a taken beacon (R126, R127), and the frame start that a take makes due. -/

-- One proof is checked after another: each worker thread of Lean reserves memory of its own.
set_option Elab.async false

namespace Sys2Proof.Machine

variable {s t u v w p x y z : State} {l : Link} {n old new : Neighbour} {b : Beacon} {fn a : Tick} {q : Nat} {d : Dwell} {e : NeighbourEntry}
  {win : BeaconWindow} {rest : List NeighbourEntry}

/-! ### Where the dwell goes -/

theorem dwellingLink_search (h : s.ft.lock = .search) : dwellingLink s = none := by
  unfold dwellingLink
  split
  · rw [h]
    simp
  · rfl

theorem takeNeighbourList_restarts (hold : dwelt s = some old) (hnew : dwelt (tableTaken b s) = some new)
    (hl : dwellingLink (tableTaken b s) = some l) (hc : new.channel ≠ old.channel) (hz : new.zone ≠ s.ft.zone) :
    takeNeighbourList b.zone b.neighbours s = startDwell l new (tableTaken b s) := by
  have htable : { s with xu.neighbours := b.neighbours.foldl (keepNeighbour b.zone s.xu.neighbours) [] } = tableTaken b s := by
    rw [tableTaken, keptTable_eq]
  rw [← htable] at hnew hl ⊢
  unfold takeNeighbourList
  simp only [hold, hnew, hl]
  exact if_pos ⟨hc, (eligible_iff _ _).mpr hz⟩

/-- With the channel kept, or no entry of the dwelt zone, the dwell is adjusted and no more. -/
theorem takeNeighbourList_adjusts (h : ∀ old new, dwelt s = some old → dwelt (tableTaken b s) = some new → new.channel = old.channel) :
    takeNeighbourList b.zone b.neighbours s = adjustDwell (tableTaken b s) := by
  obtain h' | ⟨l, old, new, hold, hnew, -, hc, -⟩ := takeNeighbourList_cases b s
  · exact h'
  · exact absurd (h old new hold hnew) hc

/-- In SEARCH no link dwells. -/
theorem distribute_search (h : s.ft.lock = .search) : distribute b s = endDwell (tableTaken b (contentTaken b s)) := by
  have hl : dwellingLink (tableTaken b (contentTaken b s)) = none := dwellingLink_search h
  rw [distribute_eq]
  obtain h' | ⟨l, old, new, -, -, hd, -, -⟩ := takeNeighbourList_cases b (contentTaken b s)
  · rw [h', adjustDwell_deaf hl]
  · rw [hl] at hd
    cases hd

/-- The dwelt entry of the new table. -/
theorem dwelt_tableTaken (hd : s.xu.dwell = some d) : dwelt (tableTaken b s) =
    ((keptEntries b).find? fun e => decide (e.zone = d.zone)).map (neighbourFrom s.xu.neighbours) := by
  have hdw : dwelt (tableTaken b s) = ((keptEntries b).map (neighbourFrom s.xu.neighbours)).find? fun n => decide (n.zone = d.zone) := by
    simp only [dwelt, tableTaken, hd]
    rfl
  rw [hdw, List.find?_map]
  congr 2
  funext e
  rw [Function.comp_apply, (neighbourFrom_zone _ e).1]

theorem dwelt_none (h : s.xu.dwell = none) : dwelt s = none := by simp only [dwelt, h]

/-- The first entry of the new table is eligible, as every entry is. -/
theorem first_tableTaken (s : State) (h : keptEntries b = e :: rest) : (tableTaken b s).xu.neighbours.find? (fun n => decide (n.zone ≠ b.zone)) =
    some (neighbourFrom s.xu.neighbours e) := by
  have hz : (neighbourFrom s.xu.neighbours e).zone ≠ b.zone := by
    rw [(neighbourFrom_zone _ e).1]
    exact zone_of_keptEntries (by rw [h]; exact List.mem_cons_self)
  have ht : (tableTaken b s).xu.neighbours = neighbourFrom s.xu.neighbours e :: rest.map (neighbourFrom s.xu.neighbours) := by
    rw [tableTaken, h]
    rfl
  rw [ht]
  exact List.find?_cons_of_pos (p := fun n : Neighbour => decide (n.zone ≠ b.zone)) (decide_eq_true hz)

/-- The dwell of a STANDBY link on the first entry of the new table. -/
theorem starts_first (hl : dwellingLink y = some l) (hns : y.xu.neighbours = (tableTaken b s).xu.neighbours) (hzone : y.ft.zone = b.zone)
    (hnone : dwelt y = none) (h : keptEntries b = e :: rest) :
    DwellStarted l (linkOf y l) (neighbourFrom s.xu.neighbours e) y (adjustDwell y) := by
  have hx : y.xu.neighbours.find? (fun n => decide (n.zone ≠ y.ft.zone)) = some (neighbourFrom s.xu.neighbours e) := by
    rw [hns, hzone]
    exact first_tableTaken s h
  rw [adjustDwell_starts hl (fun n hn => by rw [hnone] at hn; cases hn) hx]
  exact startDwell_started (by rw [dwellingLink_role hl]; exact Role.noConfusion) (dwellingLink_usable hl) _

/-- A dwell that has just begun has heard nothing. -/
theorem adjustDwell_unheard (h : s.xu.dwell = none) (hd : (adjustDwell s).xu.dwell = some d) : d.heard = false := by
  cases hl : dwellingLink s with
  | none =>
    rw [adjustDwell_deaf hl] at hd
    cases hd
  | some l =>
    rw [adjustDwell_moves hl fun n hn => by rw [dwelt_none h] at hn; cases hn] at hd
    cases hx : s.xu.neighbours.find? (Neighbour.eligible s.ft.zone) with
    | none =>
      rw [hx] at hd
      cases hd
    | some x =>
      rw [hx] at hd
      have hs := startDwell_started (s := s) (l := l) (by rw [dwellingLink_role hl]; exact Role.noConfusion) (dwellingLink_usable hl) x
      rw [hs.1] at hd
      cases hd
      rfl

theorem distribute_unheard (h : s.xu.dwell = none) (hd : (distribute b s).xu.dwell = some d) : d.heard = false := by
  have hnone : dwelt (contentTaken b s) = none := dwelt_none h
  rw [distribute_eq, takeNeighbourList_adjusts fun old new ho _ => by rw [hnone] at ho; cases ho] at hd
  exact adjustDwell_unheard (s := tableTaken b (contentTaken b s)) h hd

/-! ### The frame start that a take makes due (R87) -/

/-- A frame start whose dwell, if there is one, has heard nothing: no link crosses over. -/
theorem frameStartAt_unheard (fn : Tick) (h : ∀ d, s.xu.dwell = some d → d.heard = false) :
    FrameBegunOnly fn s (frameStartAt fn s) ∧ ∀ l, SameFigures (linkOf s l) (linkOf (frameStartAt fn s) l) := by
  obtain ⟨w, hw, hf⟩ := frameStartAt_begun fn s
  obtain ⟨-, -, wxu, -⟩ := hw.figures
  have hstays : decideCrossover w = advanceDwell (answerForced .noCandidate w) := decideCrossover_calm fun l d n _ hd hh _ => by
    rw [wxu] at hd
    rw [h d hd] at hh
    cases hh
  have ha := answerForced_answered .noCandidate w
  have hm := advanceDwell_moved (answerForced .noCandidate w)
  rw [hf, hstays]
  refine ⟨begunOnly hw ha hm, fun l => ?_⟩
  have hl := hm.figures l
  rw [ha.unforced.link, linkOf_congr wxu] at hl
  exact hl

end Sys2Proof.Machine
end

section
/-! SUPPORT. The lists of a taken beacon, its lock state, and the take that ends a search (R91 to R94, R125). -/

-- One proof is checked after another: each worker thread of Lean reserves memory of its own.
set_option Elab.async false

namespace Sys2Proof.Machine

variable {s t u v w p x y z : State} {l : Link} {n old new : Neighbour} {b : Beacon} {fn a : Tick} {q : Nat} {d : Dwell} {e : NeighbourEntry}
  {win : BeaconWindow} {rest : List NeighbourEntry} {k : LinkState}

/-- The mark of a take in a window, with the wait of its close over (R84, R86). -/
def markedWindow (q : Nat) (win : BeaconWindow) : BeaconWindow :=
  { win with taken := true, quality := q, wait := if win.wait = .waiting then .ended else win.wait }

theorem release_marked (q : Nat) (win : BeaconWindow) :
    { win with taken := true, quality := q, wait := win.wait.release } = markedWindow q win := by
  unfold markedWindow
  cases win.wait <;> rfl

/-- A state after a taken beacon, with what waited for the report of the PRIMARY link released. -/
theorem release_content (h : ContentTaken b p z) (hl : (linkOf p l).role = .primary) : releaseWatch l (releaseClose l z) =
    { z with ft.window := z.ft.window.map fun w => { w with wait := w.wait.release } } :=
  release_primary (by rw [h.primary l hl]; exact hl)

/-- What a beacon's lists, taken in `s`, leave in `t`. -/
def BeaconListed (b : Beacon) (s t : State) : Prop :=
  t.ssu.grants = grantsNamed b s.carid 8 ∧ t.ssu.contention = grantsNamed b 1023#10 4 ∧
  t.xu.neighbours.map (fun n => (n.zone, n.channel)) = (keptEntries b).map (fun e => (e.zone, e.channel)) ∧
  (∀ n ∈ t.xu.neighbours,
    (∀ o, s.xu.neighbours.find? (fun o => decide (o.zone = n.zone)) = some o → n.a8 = o.a8 ∧ n.lastArrival = o.lastArrival) ∧
    ((∀ o ∈ s.xu.neighbours, o.zone ≠ n.zone) → n.a8 = 0 ∧ n.good = 0 ∧ n.lastArrival = none ∧ n.predicted = none)) ∧
  t.ram = s.ram ∧ t.wt = s.wt ∧ t.ftu = s.ftu ∧ t.dlf = s.dlf ∧ t.cu = s.cu

theorem ContentTaken.listed (h : ContentTaken b p z) : BeaconListed b p z := by
  obtain ⟨ram, wt, ftu, dlf, cu, -⟩ := h.same
  refine ⟨by rw [h.ssu], by rw [h.ssu], ?_, fun n hn => listed_figures h.table hn, ram, wt, ftu, dlf, cu⟩
  have hk := congrArg (List.map fun k : Byte × BitVec 4 × Nat × Option Tick => (k.1, k.2.1)) h.table.keys
  simp only [List.map_map] at hk
  refine hk.trans (List.map_congr_left fun e _ => ?_)
  simp only [Function.comp_apply, Neighbour.key, neighbourFrom_zone]

variable {ft : FrameTimer}

theorem takenLock_locked (h : ft.lock = .locked) : takenLock ft = ft := by simp only [takenLock, h]

theorem takenLock_holdover (h : ft.lock = .holdover) : takenLock ft = { ft with lock := .locked, good := 0, miss := 0, syncErrors := 0 } := by
  simp only [takenLock, h]

theorem takenLock_few (h : ft.lock = .acquire) (hg : ft.good < 2) : takenLock ft = { ft with good := ft.good + 1, miss := 0 } := by
  simp only [takenLock, h, if_pos (show ft.good + 1 < 3 by omega)]

theorem takenLock_third (h : ft.lock = .acquire) (hg : 2 ≤ ft.good) :
    takenLock ft = { ft with lock := .locked, good := 0, miss := 0, syncErrors := 0 } := by
  simp only [takenLock, h, if_neg (show ¬ft.good + 1 < 3 by omega)]

theorem takeTiming_lock (a : Tick) (q : Nat) (b : Beacon) (win : BeaconWindow) (ft : FrameTimer) : (takeTiming a q b win ft).lock = ft.lock ∧
    (takeTiming a q b win ft).good = ft.good ∧ (takeTiming a q b win ft).miss = ft.miss ∧ (takeTiming a q b win ft).syncErrors = ft.syncErrors ∧
    (takeTiming a q b win ft).next = (steer a win ft).next ∧ (takeTiming a q b win ft).tick = ft.tick := by
  obtain ⟨frame, pendingFrame, renumbers, h, -⟩ := takeTiming_eq a q b win ft
  rw [h]
  exact ⟨rfl, rfl, rfl, rfl, rfl, rfl⟩

theorem takenLock_next (ft : FrameTimer) : (takenLock ft).next = ft.next ∧ (takenLock ft).tick = ft.tick := by
  obtain ⟨lock, good, miss, syncErrors, h⟩ := takenLock_eq ft
  rw [h]
  exact ⟨rfl, rfl⟩

/-- A frame not yet begun takes the beacon's number as it begins. -/
theorem numbered_next {num frame : BitVec 6} {pendingFrame : Option (BitVec 6)} {renumbers : Nat}
    (h : Numbered num false ft { ft with frame := frame, pendingFrame := pendingFrame, renumbers := renumbers }) (hp : ft.pendingFrame = none) :
    pendingFrame.getD (frame + 1#6) = num := by
  simp only [Numbered, Bool.false_eq_true, if_false] at h
  split at h
  · next hn =>
    obtain ⟨h1, h2, -⟩ := h
    rw [show pendingFrame = none from h2.trans hp, show frame = ft.frame from h1]
    exact hn.symm
  · obtain ⟨-, -, hcoming⟩ := h
    rw [show pendingFrame = some num from (hcoming trivial).2]
    rfl

/-! ### The take that ends a search (R91, R125) -/

theorem takeInSearch_content {v : State} (hv : v = claimPrimary l q p)
    (hd : 0 < tickDiff (a - BitVec.ofNat 32 v.ft.timing.comp + BitVec.ofNat 32 b.period) v.ft.tick) : ∃ y attention requests,
    takeInSearch l a q b p = { adjustDwell y with
      ft := { seededTiming a b v.ft with window := seededWindow a b v.ft }, mae.attention := attention, au.requests := requests } ∧
    ContentTaken b v y ∧ y.ft = seededTiming a b v.ft ∧ y.xu = (distribute b { v with ft := seedFrom a b v.ft }).xu ∧
    requests &&& requestBit .link ≠ 0#6 := by
  obtain ⟨y, hy, hc, hft, -, hxu⟩ := seeded_content a b v
  have hm := adjustDwell_table y
  have hz : (adjustDwell y).ft = seededTiming a b v.ft := by rw [hm.moved.same.1, hft]
  obtain ⟨attention, requests, hreq⟩ := raiseRequest_moves .link (adjustDwell y)
  have hbit : requests &&& requestBit .link ≠ 0#6 := by
    have h := requests_raiseRequest .link (adjustDwell y)
    rw [hreq] at h
    rw [show requests = _ from h]
    exact or_and_requestBit_ne _ .link
  have hrft : (raiseRequest .link (adjustDwell y)).ft = seededTiming a b v.ft := by
    rw [hreq]
    exact hz
  refine ⟨y, attention, requests, ?_, hc, hft, hxu, hbit⟩
  rw [takeInSearch, ← hv]
  dsimp only
  rw [hy, followFrameStart_seeded hrft hd, followOpening_seeded hrft, hreq]

/-- What the claim of the PRIMARY role leaves alone. -/
theorem claimPrimary_side (l : Link) (q : Nat) (s : State) : side (claimPrimary l q s) = side s := by
  obtain ⟨mae, linkA, linkB, next, u, hclaim, hu, -⟩ := claimPrimary_settles l q s
  rw [hclaim, side_settleBurst, hu]
  rfl

/-- The links once the PRIMARY role is claimed, whatever becomes of a burst. -/
theorem claimPrimary_figures (l : Link) (q : Nat) (s : State) :
    (linkOf (claimPrimary l q s) l).role = .primary ∧ (linkOf (claimPrimary l q s) l).a8 = 8 * q ∧
    (linkOf (claimPrimary l q s) l).scanExpiry = none ∧
    ((linkOf s (otherLink l)).enabled = true → (linkOf (claimPrimary l q s) (otherLink l)).role = .standby ∧
      (linkOf (claimPrimary l q s) (otherLink l)).scanExpiry = none) := by
  obtain ⟨mae, linkA, linkB, next, u, hclaim, hu, hul, huo⟩ := claimPrimary_settles l q s
  have hs := settleBurst_settled u
  rw [← hclaim] at hs
  have hl := hs.figures l
  have ho := hs.figures (otherLink l)
  refine ⟨by rw [hl.role, hul], by rw [hl.a8, hul], by rw [hl.scanExpiry, hul], fun he => ?_⟩
  rw [ho.role, ho.scanExpiry, huo, LinkState.yielded, if_pos he]
  exact ⟨rfl, rfl⟩

/-- The claim of the PRIMARY role, with no burst to settle. -/
theorem claimPrimary_idle (l : Link) (q : Nat) (hb : s.ssu.burst = none) : ∃ linkA linkB mae,
    claimPrimary l q s = { s with xu.linkA := linkA, xu.linkB := linkB, mae := mae } ∧
    linkOf (claimPrimary l q s) (otherLink l) = (linkOf s (otherLink l)).yielded := by
  obtain ⟨mae, linkA, linkB, next, u, hclaim, hu, -, huo⟩ := claimPrimary_settles l q s
  rw [hclaim, settleBurst_none (by rw [hu]; exact hb)]
  exact ⟨linkA, linkB, mae, hu, huo⟩

theorem claimPrimary_carid (l : Link) (q : Nat) (s : State) : (claimPrimary l q s).carid = s.carid := by
  obtain ⟨mae, linkA, linkB, next, u, hclaim, hu, -⟩ := claimPrimary_settles l q s
  rw [hclaim, (settleBurst_settled u).carid, hu]

theorem claimPrimary_timing (l : Link) (q : Nat) (s : State) : ∃ win, (claimPrimary l q s).ft = { s.ft with window := win } := by
  obtain ⟨mae, linkA, linkB, next, u, hclaim, hu, -⟩ := claimPrimary_settles l q s
  obtain ⟨win, h, -⟩ := (settleBurst_settled u).timing
  rw [hclaim, h, hu]
  exact ⟨win, rfl⟩

/-- The dwell of the other link after the take that ends a search, on the first entry of the list; or none. -/
theorem search_dwells {o : LinkState} {v : State} (hyx : y.xu = (endDwell (tableTaken b (contentTaken b v))).xu) (hzone : y.ft.zone = b.zone)
    (hlock : y.ft.lock ≠ .search) (hl : (linkOf v l).role = .primary) (ho : linkOf v (otherLink l) = o.yielded)
    (hoff : o.enabled = false → o.role = .off) (hburst : y.ssu.burst = none) :
    (∀ e rest, o.enabled = true → o.usable = true → keptEntries b = e :: rest →
      (adjustDwell y).xu.dwell = some ⟨e.zone, 0, false⟩ ∧ (adjustDwell y).xu.watch = none ∧ (adjustDwell y).xu.dwellBeacon = none ∧
      (∀ n ∈ (adjustDwell y).xu.neighbours, n.zone = e.zone → n.good = 0 ∧ n.predicted = none) ∧
      linkOf (adjustDwell y) (otherLink l) = if o.yielded.condition = .ready ∧ o.yielded.channel = e.channel then o.yielded
        else o.yielded.retuned y.ft.tick e.channel false) ∧
    (¬(o.enabled = true ∧ o.usable = true) ∨ keptEntries b = [] →
      (adjustDwell y).xu.dwell = none ∧ (adjustDwell y).xu.watch = none ∧ (adjustDwell y).xu.dwellBeacon = none ∧
      linkOf (adjustDwell y) (otherLink l) = o.yielded) := by
  have hylink : ∀ k, linkOf y k = linkOf v k := fun k => by
    cases k <;> simp only [linkOf, hyx] <;> rfl
  have hnone : dwelt y = none := dwelt_none (by rw [hyx]; rfl)
  have hns : y.xu.neighbours = (tableTaken b v).xu.neighbours := by rw [hyx]; rfl
  have hyo : linkOf y (otherLink l) = o.yielded := (hylink _).trans ho
  refine ⟨fun e rest hen hu hk => ?_, fun h => ?_⟩
  · have hyield : o.yielded = { o with role := .standby, a8 := 0, scanExpiry := none } := if_pos hen
    have hdl : dwellingLink y = some (otherLink l) := dwellingLink_of (by rw [hyo, hyield]) (by rw [otherLink_otherLink, hylink, hl])
      (by rw [hyo, hyield]; exact hen) (by rw [hyo, hyield]; exact hu) hlock
    obtain ⟨h1, h2, h3, h4, -, h6⟩ := starts_first (s := v) hdl hns hzone hnone hk
    obtain ⟨hez, hech⟩ := neighbourFrom_zone v.xu.neighbours e
    have hbusy : burstOn y (otherLink l) = false := by simp only [burstOn, hburst]
    rw [hez] at h1 h4
    rw [hech, hbusy, hyo] at h6
    refine ⟨h1, h2, h3, fun n hn hz => ?_, h6⟩
    rw [h4] at hn
    obtain ⟨m, -, rfl⟩ := List.mem_map.mp hn
    split at hz
    · next hm =>
      rw [if_pos hm]
      exact ⟨rfl, rfl⟩
    · next hm => exact absurd hz hm
  · have hadj : adjustDwell y = endDwell y := by
      obtain h | h := h
      · refine adjustDwell_deaf ?_
        cases hdl : dwellingLink y with
        | none => rfl
        | some k =>
          have hk := dwellingLink_role hdl
          have hu := dwellingLink_usable hdl
          obtain rfl | rfl := eq_or_eq_otherLink l k
          · rw [hylink, hl] at hk
            cases hk
          · rw [hyo] at hk hu
            cases hen : o.enabled with
            | false =>
              rw [LinkState.yielded, if_neg (by rw [hen]; exact Bool.false_ne_true), hoff hen] at hk
              cases hk
            | true =>
              rw [LinkState.yielded, if_pos hen] at hu
              exact absurd ⟨hen, hu⟩ h
      · refine adjustDwell_ends fun n hn => ?_
        rw [hns, tableTaken, h] at hn
        cases hn
    rw [hadj]
    exact ⟨rfl, rfl, rfl, by rw [linkOf_endDwell, hyo]⟩

/-! ### The dwell after a take while the car follows a zone (R126, R127) -/

/-- The dwell of a READY STANDBY link at the take of a neighbour list. -/
theorem followed_dwells (hd : x.xu.dwell = some d) (ho : (linkOf x (otherLink l)).role = .standby) (hr : (linkOf x (otherLink l)).condition = .ready)
    (hen : (linkOf x (otherLink l)).enabled = true) (hl : (linkOf x l).role = .primary) (hlock : x.ft.lock ≠ .search) (hz : x.ft.zone = b.zone) :
    (∀ o e, dwelt x = some o → (keptEntries b).find? (fun e => decide (e.zone = d.zone)) = some e →
      (e.channel = o.channel → (distribute b x).xu.dwell = x.xu.dwell ∧ (distribute b x).xu.watch = x.xu.watch ∧
        (distribute b x).xu.dwellBeacon = x.xu.dwellBeacon ∧ linkOf (distribute b x) (otherLink l) = linkOf x (otherLink l)) ∧
      (e.channel ≠ o.channel → (distribute b x).xu.dwell = some ⟨d.zone, 0, false⟩ ∧ (distribute b x).xu.watch = none ∧
        (distribute b x).xu.dwellBeacon = none)) ∧
    (∀ e rest, (∀ y ∈ keptEntries b, y.zone ≠ d.zone) → keptEntries b = e :: rest →
      (distribute b x).xu.dwell = some ⟨e.zone, 0, false⟩ ∧ (distribute b x).xu.watch = none ∧ (distribute b x).xu.dwellBeacon = none ∧
      ((linkOf x (otherLink l)).channel ≠ e.channel → burstOn x (otherLink l) = false →
        linkOf (distribute b x) (otherLink l) = (linkOf x (otherLink l)).sentTune x.ft.tick e.channel)) ∧
    (keptEntries b = [] → (distribute b x).xu.dwell = none ∧ (distribute b x).xu.watch = none) := by
  obtain ⟨c, hc⟩ : ∃ c, c = contentTaken b x := ⟨_, rfl⟩
  obtain ⟨y, hy⟩ : ∃ y, y = tableTaken b c := ⟨_, rfl⟩
  have hylink : ∀ k, linkOf y k = linkOf x k := fun k => by rw [hy, hc]; cases k <;> rfl
  have hyd : y.xu.dwell = some d := by rw [hy, hc]; exact hd
  have hcd : c.xu.dwell = some d := by rw [hc]; exact hd
  have hyz : y.ft.zone = b.zone := by rw [hy, hc]; exact hz
  have hdl : dwellingLink y = some (otherLink l) := dwellingLink_of (by rw [hylink]; exact ho) (by rw [otherLink_otherLink, hylink]; exact hl)
    (by rw [hylink]; exact hen) (by rw [hylink]; exact (usable_iff _).mpr (.inl hr)) (by rw [hy, hc]; exact hlock)
  have hcx : dwelt c = dwelt x := by rw [hc]; rfl
  have hyt : dwelt y = ((keptEntries b).find? fun e => decide (e.zone = d.zone)).map (neighbourFrom c.xu.neighbours) := by
    rw [hy]
    exact dwelt_tableTaken hcd
  have hdist : distribute b x = takeNeighbourList b.zone b.neighbours c := by rw [distribute_eq, hc]
  have hadjusts : (∀ old new, dwelt c = some old → dwelt y = some new → new.channel = old.channel) → distribute b x = adjustDwell y := fun h => by
    rw [hdist, hy]
    exact takeNeighbourList_adjusts fun old new => by rw [← hy]; exact h old new
  have hrole : (linkOf y (otherLink l)).role ≠ .primary := by
    rw [hylink, ho]
    exact Role.noConfusion
  have husable := dwellingLink_usable hdl
  refine ⟨fun o e hox he => ?_, fun e rest hno hk => ?_, fun hk => ?_⟩
  · obtain ⟨hez, hech⟩ := neighbourFrom_zone c.xu.neighbours e
    have hkz : (neighbourFrom c.xu.neighbours e).zone ≠ b.zone := by
      rw [hez]
      exact zone_of_keptEntries (List.mem_of_find?_eq_some he)
    have hnew : dwelt y = some (neighbourFrom c.xu.neighbours e) := by
      rw [hyt, he]
      rfl
    refine ⟨fun hch => ?_, fun hch => ?_⟩
    · have hstill : distribute b x = y := by
        rw [hadjusts fun old new hold hn => ?_, adjustDwell_keeps hdl hnew (by rw [hyz]; exact hkz)]
        rw [hnew] at hn
        rw [hcx, hox] at hold
        cases hn
        cases hold
        exact hech.trans hch
      rw [hstill]
      exact ⟨by rw [hyd, hd], by rw [hy, hc]; rfl, by rw [hy, hc]; rfl, hylink _⟩
    · have hrestart : distribute b x = startDwell (otherLink l) (neighbourFrom c.xu.neighbours e) y := by
        rw [hdist, takeNeighbourList_restarts (hcx.trans hox) (by rw [← hy]; exact hnew) (by rw [← hy]; exact hdl) (by rw [hech]; exact hch)
          (by rw [show c.ft.zone = b.zone by rw [hc]; exact hz]; exact hkz), ← hy]
      obtain ⟨h1, h2, h3, -⟩ := startDwell_started (s := y) hrole husable (neighbourFrom c.xu.neighbours e)
      have hed : e.zone = d.zone := of_decide_eq_true (List.find?_some (p := fun e : NeighbourEntry => decide (e.zone = d.zone)) he)
      rw [hrestart, h1, hez, hed]
      exact ⟨rfl, h2, h3⟩
  · have hnone : dwelt y = none := by
      rw [hyt, List.find?_eq_none.mpr fun e he => by rw [decide_eq_true_iff]; exact hno e he]
      rfl
    have hadj : distribute b x = adjustDwell y := hadjusts fun old new _ hn => by
      rw [hnone] at hn
      cases hn
    obtain ⟨h1, h2, h3, -, -, h6⟩ := starts_first (s := c) hdl (by rw [hy]) hyz hnone hk
    obtain ⟨hez, hech⟩ := neighbourFrom_zone c.xu.neighbours e
    rw [hez] at h1
    rw [hylink, hech] at h6
    refine ⟨by rw [hadj]; exact h1, by rw [hadj]; exact h2, by rw [hadj]; exact h3, fun hch hb => ?_⟩
    have hyb : burstOn y (otherLink l) = false := by
      rw [hy, hc]
      exact hb
    have hready : ¬((linkOf x (otherLink l)).condition = .tuning ∨ burstOn y (otherLink l) = true) := by
      rw [hr, hyb]
      simp
    rw [hadj, h6, if_neg fun h => hch h.2, LinkState.retuned, if_neg hready, hy, hc]
    rfl
  · have hempty : y.xu.neighbours = [] := by
      rw [hy, tableTaken, hk]
      rfl
    have hadj : distribute b x = endDwell y := by
      have hnew : ∀ old new, dwelt c = some old → dwelt y = some new → new.channel = old.channel := fun old new _ hn => by
        rw [hyt, hk] at hn
        cases hn
      have hnil : ∀ n ∈ y.xu.neighbours, n.zone = y.ft.zone := fun n hn => by
        rw [hempty] at hn
        cases hn
      rw [hadjusts hnew, adjustDwell_ends hnil]
    rw [hadj]
    exact ⟨rfl, rfl⟩

end Sys2Proof.Machine
end

section
/-! SUPPORT. RECEIVED beacons that are taken (R87 to R94, R125 to R127, R140). -/

-- One proof is checked after another: each worker thread of Lean reserves memory of its own.
set_option Elab.async false

namespace Sys2Proof.Machine

/-- Settles O59. -/
theorem beaconTaken : Obligations.BeaconTaken := by
  intro dt l status burst a b before s hport hroles hgood hburst hp1 hp2 hs1 hs2 hps k q f other hheld names acked joined allowed kept listed
    inWindow marked numbered steady seeded gives heard seed
  have hx : ∀ z, routeReport l k.held status burst (putLink l { k with held := none } s) = z →
      gives (releaseWatch l (releaseClose l z)) := fun z hz => by
    subst hz
    exact exec_received hport
  obtain ⟨p, hp⟩ : ∃ p, p = putLink l { k with held := none } s := ⟨_, rfl⟩
  rw [← hp] at hx
  have hpl : linkOf p l = { k with held := none } := by rw [hp, linkOf_putLink_self]
  have hpo : linkOf p (otherLink l) = other := by rw [hp]; cases l <;> rfl
  have hpft : p.ft = s.ft := by rw [hp, putLink_ft]
  have hpxu : p.xu.neighbours = s.xu.neighbours ∧ p.xu.dwell = s.xu.dwell ∧ p.xu.watch = s.xu.watch ∧ p.xu.dwellBeacon = s.xu.dwellBeacon := by
    rw [hp]
    cases l <;> exact ⟨rfl, rfl, rfl, rfl⟩
  have hpsame : p.uq = s.uq ∧ p.ab = s.ab ∧ p.ssu = s.ssu ∧ p.ram = s.ram ∧ p.wt = s.wt ∧ p.ftu = s.ftu ∧ p.dlf = s.dlf ∧ p.cu = s.cu ∧
      p.carid = s.carid := by
    rw [hp]
    cases l <;> exact ⟨rfl, rfl, rfl, rfl, rfl, rfl, rfl, rfl, rfl⟩
  obtain ⟨huq, hab, hssu, hram, hwt, hftu, hdlf, hcu, hcarid⟩ := hpsame
  have hwell : Beacon.wellFormed b.period b.slots = true := (wellFormed_iff b).mpr ⟨hp1, hp2, hs1, hs2, hps⟩
  have hquality : reportQuality status = q := by
    show (status.setWidth 6).toNat = status.toNat % 64
    rw [BitVec.toNat_setWidth]
  have hfilter : filterReport l k.held status burst p = handBeacon l a q b p := by
    rw [filterReport, show reportGood status = true from hgood, hburst, hheld, hquality]
    rfl
  have hscreen : heard → f.lock ≠ .search → routeReport l k.held status burst p = screenBeacon a q b p := fun hh hl => by
    rw [routeReport_primary (by rw [hpft]; exact hl) (by rw [hpl]; exact hh.1) (by rw [hpl]; exact hh.2), hfilter, handBeacon, if_pos hwell,
      if_neg (by rw [hpft]; exact hl)]
  have hwithin : ∀ w, inWindow w ↔ f.window = some w ∧ withinTicks a w.expected w.half = true := fun w =>
    and_congr_right fun _ => (withinTicks_iff a w.expected w.half).symm
  have hqueue : ∀ v : State, v.uq = s.uq → v.carid = s.carid → takenQueue b v = joined := fun v h1 h2 => by
    rw [takenQueue, h1, h2]
    rfl
  have hallow : ∀ v : State, v.ab = s.ab → takeAllowance b.allowance v.ab = allowed := fun v h => by
    rw [h]
    rfl
  have hlisted : ∀ v t : State, BeaconListed b v t → v.carid = s.carid → v.xu.neighbours = s.xu.neighbours → v.ram = s.ram → v.wt = s.wt →
      v.ftu = s.ftu → v.dlf = s.dlf → v.cu = s.cu → listed t := fun v t h h1 h2 h3 h4 h5 h6 h7 => by
    rw [BeaconListed, h1, h2, h3, h4, h5, h6, h7] at h
    exact h
  have htake : ∀ w, heard → f.lock ≠ .search → inWindow w → w.taken = false → b.zone = f.zone → ∃ z,
      routeReport l k.held status burst p = followFrameStart z ∧ ContentTaken b p z ∧ z.ft = takenLock (takeTiming a q b w f) ∧
      z.xu = (distribute b { p with ft := takeTiming a q b w f }).xu := fun w hh hl hw ht hz => by
    obtain ⟨hwin, hin⟩ := (hwithin w).mp hw
    obtain ⟨z, hr, hc, hft, -, hxu⟩ := takeInWindow_content a q b w p
    rw [hpft] at hft hxu
    exact ⟨z, (hscreen hh hl).trans ((screenBeacon_takes (by rw [hpft]; exact hz) (by rw [hpft]; exact hwin) hin ht).trans hr), hc, hft, hxu⟩
  have hlist : ∀ z ft, ContentTaken b p z → listed { z with ft := ft } := fun z ft hc =>
    hlisted p _ hc.listed hcarid hpxu.1 hram hwt hftu hdlf hcu
  have hsteady : ∀ w (z : State), heard → ContentTaken b p z → z.ft = takenLock (takeTiming a q b w f) →
      steady w (releaseWatch l (releaseClose l z)) := fun w z hh hc hft => by
    obtain ⟨frame, pendingFrame, renumbers, htime, hnum⟩ := takeTiming_eq a q b w f
    obtain ⟨lock, good, miss, syncErrors, hlock⟩ := takenLock_eq (takeTiming a q b w f)
    rw [hlock, htime] at hft
    rw [release_content hc (by rw [hpl]; exact hh.1)]
    have hmark : (z.ft.window.map fun w => { w with wait := w.wait.release }) = marked w := by
      rw [hft]
      exact congrArg some (release_marked q w)
    rw [hmark]
    refine ⟨rfl, ?_, by rw [hft], by rw [hft], by rw [hft], by rw [hft], by rw [hft], by rw [hft], hc.uq.trans (hqueue p huq hcarid),
      hc.ab.trans (hallow p hab), by rw [hc.ssu, hssu], hlist z _ hc⟩
    dsimp only [numbered]
    rw [hft]
    exact hnum
  have hnext : ∀ w (z : State), z.ft = takenLock (takeTiming a q b w f) → z.ft.next = (steer a w f).next ∧ z.ft.tick = f.tick := fun w z hft => by
    obtain ⟨-, -, -, -, h1, h2⟩ := takeTiming_lock a q b w f
    rw [hft, (takenLock_next _).1, (takenLock_next _).2]
    exact ⟨h1, h2⟩
  have hlocks : ∀ w (t : State), f.lock = .acquire → t.ft.lock = (takenLock (takeTiming a q b w f)).lock ∧
      t.ft.good = (takenLock (takeTiming a q b w f)).good ∧ t.ft.miss = (takenLock (takeTiming a q b w f)).miss ∧
      t.ft.syncErrors = (takenLock (takeTiming a q b w f)).syncErrors →
      (f.good < 2 → t.ft.lock = .acquire ∧ t.ft.good = f.good + 1 ∧ t.ft.miss = 0) ∧
      (2 ≤ f.good → t.ft.lock = .locked ∧ t.ft.good = 0 ∧ t.ft.miss = 0 ∧ t.ft.syncErrors = 0) := fun w t hl h => by
    obtain ⟨h1, h2, h3, h4⟩ := h
    obtain ⟨hk, hg, -⟩ := takeTiming_lock a q b w f
    refine ⟨fun hlt => ?_, fun hge => ?_⟩
    · rw [takenLock_few (hk.trans hl) (by rw [hg]; exact hlt)] at h1 h2 h3
      exact ⟨h1.trans (hk.trans hl), h2.trans (by rw [← hg]), h3⟩
    · rw [takenLock_third (hk.trans hl) (by rw [hg]; exact hge)] at h1 h2 h3 h4
      exact ⟨h1, h2, h3, h4⟩
  have hseeded : ∀ t : State, t.ft = { seededTiming a b f with window := seededWindow a b f } → seeded t := fun t h => by
    dsimp only [seeded]
    rw [h]
    exact ⟨rfl, rfl, rfl, rfl, rfl, rfl, rfl, rfl, rfl, rfl, rfl, rfl, rfl, rfl, rfl⟩
  refine ⟨?_, ?_, ?_, ?_, ?_⟩
  · intro w fn hh hl hw ht hn hz c hd
    obtain ⟨z, hr, hc, hft, -⟩ := htake w hh (by obtain hl | hl := hl <;> rw [hl] <;> exact LockState.noConfusion) hw ht hz
    obtain ⟨hzn, hzt⟩ := hnext w z hft
    rw [steer_follows hl hn] at hzn
    obtain ⟨hk, hg, hm, hs, -, -⟩ := takeTiming_lock a q b w f
    have hfinal := release_content hc (by rw [hpl]; exact hh.1)
    refine ⟨_, hx z (hr.trans (followFrameStart_none hzn (by rw [hzt]; exact hd))), hsteady w z hh hc hft, ?_, ?_, fun h => ?_, fun h => ?_⟩
    all_goals
      rw [hfinal]
      dsimp only
    · exact hzn
    · rw [hft]
      obtain hl | hl := hl
      · rw [takenLock_locked (hk.trans hl), hk, hl]
      · rw [takenLock_holdover (hk.trans hl)]
    · rw [hft, takenLock_locked (hk.trans h)]
      exact ⟨hg, hm, hs⟩
    · rw [hft, takenLock_holdover (hk.trans h)]
      exact ⟨rfl, rfl, rfl⟩
  · intro w hh hl hw ht hz own locks
    refine ⟨fun hb hd => ?_, fun hb hd hpend hdw => ?_⟩
    · obtain ⟨z, hr, hc, hft, -⟩ := htake w hh (by rw [hl]; exact LockState.noConfusion) hw ht hz
      obtain ⟨hzn, hzt⟩ := hnext w z hft
      rw [steer_acquire hl, if_pos hb] at hzn
      have hfinal := release_content hc (by rw [hpl]; exact hh.1)
      refine ⟨_, hx z (hr.trans (followFrameStart_none hzn (by rw [hzt]; exact hd))), hsteady w z hh hc hft, ?_, hlocks w _ hl ?_⟩
      all_goals
        rw [hfinal]
      · exact hzn
      · exact ⟨by rw [← hft], by rw [← hft], by rw [← hft], by rw [← hft]⟩
    · obtain ⟨z, hr, hc, hft, hxu⟩ := htake w hh (by rw [hl]; exact LockState.noConfusion) hw ht hz
      obtain ⟨hzn, hzt⟩ := hnext w z hft
      rw [steer_acquire hl, if_neg (by rw [hb]; exact Bool.false_ne_true)] at hzn
      obtain ⟨hbegun, hfig⟩ := frameStartAt_unheard (s := z) own fun d hzd => by
        rw [hxu] at hzd
        exact distribute_unheard (s := { p with ft := takeTiming a q b w f }) (hpxu.2.1.trans hdw) hzd
      have hlock : z.ft.lock ≠ .search := by
        obtain ⟨h1, h2⟩ := hlocks w z hl ⟨by rw [hft], by rw [hft], by rw [hft], by rw [hft]⟩
        obtain hg | hg := Nat.lt_or_ge f.good 2
        · rw [(h1 hg).1]
          exact LockState.noConfusion
        · rw [(h2 hg).1]
          exact LockState.noConfusion
      obtain ⟨y, hy⟩ : ∃ y, y = frameStartAt own z := ⟨_, rfl⟩
      have hfollow : followFrameStart z = y := (followFrameStart_due hlock hzn (by rw [hzt]; exact hd)).trans hy.symm
      rw [← hy] at hbegun hfig
      have hrole : (linkOf y l).role = .primary := (hfig l).role.trans (by rw [hc.primary l (by rw [hpl]; exact hh.1), hpl]; exact hh.1)
      have hyft := hbegun.ft
      obtain ⟨frame, pendingFrame, renumbers, htime, hnum⟩ := takeTiming_eq a q b w f
      obtain ⟨lock, good, miss, syncErrors, hlk⟩ := takenLock_eq (takeTiming a q b w f)
      have hlayout : z.ft.layout = some ⟨b.period, b.slots, 1⟩ := by
        rw [hft, hlk, htime, hb]
        rfl
      have hzf : z.ft.period = f.period ∧ z.ft.slots = f.slots ∧ z.ft.frame = frame ∧ z.ft.pendingFrame = pendingFrame ∧
          z.ft.window = some { w with taken := true, quality := q } := by
        rw [hft, hlk, htime]
        exact ⟨rfl, rfl, rfl, rfl, rfl⟩
      obtain ⟨hper, hslots, hfr, hpf, hwin⟩ := hzf
      obtain ⟨hbp, hbs, hbl⟩ := beginFrame_later (s := z) (fn := own) hlayout (Nat.one_pos)
      have hfinal := release_primary hrole
      refine ⟨_, hx y (hr.trans hfollow), hlocks w _ hl ?_, ?_, ?_, ?_, ?_, ?_, ?_, ?_, ?_, ?_, ?_, ?_, ?_⟩
      all_goals
        rw [hfinal]
        dsimp only
      · rw [hyft, ← hft]
        exact ⟨rfl, rfl, rfl, rfl⟩
      · rw [hyft]
        rfl
      · rw [hyft, beginFrame_next, hbp, hper]
      · rw [hyft, hbp, hper]
      · rw [hyft, hbs, hslots]
      · have hframe : (beginFrame own z.ft).frame = pendingFrame.getD (frame + 1#6) := by
          rw [← hfr, ← hpf]
          rfl
        rw [hyft, hframe, numbered_next (hb ▸ hnum) hpend]
      · rw [hyft]
        rfl
      · rw [hyft, hbl]
        rfl
      · have hwindow : (beginFrame own z.ft).window = some { w with taken := true, quality := q, begun := true } := by
          unfold beginFrame
          rw [hwin]
          rfl
        rw [hyft, hwindow]
        exact ⟨_, rfl, rfl, rfl, rfl⟩
      · rw [hbegun.ssu]
        show z.ssu.grants = _
        rw [hc.ssu, hcarid]
        rfl
      · rw [hbegun.ssu]
        show z.ssu.contention = _
        rw [hc.ssu]
        rfl
      · rw [hbegun.ab, hc.ab, hallow p hab]
        rfl
      · rw [hbegun.same.1, hc.same.1, hram]
  · intro hh hl hout hd
    have hreseeds : routeReport l k.held status burst p = takeReseed a b p := by
      rw [hscreen hh (by rw [hl]; exact LockState.noConfusion)]
      refine screenBeacon_reseeds (by rw [hpft]; exact hl) ?_
      rw [hpft]
      refine hout.imp (fun h w hw => Bool.eq_false_iff.mpr fun hin => h w ((hwithin w).mpr ⟨hw, hin⟩)) fun ⟨w, hw, ht, hz⟩ => ?_
      obtain ⟨hwin, hin⟩ := (hwithin w).mp hw
      exact ⟨w, hwin, hin, ht, hz⟩
    obtain ⟨z, hz, hc⟩ := takeReseed_content (p := p) (a := a) (b := b) (by rw [hpft]; exact hd)
    obtain ⟨y, hy⟩ : ∃ y, y = { z with ft := { seededTiming a b p.ft with window := seededWindow a b p.ft } } := ⟨_, rfl⟩
    have hyc : ContentTaken b p y := by
      rw [hy]
      exact ⟨hc.uq, hc.ab, hc.ssu, hc.table, hc.same, hc.primary, hc.figures⟩
    have hwindow : (y.ft.window.map fun w => { w with wait := w.wait.release }) = y.ft.window := by
      rw [hy]
      exact release_seeded p.ft
    have hfinal : releaseWatch l (releaseClose l y) = y := by
      rw [release_content hyc (by rw [hpl]; exact hh.1), hwindow]
    have hgives := hx y (hreseeds.trans (hz.trans hy.symm))
    rw [hfinal] at hgives
    refine ⟨y, hgives, hseeded y (by rw [hy, hpft]), hyc.uq.trans (hqueue p huq hcarid), hyc.ab.trans (hallow p hab),
      by rw [hyc.ssu, hssu], hlist y y.ft hyc, ?_⟩
    rw [hyc.primary l (by rw [hpl]; exact hh.1), hpl]
  · intro hl hen hready hd
    have hsearch : p.ft.lock = .search := by rw [hpft]; exact hl
    have hroute : routeReport l k.held status burst p = takeInSearch l a q b p := by
      have hscan : (scanning p l && decide ((linkOf p l).condition = .ready) && reportGood status) = true := by
        rw [scanning, hpl, hsearch, show reportGood status = true from hgood, Bool.and_true, Bool.and_eq_true, Bool.and_eq_true, Bool.and_eq_true]
        exact ⟨⟨⟨rfl, hen⟩, (usable_iff _).mpr (.inl hready)⟩, decide_eq_true hready⟩
      have hstart : routeReport l k.held status burst p = filterReport l k.held status burst p := by
        rw [routeReport, if_pos hsearch]
        exact if_pos hscan
      rw [hstart, hfilter, handBeacon, if_pos hwell, if_pos hsearch]
    obtain ⟨v, hv⟩ : ∃ v, v = claimPrimary l q p := ⟨_, rfl⟩
    obtain ⟨win, hvft⟩ := claimPrimary_timing l q p
    have hfig := claimPrimary_figures l q p
    have hside := side_eq_iff.mp (claimPrimary_side l q p)
    have hvid := claimPrimary_carid l q p
    rw [← hv] at hvft hfig hside hvid
    rw [hpft] at hvft
    rw [hpo] at hfig
    obtain ⟨hvl, hva, hvs, hvo⟩ := hfig
    obtain ⟨hvram, hvwt, hvftu, hvdlf, hvab, -, -⟩ := hside
    have htiming : seededTiming a b v.ft = seededTiming a b f := by rw [hvft]; rfl
    have hwin : seededWindow a b v.ft = seededWindow a b f := by rw [hvft]; rfl
    obtain ⟨y, attention, requests, hz, hc, hyft, hyx, hbit⟩ := takeInSearch_content (p := p) (a := a) (b := b) hv (by rw [hvft]; exact hd)
    rw [htiming, hwin] at hz
    have hzc := hc.moved (adjustDwell_table y)
    obtain ⟨x, hxe⟩ : ∃ x, x = { adjustDwell y with
      ft := { seededTiming a b f with window := seededWindow a b f }, mae.attention := attention, au.requests := requests } := ⟨_, rfl⟩
    have hxc : ContentTaken b v x := by
      rw [hxe]
      exact ⟨hzc.uq, hzc.ab, hzc.ssu, hzc.table, hzc.same, hzc.primary, hzc.figures⟩
    have hxlink : ∀ m, linkOf x m = linkOf (adjustDwell y) m := fun m => linkOf_congr (by rw [hxe]) m
    have hwindow : (x.ft.window.map fun w => { w with wait := w.wait.release }) = x.ft.window := by
      rw [hxe]
      exact release_seeded f
    have hfinal : releaseWatch l (releaseClose l x) = x := by rw [release_content hxc hvl, hwindow]
    have hgives := hx x (hroute.trans (hz.trans hxe.symm))
    rw [hfinal] at hgives
    obtain ⟨xram, xwt, -⟩ := hxc.same
    refine ⟨x, hgives, hseeded x (by rw [hxe]), by rw [(hxc.figures l).role, hvl], by rw [(hxc.figures l).a8, hva],
      by rw [(hxc.figures l).scanExpiry, hvs], fun ho => ?_, fun hb => ?_, by rw [hxc.ssu, hvid, hcarid]; rfl, by rw [hxc.ssu]; rfl,
      by rw [hxc.ab]; rfl, fun hr => ?_, by rw [hxe]; exact hbit, by rw [xram, hvram, hram], by rw [xwt, hvwt, hwt]⟩
    · obtain ⟨h1, h2⟩ := hvo ho
      exact ⟨by rw [(hxc.figures _).role, h1], by rw [(hxc.figures _).scanExpiry, h2]⟩
    · obtain ⟨linkA, linkB, mae, hidle, hother⟩ := claimPrimary_idle (s := p) l q (by rw [hssu]; exact hb)
      rw [← hv] at hidle hother
      rw [hpo] at hother
      have hvuq : v.uq = s.uq := by rw [hidle]; exact huq
      have hvns : v.xu.neighbours = s.xu.neighbours := by rw [hidle]; exact hpxu.1
      have hvcu : v.cu = s.cu := by rw [hidle]; exact hcu
      have hlv := hlisted v x hxc.listed (hvid.trans hcarid) hvns (hvram.trans hram) (hvwt.trans hwt) (hvftu.trans hftu) (hvdlf.trans hdlf) hvcu
      have hyxu : y.xu = (endDwell (tableTaken b (contentTaken b v))).xu := by
        rw [hyx, distribute_search (s := { v with ft := seedFrom a b v.ft }) (by rw [hvft]; exact hl)]
        rfl
      have hoff : other.enabled = false → other.role = .off := by
        cases l
        exacts [hroles.offB.mpr, hroles.offA.mpr]
      have hyb : y.ssu.burst = none := by
        rw [hc.ssu, hidle]
        show p.ssu.burst = none
        rw [hssu]
        exact hb
      obtain ⟨hstarts, hends⟩ := search_dwells (b := b) (o := other) hyxu (by rw [hyft]; rfl) (by rw [hyft]; exact LockState.noConfusion) hvl hother
        hoff hyb
      have hytick : y.ft.tick = f.tick := by rw [hyft, hvft]; rfl
      have hxx : x.xu = (adjustDwell y).xu := by rw [hxe]
      rw [hytick] at hstarts
      refine ⟨hxc.uq.trans (hqueue v hvuq (hvid.trans hcarid)), hxc.ab.trans (hallow v (hvab.trans hab)), hlv, ?_⟩
      intro left dwells
      have hdwells : dwells ↔ other.enabled = true ∧ other.usable = true := and_congr_right fun _ => (usable_iff other).symm
      rw [hxx, hxlink]
      exact ⟨fun e rest hdw hk => hstarts e rest (hdwells.mp hdw).1 (hdwells.mp hdw).2 hk, fun h => hends (h.imp_left (mt hdwells.mpr))⟩
    · rw [hxc.ab, hallow v (hvab.trans hab)]
      exact if_pos hr
  · intro w fn d hh hl hw ht hn hz hd hrole hcond hdw
    obtain ⟨z, hr, hc, hft, hxu⟩ := htake w hh (by rw [hl]; exact LockState.noConfusion) hw ht hz
    obtain ⟨hzn, hzt⟩ := hnext w z hft
    rw [steer_follows (.inl hl) hn] at hzn
    have hfinal := release_content hc (by rw [hpl]; exact hh.1)
    have hgives := hx z (hr.trans (followFrameStart_none hzn (by rw [hzt]; exact hd)))
    rw [hfinal] at hgives
    obtain ⟨x, hxe⟩ : ∃ x, x = { p with ft := takeTiming a q b w f } := ⟨_, rfl⟩
    rw [← hxe] at hxu
    have hxlink : ∀ m, linkOf x m = linkOf p m := fun m => linkOf_congr (by rw [hxe]) m
    have hxxu : x.xu = p.xu := by rw [hxe]
    have hxft : x.ft.lock = f.lock ∧ x.ft.zone = f.zone := by
      obtain ⟨frame, pendingFrame, renumbers, htime, -⟩ := takeTiming_eq a q b w f
      rw [hxe, htime]
      exact ⟨rfl, rfl⟩
    obtain ⟨t, ht⟩ : ∃ t : State, t = { z with ft.window := z.ft.window.map fun w => { w with wait := w.wait.release } } := ⟨_, rfl⟩
    rw [← ht] at hgives
    have htx : t.xu = (distribute b x).xu := by rw [ht, ← hxu]
    have htlink : linkOf t (otherLink l) = linkOf (distribute b x) (otherLink l) := linkOf_congr htx _
    have hxo : linkOf x (otherLink l) = other := (hxlink _).trans hpo
    have hdwelt : dwelt x = dwelt s := by simp only [dwelt, neighbourOf, hxxu, hpxu.1, hpxu.2.1]
    have hoe : other.enabled = true := enabled_of_role hroles (l := otherLink l) (by rw [show (linkOf s (otherLink l)).role = .standby from hrole]; exact Role.noConfusion)
    have hburstOn : burstOn x (otherLink l) = burstOn s (otherLink l) := by simp only [burstOn, hxe, hssu]
    obtain ⟨h1, h2, h3⟩ := followed_dwells (x := x) (b := b) (l := l) (d := d) (by rw [hxxu, hpxu.2.1]; exact hdw) (by rw [hxo]; exact hrole) (by rw [hxo]; exact hcond)
      (by rw [hxo]; exact hoe) (by rw [hxlink, hpl]; exact hh.1) (by rw [hxft.1, hl]; exact LockState.noConfusion) (by rw [hxft.2, hz])
    rw [hdwelt, hxo, hxxu, hpxu.2.1, hpxu.2.2.1, hpxu.2.2.2] at h1
    rw [hxo, hburstOn] at h2
    refine ⟨t, hgives, ?_⟩
    rw [htx, htlink]
    refine ⟨h1, fun e rest hno hk => ?_, h3⟩
    obtain ⟨g1, g2, g3, g4⟩ := h2 e rest hno hk
    refine ⟨g1, g2, g3, fun hch hb => ?_⟩
    rw [g4 hch hb]
    exact ⟨rfl, rfl, rfl⟩

end Sys2Proof.Machine
end
